-- ==== Sys2Proof/Word.lean ====
section
/-! DEFINITION. The byte, and saturating and wrapping counts. -/

namespace Sys2Proof

/-- One byte of a frame, of a record or of the register window. -/
abbrev Byte := BitVec 8

/-- The byte of a number, its low eight bits. -/
def byteOf (n : Nat) : Byte := BitVec.ofNat 8 n

/-- A count that stays at 255 once it is reached (R4, R5, R15). -/
def satAdd (n k : Nat) : Nat := min 255 (n + k)

/-- A count from 1 to `top` that wraps from `top` to 1, with 0 as "none" (00, "Numbers"). -/
def nextWrap (top n : Nat) : Nat := if n ≥ top then 1 else n + 1

end Sys2Proof
end

