-- ==== Sys2Proof/Syntax.lean ====
section
/-! DEFINITION. The commands the node takes: one constructor per row of spec/opcode_table.json. -/

namespace Sys2Proof

/-- The two train-line interfaces. -/
inductive EndId where | end1 | end2
deriving DecidableEq, Repr

/-- The End opposite. -/
def EndId.other : EndId → EndId
  | .end1 => .end2
  | .end2 => .end1

/-- The two line pairs of an End. -/
inductive Pair where | pairA | pairB
deriving DecidableEq, Repr

/-- The pair beside. -/
def Pair.other : Pair → Pair
  | .pairA => .pairB
  | .pairB => .pairA

/-- The two local ports. -/
inductive PortId where | portA | portB
deriving DecidableEq, Repr

/-- The port beside. -/
def PortId.other : PortId → PortId
  | .portA => .portB
  | .portB => .portA

/-- A coupler sense level: `opened` is high, `closed` is low, closed and mated (1.1). -/
inductive Sense where | opened | closed
deriving DecidableEq, Repr

/-- The two door sides of the coach. -/
inductive SideId where | side1 | side2
deriving DecidableEq, Repr

/-- The event groups, in summary-byte order (12.4). -/
inductive Group where | link | consist | cycle | door | heat | message | power
deriving DecidableEq, Repr

/-- What a write to an enable byte reaches (R175). -/
inductive EnableTarget where
  | causes (g : Group)
  | groups
deriving DecidableEq, Repr

/-- The counts of an End that a write clears (R4, R5, R15). -/
inductive EndCount where | frameErrorA | frameErrorB | stray | throughDrop
deriving DecidableEq, Repr

/-- The commands of the block. A port command carries its port; its operands stand in the port's operand
bytes (R171). -/
inductive Instr where
  | powerOnReset
  | resetPin
  | resetEnd (role1 role0 idsrc : Bool)
  | loadComplete (read : Option (List Byte))
  | identityReadTimeout
  | rawSenseChange (e : EndId) (level : Sense)
  | senseDebounceExpiry (e : EndId)
  | copyStart (e : EndId) (p : Pair)
  | lineIdleAbort (e : EndId) (p : Pair)
  | copyReceived (e : EndId) (p : Pair) (bytes : List Byte)
  | twinWindowExpiry (e : EndId)
  | linkIdleExpiry (e : EndId)
  | keepaliveExpiry (e : EndId)
  | arbiterTake (e : EndId)
  | transmitComplete (e : EndId)
  | callOriginate
  | hopTimerExpiry
  | inaugurationTimerExpiry
  | commitWaitExpiry
  | silenceExpiry
  | cycleTimeoutExpiry
  | periodTimerExpiry
  | refreshTimerExpiry
  | closeTimerExpiry (side : SideId)
  | attendanceTimerExpiry
  | proofLifetimeExpiry
  | stageTimerExpiry (stage : Nat)
  | transmitServerStep
  | storingEnd (buffer : Nat)
  | deadlineExpiry (sequence : Nat)
  | wakeSettleExpiry
  | transactionStart (p : PortId) (command : Option Byte)
  | transactionEnd (p : PortId)
  | areaCapture (p : PortId)
  | stageTimerLowRead (p : PortId) (stage : Nat)
  | stageTimerHighRead (p : PortId) (stage : Nat)
  | flagClear (p : PortId) (g : Group) (v : Byte)
  | enableWrite (p : PortId) (t : EnableTarget) (v : Byte)
  | countClearWrite (p : PortId) (e : EndId) (c : EndCount)
  | identityFieldWrite (p : PortId) (offset : Nat) (v : Byte)
  | registerWrite (p : PortId) (address : Nat) (v : Byte)
  | claimCab (p : PortId)
  | releaseCab (p : PortId)
  | setStandstill (p : PortId)
  | issueOrder (p : PortId)
  | writeDoorStatus (p : PortId)
  | localClose (p : PortId)
  | setLineTiming (p : PortId)
  | setDemand (p : PortId)
  | setSupplyBudget (p : PortId)
  | selectPosition (p : PortId)
  | take (p : PortId)
  | selectBuffer (p : PortId)
  | post (p : PortId)
  | fetch (p : PortId)
  | returnBuffer (p : PortId)
  | setQuotas (p : PortId)
  | nodeReset (p : PortId)
  | endReset (p : PortId)
  | stable (p : PortId)
  | wakeCommand (p : PortId)
  | lockIdentity (p : PortId)
deriving DecidableEq, Repr

end Sys2Proof
end

