-- ==== Sys2Proof/Decode.lean ====
section
/-! DEFINITION. The table gives none of its rows bits, so no word spells a command. -/

namespace Sys2Proof

/-- The command a word spells by the table's bits: no row has any (spec/opcode_table.json, "fields": []; log 20). -/
def decodeTableWord (nbits w : Nat) : Option Instr :=
  let _ := (nbits, w)
  none

end Sys2Proof
end

