-- ==== Sys2Proof/Config.lean ====
section
/-! DEFINITION. What the part fixes (timer lengths, sizes) and the free values: what the manual leaves open. -/

namespace Sys2Proof.Config

/-- One millisecond, in the clock's microseconds. -/
def ms (n : Nat) : Nat := n * 1000

/-- Sense Debounce (R1). -/
def debounceMs : Nat := 100
/-- Link Idle Timeout (R3). -/
def linkIdleMs : Nat := 200
/-- Twin Window (R7). -/
def twinWindowMs : Nat := 2
/-- Keepalive timer (R19). -/
def keepaliveMs : Nat := 50
/-- Hop Timer (R31). -/
def hopMs : Nat := 100
/-- Deadline of an In-Flight entry (R156). -/
def deadlineMs : Nat := 250
/-- Time the identity read may take (R179). -/
def identityReadMs : Nat := 50
/-- Frames a Through Queue holds (R15). -/
def throughSize : Nat := 6
/-- Misses that make a pair DEGRADED (R8). -/
def missLimit : Nat := 8
/-- Credits that make a pair HEALTHY again (R8). -/
def recoveryLimit : Nat := 64
/-- Buffers of the pool (R147). -/
def bufferCount : Nat := 96
/-- Bytes of a buffer (9.1). -/
def bufferBytes : Nat := 64
/-- Entries of the In-Flight Table (R156). -/
def inFlightSize : Nat := 4
/-- NOTEs of the Note Queue (R160). -/
def noteQueueSize : Nat := 8
/-- Largest Payload Length (R5). -/
def maxPayload : Nat := 352

/-- FREE VALUE (log 9). Whether a time left that is no whole number of milliseconds is shown rounded up. -/
opaque roundLeftUp : Bool
/-- FREE VALUE (log 8). A byte of a several-byte identity field that the transaction did not write. -/
opaque unwrittenIdentityByte : Nat → Byte
/-- FREE VALUE (log 23). What the opcode byte of the command area reads as. -/
opaque opcodeReadback : Byte
/-- FREE VALUE (log 10). Whether a NOTE whose origin is the node's own position is offered to the head-ward End. -/
opaque ownOriginNoteHeadward : Bool

end Sys2Proof.Config
end

