-- ==== Sys2Proof/Machine/State.lean ====
section
/-! DEFINITION. The node's whole state as plain data, block by block, and its value after reset. -/

namespace Sys2Proof.Machine

/-- A timer: the moment, in µs of `State.now`, at which it runs out; `none` while it is stopped (00, "Time"). -/
abbrev Timer := Option Nat

/-- A recorded moment (R69, R104, R110): its time, and its place in the order of all recorded moments. -/
structure Moment where
  time : Nat
  order : Nat
deriving DecidableEq, Repr

/-- A consist identity: head vehicle number and generation (3.2). -/
structure Identity where
  head : Nat
  generation : Nat
deriving DecidableEq, Repr

/-- Which way round a node stands (00, "Sides and orientation"). -/
inductive Orientation where | normal | reversed
deriving DecidableEq, Repr

/-! ## Frames -/

/-- The eleven frame kinds (R9). -/
inductive FrameKind where
  | idle | count | tally | commit | call | ret | settle | order | wake | msg | note
deriving DecidableEq, Repr

/-- A frame as a node holds it: its Kind and its Payload. The Link Sequence and the CRC belong to one hop (R10). -/
structure Frame where
  kind : FrameKind
  payload : List Byte
deriving DecidableEq, Repr

/-- A Roster Entry (R33, 12.3). -/
structure RosterEntry where
  position : Nat
  vehicle : Nat
  cabFitted : Bool
  orientation : Orientation
  ready : Bool
  priority : Nat
  stageCount : Nat
  powers : Vector Nat 4
deriving DecidableEq, Repr

/-- A cycle record, its seven bytes (R70, 12.3). -/
structure CycleRecord where
  position : Byte
  doorFlags : Byte
  echo : Byte
  outcome : Byte
  demand : Byte
  applied : Byte
  nodeFlags : Byte
deriving DecidableEq, Repr

/-! ## The Ends (01) -/

/-- Link states of an End (R2), in their coding order. -/
inductive LinkState where | opened | joining | up | degraded | down
deriving DecidableEq, Repr

/-- Health of a pair (R8). -/
inductive Health where | healthy | degraded
deriving DecidableEq, Repr

/-- What a Line Receiver is doing (R5): no copy, a copy being assembled, or the rest of a copy that is lost
(R23, R184) passing by. -/
inductive Receiver where | idle | assembling | discarding
deriving DecidableEq, Repr

/-- One pair of an End (R5, R8). -/
structure PairState where
  receiver : Receiver
  health : Health
  miss : Nat
  recovery : Nat
  frameErrors : Nat
deriving DecidableEq, Repr

/-- A Twin Window: the awaited pair and the moment its 2 ms run out (R7). -/
structure TwinWindow where
  awaited : Pair
  deadline : Nat
deriving DecidableEq, Repr

/-- The five local sources of frames, in arbiter order (R13, R17). -/
inductive Source where | inauguration | cycle | door | wake | keepalive
deriving DecidableEq, Repr

/-- A Protocol Slot and the frame its source holds for this End (R14). -/
structure SourceSlot where
  slot : Option Frame
  held : Option Frame
deriving DecidableEq, Repr

/-- The five Protocol Slots of an End (R14). -/
structure Slots where
  inauguration : SourceSlot
  cycle : SourceSlot
  door : SourceSlot
  wake : SourceSlot
  keepalive : SourceSlot
deriving DecidableEq, Repr

/-- One End (1.8 gathers its items). -/
structure LineEnd where
  rawSense : Sense
  sense : Sense
  debounce : Timer
  link : LinkState
  linkIdle : Timer
  pairA : PairState
  pairB : PairState
  strayCount : Nat
  throughDrop : Nat
  lastAccepted : Nat
  txSequence : Nat
  twinWindow : Option TwinWindow
  throughQueue : List Frame
  slots : Slots
  /-- The copy going out on both pairs, delimiter apart; `none` while the transmitter is free (R17, R18). -/
  sending : Option (List Byte)
  keepalive : Timer
deriving DecidableEq, Repr

/-! ## Inauguration and the Consist Table (02, 03) -/

/-- How far a COUNTED node has come in answering the COUNT (2.1). -/
inductive TallyStage where | awaitingHop | awaitingTally | tallySent
deriving DecidableEq, Repr

/-- The count record of a COUNTED node (2.1). -/
structure CountRecord where
  head : Nat
  attempt : Nat
  position : Nat
  headward : EndId
  timeout : Nat
  stage : TallyStage
  noted : Option Nat
deriving DecidableEq, Repr

/-- The Active consist of a MEMBER node (3.1). -/
structure ActiveConsist where
  identity : Identity
  length : Nat
  entries : List RosterEntry
  position : Nat
  orientation : Orientation
  headward : EndId
  lineSilence : Nat
deriving DecidableEq, Repr

/-- The node role, with what the table holds in it: the count record exactly while COUNTED, the Active consist
exactly while MEMBER (R50, R52, and the table of 3.4). -/
inductive NodeRole where
  | unassigned
  | counted (r : CountRecord)
  | member (a : ActiveConsist)
deriving DecidableEq, Repr

/-- Reasons held in CLAIM_FAILED (2.1). -/
inductive ClaimFailure where | contest | timeout | notAtEnd | tooLong | displaced
deriving DecidableEq, Repr

/-- The head role (2.1). -/
inductive HeadRole where
  | noClaim
  | claiming
  | heading
  | claimFailed (r : ClaimFailure)
deriving DecidableEq, Repr

/-- Causes of a leaving, in the order of the table of 3.7. -/
inductive LeaveCause where
  | countReception | dissolve | commitRejected | headWardLoss | silenceExpiry | identityChange
  | commitWaitExpiry | contest | claimEnded | nodeReset
deriving DecidableEq, Repr

/-- The Inauguration Engine and the Consist Table (2.1, 3.1). -/
structure Inauguration where
  role : NodeRole
  headRole : HeadRole
  attempt : Nat
  generation : Nat
  truncated : Bool
  inaugurationTimer : Timer
  hopTimer : Timer
  commitWait : Timer
  silence : Timer
  lastCause : Option LeaveCause
deriving DecidableEq, Repr

/-! ## The Cycle Engine (04) -/

/-- The cycle state (4.1); NONE at a node that is not HEADING (R67). -/
inductive CycleState where | none | idleContinuous | idleQuiet | callOut
deriving DecidableEq, Repr

/-- The pace a SETTLE publishes (R78). -/
inductive NextMode where | quiet | continuous
deriving DecidableEq, Repr

/-- Causes of a cycle failure (R75, R76). -/
inductive CycleFailure where | timeout | unplaced | short | count
deriving DecidableEq, Repr

/-- What the node did with the last CALL (R71, R72). -/
inductive CallRole where | none | forwarded | tail | short | unplacedForwarded | unplacedShort
deriving DecidableEq, Repr

/-- The Last Settle (R79): the bytes as carried. -/
structure LastSettle where
  cycleNumber : Nat
  nextMode : Byte
  proof : Byte
  grant : Nat
deriving DecidableEq, Repr

/-- The Line Timing settings (4.9), in milliseconds. -/
structure LineTiming where
  cyclePeriod : Nat
  quietRefresh : Nat
  lineSilence : Nat
  inaugurationTimeout : Nat
  continuousOnly : Bool
deriving DecidableEq, Repr

/-- The Cycle Engine, head part and node part (4.1, R70, R71, R79, R82). -/
structure Cycle where
  state : CycleState
  number : Nat
  nextMode : NextMode
  failures : Nat
  lastFailure : Option CycleFailure
  callRequested : Bool
  lastCallLeft : Option Moment
  cycleTimeout : Timer
  periodTimer : Timer
  refreshTimer : Timer
  lastCallRole : CallRole
  lastAppended : Option CycleRecord
  statusRaised : Bool
  lastSettle : Option LastSettle
  timing : LineTiming
deriving DecidableEq, Repr

/-! ## The Door Unit (05, 06) -/

/-- The state of a door side (5.1). -/
inductive SideState where | withdrawn | released | closing
deriving DecidableEq, Repr

/-- One door side: its state, its close timer and its Overdue flag (R86, R87). -/
structure DoorSide where
  state : SideState
  closeTimer : Timer
  overdue : Bool
deriving DecidableEq, Repr

/-- The last door status written (R88). -/
structure DoorStatus where
  closedLocked1 : Bool
  closedLocked2 : Bool
  lockedOut1 : Bool
  lockedOut2 : Bool
deriving DecidableEq, Repr

/-- Order outcomes and Outcome List entries (12.3). `carried` keeps a code that the table of 12.3 does not list,
as a record carried it (log 24). -/
inductive Outcome where
  | none | applied | notAddressed | refusedStandstill | refusedLockedOut | refusedUnattended
  | refusedNotReady | pending | lost
  | carried (code : Byte)
deriving DecidableEq, Repr

/-- Actions of an order (5.3). -/
inductive DoorAction where | release | close | withdraw
deriving DecidableEq, Repr

/-- Train sides of an order (5.3). -/
inductive TrainSide where | left | right | both
deriving DecidableEq, Repr

/-- The Door Unit (5.8). -/
structure Door where
  side1 : DoorSide
  side2 : DoorSide
  attended : Bool
  attendanceTimer : Timer
  status : DoorStatus
  lastOrderId : Nat
  lastOutcome : Outcome
  headStandstill : Bool
  trainDoorsOpen : Bool
  orderCounter : Nat
  lastReleaseSent : Option Moment
deriving DecidableEq, Repr

/-- The Outstanding Order (6.1). First Sent is set exactly when its moment is recorded (R110). -/
structure OutstandingOrder where
  id : Nat
  action : DoorAction
  side : TrainSide
  first : Nat
  last : Nat
  repeatsLeft : Nat
  firstSent : Option Moment
  outcomes : List Outcome
  complete : Bool
deriving DecidableEq, Repr

/-- Order tracking and the closed proof (06). -/
structure Tracking where
  outstanding : Option OutstandingOrder
  proved : Bool
  lifetime : Timer
  lastProved : Nat
deriving DecidableEq, Repr

/-! ## Heating (07, 08) -/

/-- An entry of the Grant Table (7.2). -/
structure GrantEntry where
  grant : Nat
  lastDemand : Nat
  lastApplied : Nat
  effectiveClass : Nat
  seeded : Bool
  withheld : Bool
deriving DecidableEq, Repr

/-- The Grant Engine (7.1, 7.2, R133). -/
structure GrantEngine where
  budget : Nat
  inUse : Bool
  table : List GrantEntry
  room : Int
  takenGrant : Option Nat
deriving DecidableEq, Repr

/-- States of a heating stage (8.3). -/
inductive StageState where | off | waitingOn | on | resting
deriving DecidableEq, Repr

/-- A heating stage (R140). -/
structure Stage where
  state : StageState
  timer : Timer
deriving DecidableEq, Repr

/-- A rise in progress (R142): the moment it began, its stagger, and the on-moment of the next stage. -/
structure Rise where
  began : Nat
  stagger : Nat
  onMoment : Nat
deriving DecidableEq, Repr

/-- The Stage Drive (08). `ended` is the model's own: the rise that reached its target last, with the moment at which it
did so as its on-moment; it goes on where the Ceiling or the Demand rises at that very moment (R143; log 39). -/
structure StageDrive where
  ceiling : Nat
  fallback : Bool
  demand : Nat
  target : Nat
  stages : Vector Stage 4
  lastOn : Option Nat
  rise : Option Rise
  ended : Option Rise
deriving DecidableEq, Repr

/-! ## The Message Unit (09) -/

/-- Buffer states, with the owner port (9.1). -/
inductive BufferState where
  | free
  | held (p : PortId)
  | outbound (p : PortId)
  | inFlight (p : PortId)
  | inbound (p : PortId)
  | receiving (p : PortId)
deriving DecidableEq, Repr

/-- A message buffer: its state with its owner, its Post Identity and its 64 bytes (9.1). -/
structure Buffer where
  state : BufferState
  postIdentity : Option Identity
  bytes : List Byte
deriving DecidableEq, Repr

/-- The queues and the quota of a port (R147, R148). -/
structure PortQueues where
  outbound : List Nat
  inbound : List Nat
  quota : Nat
deriving DecidableEq, Repr

/-- A storing in progress (R158, R160): its buffer, whether a place of the Note Queue is reserved for it, and the
NOTE it will place there, `none` for a broadcast or after the consist was left. -/
structure Storing where
  buffer : Nat
  reserved : Bool
  note : Option Frame
deriving DecidableEq, Repr

/-- An In-Flight entry (R156). Its deadline runs from the taking of its frame. -/
structure InFlight where
  sequence : Nat
  buffer : Nat
  destination : Nat
  deadline : Timer
deriving DecidableEq, Repr

/-- What the Message Unit offers (R16, R156, R160). -/
inductive OfferKind where
  | note
  | unicast (buffer : Nat)
  | broadcast (buffer : Nat)
deriving DecidableEq, Repr

/-- The one frame offered, and the Ends that have yet to take it (R16). -/
structure Offer where
  kind : OfferKind
  frame : Frame
  at1 : Bool
  at2 : Bool
deriving DecidableEq, Repr

/-- The Message Unit (09). -/
structure MessageUnit where
  buffers : List Buffer
  queuesA : PortQueues
  queuesB : PortQueues
  noteQueue : List Frame
  storings : List Storing
  inFlight : List InFlight
  offer : Option Offer
  sequence : Nat
  pointer : PortId
deriving DecidableEq, Repr

/-! ## The ports and the Event Unit (10) -/

/-- The strapped role of a port (R170). -/
inductive PortRole where | door | comfort | messages
deriving DecidableEq, Repr

/-- The Result of a port (R171). -/
inductive CommandResult where | none | done | refused
deriving DecidableEq, Repr

/-- Refusal reasons (R171), in their coding order. -/
inductive Reason where
  | wrongRole | notHead | noConsist | state | range | locked | empty | quota | notHeld | notReady
deriving DecidableEq, Repr

/-- One byte per event group: flags or enables (12.4). -/
structure GroupBytes where
  link : Byte
  consist : Byte
  cycle : Byte
  door : Byte
  heat : Byte
  message : Byte
  power : Byte
deriving DecidableEq, Repr

/-- The direction of a transaction; `nothing` when its command byte was not completed (R167). -/
inductive Direction where | read | write | nothing
deriving DecidableEq, Repr

/-- A transaction in progress (R167 to R169, R181). -/
structure Transaction where
  direction : Direction
  counter : Nat
  area : Nat
  capture : Option (List Byte)
  heldBytes : List (Nat × Byte)
deriving DecidableEq, Repr

/-- A Stage Timer latch that is held: its stage and its high byte (R144). -/
structure StageLatch where
  stage : Nat
  high : Byte
deriving DecidableEq, Repr

/-- One local port, with its copy of the events (10). -/
structure Port where
  role : PortRole
  operands : Vector Byte 6
  result : CommandResult
  reason : Option Reason
  resultData : Nat
  commandCount : Nat
  areaSelect : Nat
  selectedPosition : Nat
  selectedBuffer : Option Nat
  latch : Option StageLatch
  flags : GroupBytes
  causeEnables : GroupBytes
  groupEnables : Byte
  transaction : Option Transaction
  /-- The last byte shifted out; the data output is `State.dataOut`, not driven while chip select is high (R167). -/
  shiftOut : Byte
deriving DecidableEq, Repr

/-! ## Identity and power (11) -/

/-- The Identity Record (11.1). Times stand in the coded units of 12.3: Attendance Period and Stagger Unit in
10 ms, Step Delay in 100 ms, Close Timeout and Min Off in seconds, Wake Settle in 32 µs. -/
structure IdentityRecord where
  vehicle : Nat
  cabFitted : Bool
  priority : Nat
  stageCount : Nat
  powers : Vector Nat 4
  fallbackLimit : Nat
  attendance : Nat
  closeTimeout : Nat
  stagger : Nat
  stepDelay : Nat
  minOff : Nat
  wakeSettle : Nat
deriving DecidableEq, Repr

/-- The power state (11). -/
inductive PowerState where | loading | active | stabled | waking
deriving DecidableEq, Repr

/-- Load outcomes (R179), coded from 1 (12). -/
inductive LoadOutcome where | loaded | badCheck | badField | noAnswer | notFitted
deriving DecidableEq, Repr

/-- The wake cause (R184). -/
inductive WakeCause where
  | none
  | line (e : EndId) (p : Pair)
  | sense (e : EndId)
  | port (p : PortId)
deriving DecidableEq, Repr

/-- The Last Identity Write (R181). -/
inductive IdentityWrite where | none | done | range | locked | state
deriving DecidableEq, Repr

/-- Power Control and the Identity Loader (11). -/
structure Power where
  /-- A power-on reset or the reset pin is in force (R186). -/
  held : Bool
  state : PowerState
  readTimer : Timer
  sourceFitted : Bool
  loadOutcome : Option LoadOutcome
  lastIdentityWrite : IdentityWrite
  wakeCause : WakeCause
  wakeSettle : Timer
  record : IdentityRecord
  locked : Bool
deriving DecidableEq, Repr

/-! ## The node -/

/-- The whole node, and the queue of the commands that wait for it. -/
structure State where
  now : Nat
  moments : Nat
  freeCount : Nat
  end1 : LineEnd
  end2 : LineEnd
  inaug : Inauguration
  cycle : Cycle
  door : Door
  track : Tracking
  grants : GrantEngine
  stage : StageDrive
  msg : MessageUnit
  portA : Port
  portB : Port
  power : Power
  pending : List Instr
deriving DecidableEq, Repr

/-- The node never stops, so it has no fault: the spec names none. -/
inductive Fault where
deriving DecidableEq, Repr

/-- Why a step answers nothing. -/
inductive Refusal where
  /-- Raised by a dispatch arm whose command has no meaning yet; safe: nothing is claimed of it. No arm raises it. -/
  | notModelled (mnemonic : String)
deriving DecidableEq, Repr

/-! ## Reset values -/

/-- A pair after reset (R22). -/
def PairState.reset : PairState :=
  { receiver := .idle, health := .healthy, miss := 0, recovery := 0, frameErrors := 0 }

/-- An empty slot with nothing held (R14). -/
def SourceSlot.empty : SourceSlot := { slot := none, held := none }

/-- Five empty slots (R14). -/
def Slots.empty : Slots :=
  { inauguration := .empty, cycle := .empty, door := .empty, wake := .empty, keepalive := .empty }

/-- An End after reset (R22); its pin stands at its pull-up (log 4). -/
def LineEnd.reset : LineEnd :=
  { rawSense := .opened, sense := .opened, debounce := none, link := .opened, linkIdle := none
    pairA := .reset, pairB := .reset, strayCount := 0, throughDrop := 0, lastAccepted := 0
    txSequence := 0, twinWindow := none, throughQueue := [], slots := .empty, sending := none
    keepalive := none }

/-- The Inauguration Engine and the Consist Table after reset (R50, R52, R66). -/
def Inauguration.reset : Inauguration :=
  { role := .unassigned, headRole := .noClaim, attempt := 0, generation := 0, truncated := false
    inaugurationTimer := none, hopTimer := none, commitWait := none, silence := none, lastCause := none }

/-- The Line Timing defaults (4.9). -/
def LineTiming.default : LineTiming :=
  { cyclePeriod := 100, quietRefresh := 1000, lineSilence := 3000, inaugurationTimeout := 1000
    continuousOnly := false }

/-- The Cycle Engine after reset (R85). -/
def Cycle.reset : Cycle :=
  { state := .none, number := 0, nextMode := .continuous, failures := 0, lastFailure := none
    callRequested := false, lastCallLeft := none, cycleTimeout := none, periodTimer := none
    refreshTimer := none, lastCallRole := .none, lastAppended := none, statusRaised := false
    lastSettle := none, timing := .default }

/-- A door side after reset (R106). -/
def DoorSide.reset : DoorSide := { state := .withdrawn, closeTimer := none, overdue := false }

/-- The Door Unit after reset (R106, R107). -/
def Door.reset : Door :=
  { side1 := .reset, side2 := .reset, attended := false, attendanceTimer := none
    status := { closedLocked1 := false, closedLocked2 := false, lockedOut1 := false, lockedOut2 := false }
    lastOrderId := 0, lastOutcome := .none, headStandstill := false, trainDoorsOpen := false
    orderCounter := 0, lastReleaseSent := none }

/-- Order tracking and proof after reset (R115, R120). -/
def Tracking.reset : Tracking :=
  { outstanding := none, proved := false, lifetime := none, lastProved := 0 }

/-- The Grant Engine after reset (R135). -/
def GrantEngine.reset : GrantEngine :=
  { budget := 0, inUse := false, table := [], room := 0, takenGrant := none }

/-- A stage after power-on reset (R145). -/
def Stage.reset : Stage := { state := .off, timer := none }

/-- The Stage Drive after power-on reset (R145). -/
def StageDrive.reset : StageDrive :=
  { ceiling := 0, fallback := true, demand := 0, target := 0, stages := Vector.replicate 4 .reset
    lastOn := none, rise := none, ended := none }

/-- A FREE buffer (R166). -/
def Buffer.reset : Buffer :=
  { state := .free, postIdentity := none, bytes := List.replicate Config.bufferBytes 0 }

/-- A port's queues after reset (R166). -/
def PortQueues.reset : PortQueues := { outbound := [], inbound := [], quota := 48 }

/-- The Message Unit after reset (R166). -/
def MessageUnit.reset : MessageUnit :=
  { buffers := List.replicate Config.bufferCount .reset, queuesA := .reset, queuesB := .reset
    noteQueue := [], storings := [], inFlight := [], offer := none, sequence := 0, pointer := .portA }

/-- Seven clear bytes. -/
def GroupBytes.zero : GroupBytes :=
  { link := 0, consist := 0, cycle := 0, door := 0, heat := 0, message := 0, power := 0 }

/-- A port after reset, with a role (R144, R150, R169, R172, R177). -/
def Port.reset (role : PortRole) : Port :=
  { role := role, operands := Vector.replicate 6 0, result := .none, reason := none, resultData := 0
    commandCount := 0, areaSelect := 0, selectedPosition := 1, selectedBuffer := none, latch := none
    flags := .zero, causeEnables := .zero, groupEnables := 0, transaction := none, shiftOut := 0xFF }

/-- The Blank identity (11.1). -/
def IdentityRecord.blank : IdentityRecord :=
  { vehicle := 0, cabFitted := false, priority := 0, stageCount := 0, powers := Vector.replicate 4 0
    fallbackLimit := 0, attendance := 50, closeTimeout := 20, stagger := 25, stepDelay := 20, minOff := 10
    wakeSettle := 625 }

/-- Power Control and the Identity Loader while a reset is in force (R179, R186). -/
def Power.reset : Power :=
  { held := true, state := .loading, readTimer := none, sourceFitted := false, loadOutcome := none
    lastIdentityWrite := .none, wakeCause := .none, wakeSettle := none, record := .blank, locked := false }

/-- The node under power-on reset, at the moment before it ends: RESET_END reads the straps (R179, R186). -/
def State.reset : State :=
  { now := 0, moments := 0, freeCount := 0, end1 := .reset, end2 := .reset, inaug := .reset
    cycle := .reset, door := .reset, track := .reset, grants := .reset, stage := .reset, msg := .reset
    portA := .reset .door, portB := .reset .comfort, power := .reset, pending := [] }

end Sys2Proof.Machine
end

