-- ==== Sys2Proof/Machine/Flags.lean ====
section
/-! DEFINITION. The Event Unit: flags, enables, group summaries and interrupt lines (10.4), and access to a port. -/

namespace Sys2Proof.Machine

/-- A port of the node. -/
def State.port (s : State) : PortId → Port
  | .portA => s.portA
  | .portB => s.portB

/-- Changing one port. -/
def State.modPort (s : State) (p : PortId) (f : Port → Port) : State :=
  match p with
  | .portA => { s with portA := f s.portA }
  | .portB => { s with portB := f s.portB }

/-- The queues of a port. -/
def State.queues (s : State) : PortId → PortQueues
  | .portA => s.msg.queuesA
  | .portB => s.msg.queuesB

/-- The direct causes (table of 10.4). Inbound Not Empty is a level and no direct cause (R173). -/
inductive Cause where
  | couplingChanged (e : EndId) | pairHealthChanged | linkDown | throughOverflow
  | consistCommitted | consistInvalidated | claimResult
  | cycleFailure | proofChanged
  | orderReceived | sideStateChanged | attendanceLapsed | closeOverdue | orderComplete
  | grantChanged | shedPerformed
  | freeLow | quotaReached
  | loadComplete | transitionComplete
deriving DecidableEq, Repr

/-- The group of a cause (table of 10.4). -/
def Cause.group : Cause → Group
  | .couplingChanged _ | .pairHealthChanged | .linkDown | .throughOverflow => .link
  | .consistCommitted | .consistInvalidated | .claimResult => .consist
  | .cycleFailure | .proofChanged => .cycle
  | .orderReceived | .sideStateChanged | .attendanceLapsed | .closeOverdue | .orderComplete => .door
  | .grantChanged | .shedPerformed => .heat
  | .freeLow | .quotaReached => .message
  | .loadComplete | .transitionComplete => .power

/-- The place of a cause in its byte: bits 0 upward in the order of the event table (12.4). -/
def Cause.mask : Cause → Byte
  | .couplingChanged .end1 => 0x01 | .couplingChanged .end2 => 0x02 | .pairHealthChanged => 0x04
  | .linkDown => 0x08 | .throughOverflow => 0x10
  | .consistCommitted => 0x01 | .consistInvalidated => 0x02 | .claimResult => 0x04
  | .cycleFailure => 0x01 | .proofChanged => 0x02
  | .orderReceived => 0x01 | .sideStateChanged => 0x02 | .attendanceLapsed => 0x04
  | .closeOverdue => 0x08 | .orderComplete => 0x10
  | .grantChanged => 0x01 | .shedPerformed => 0x02
  | .freeLow => 0x02 | .quotaReached => 0x04
  | .loadComplete => 0x01 | .transitionComplete => 0x02

/-- The places of a group's byte that hold a cause (table of 10.4). -/
def groupPlaces : Group → Byte
  | .link => 0x1F | .consist => 0x07 | .cycle => 0x03 | .door => 0x1F | .heat => 0x03 | .message => 0x07
  | .power => 0x03

/-- The groups in summary-byte order (12.4). -/
def allGroups : List Group := [.link, .consist, .cycle, .door, .heat, .message, .power]

/-- A group's bit in the summary byte and the group enables (12.4). -/
def groupMask : Group → Byte
  | .link => 0x01 | .consist => 0x02 | .cycle => 0x04 | .door => 0x08 | .heat => 0x10 | .message => 0x20
  | .power => 0x40

/-- The byte of a group. -/
def GroupBytes.get (b : GroupBytes) : Group → Byte
  | .link => b.link | .consist => b.consist | .cycle => b.cycle | .door => b.door | .heat => b.heat
  | .message => b.message | .power => b.power

/-- Setting the byte of a group. -/
def GroupBytes.set (b : GroupBytes) (g : Group) (v : Byte) : GroupBytes :=
  match g with
  | .link => { b with link := v }
  | .consist => { b with consist := v }
  | .cycle => { b with cycle := v }
  | .door => { b with door := v }
  | .heat => { b with heat := v }
  | .message => { b with message := v }
  | .power => { b with power := v }

/-- Setting a cause's flag in one copy (R173). -/
def Port.raise (p : Port) (c : Cause) : Port :=
  { p with flags := p.flags.set c.group (p.flags.get c.group ||| c.mask) }

/-- A cause set in one port's copy (R164, R173). -/
def State.raiseAt (s : State) (p : PortId) (c : Cause) : State := s.modPort p (·.raise c)

/-- A cause set in both ports' copies, whatever the enables (R173). -/
def State.raise (s : State) (c : Cause) : State := (s.raiseAt .portA c).raiseAt .portB c

/-- The flag byte of a group as a port reads it; Inbound Not Empty follows the port's Inbound Queue (R164, R173). -/
def State.flagByte (s : State) (p : PortId) (g : Group) : Byte :=
  let stored := (s.port p).flags.get g
  match g with
  | .message => if (s.queues p).inbound.isEmpty then stored else stored ||| 0x01
  | _ => stored

/-- A cause's flag in a port's copy. -/
def State.flagSet (s : State) (p : PortId) (c : Cause) : Bool := (s.flagByte p c.group &&& c.mask) != 0

/-- The group summary (R175). -/
def State.groupSummary (s : State) (p : PortId) (g : Group) : Bool :=
  (s.flagByte p g &&& (s.port p).causeEnables.get g) != 0

/-- The summaries of all groups, one bit each (12.4). -/
def State.summaries (s : State) (p : PortId) : Byte :=
  allGroups.foldl (fun v g => if s.groupSummary p g then v ||| groupMask g else v) 0

/-- The interrupt line of a port is driven low (R175). -/
def State.irqLow (s : State) (p : PortId) : Bool := (s.summaries p &&& (s.port p).groupEnables) != 0

/-- STABLED or WAKING: the window reads 0xFF and takes no write but a Wake (R169, R184). -/
def State.asleep (s : State) : Bool :=
  match s.power.state with
  | .stabled | .waking => true
  | .loading | .active => false

/-- The node is LOADING. -/
def State.loading (s : State) : Bool := decide (s.power.state = .loading)

/-- The summary byte of a transaction (R167, 12.4). -/
def State.summaryByte (s : State) (p : PortId) : Byte :=
  if s.asleep then 0xFF else s.summaries p ||| (if s.loading then 0x80 else 0)

/-- A port clears flags of a group: ones clear, zeros leave (R174). The level of Inbound Not Empty is not stored,
so a one at its place does nothing to it. -/
def Port.clearFlags (p : Port) (g : Group) (v : Byte) : Port :=
  { p with flags := p.flags.set g (p.flags.get g &&& ~~~v) }

/-- A port writes an enable byte (R175); a place that holds no cause stays 0 (12). -/
def Port.writeEnable (p : Port) (t : EnableTarget) (v : Byte) : Port :=
  match t with
  | .causes g => { p with causeEnables := p.causeEnables.set g (v &&& groupPlaces g) }
  | .groups => { p with groupEnables := v &&& 0x7F }

end Sys2Proof.Machine
end

