-- ==== Sys2Proof/Machine/Formats.lean ====
section
/-! DEFINITION. Layouts of frames and records, the CRCs, the envelope check of a copy (R5, R187, 12.1 to 12.3). -/

namespace Sys2Proof.Machine

/-! ## Numbers in bytes -/

/-- Two bytes, most significant first (12). -/
def be16 (n : Nat) : List Byte := [byteOf (n / 256), byteOf n]

/-- Four bytes, most significant first (12). -/
def be32 (n : Nat) : List Byte := [byteOf (n / 16777216), byteOf (n / 65536), byteOf (n / 256), byteOf n]

/-- The byte at an offset, 0 past the end. -/
def byteAt (bs : List Byte) (i : Nat) : Byte := bs.getD i 0

/-- The number at an offset of one byte. -/
def num8 (bs : List Byte) (i : Nat) : Nat := (byteAt bs i).toNat

/-- The number of two bytes, most significant first (12). -/
def num16 (bs : List Byte) (i : Nat) : Nat := num8 bs i * 256 + num8 bs (i + 1)

/-- The number of four bytes, most significant first (12). -/
def num32 (bs : List Byte) (i : Nat) : Nat := num16 bs i * 65536 + num16 bs (i + 2)

/-- The bit of a flag in a byte. -/
def flagBit (b : Bool) (i : Nat) : Byte := if b then BitVec.ofNat 8 (2 ^ i) else 0

/-- Reading a flag. -/
def hasBit (v : Byte) (i : Nat) : Bool := v.getLsbD i

/-- Cutting a list of bytes into `n` items of `k` bytes. -/
def chunks (k : Nat) : Nat → List Byte → List (List Byte)
  | 0, _ => []
  | n + 1, bs => bs.take k :: chunks k n (bs.drop k)

/-! ## CRCs -/

/-- One bit step of the CRC-16, polynomial 0x1021 (R187). -/
def crc16Bit (c : BitVec 16) : BitVec 16 :=
  if c.msb then (c <<< 1) ^^^ 0x1021#16 else c <<< 1

/-- One byte of the CRC-16, most significant bit first (R187). -/
def crc16Byte (c : BitVec 16) (b : Byte) : BitVec 16 :=
  let c := c ^^^ (b.setWidth 16 <<< 8)
  crc16Bit (crc16Bit (crc16Bit (crc16Bit (crc16Bit (crc16Bit (crc16Bit (crc16Bit c)))))))

/-- The CRC-16 of a list of bytes, initial value 0xFFFF (R187). -/
def crc16 (bs : List Byte) : BitVec 16 := bs.foldl crc16Byte 0xFFFF#16

/-- One bit step of the CRC-8, polynomial 0x31 (R188). -/
def crc8Bit (c : Byte) : Byte := if c.msb then (c <<< 1) ^^^ 0x31#8 else c <<< 1

/-- One byte of the CRC-8 (R188). -/
def crc8Byte (c : Byte) (b : Byte) : Byte :=
  crc8Bit (crc8Bit (crc8Bit (crc8Bit (crc8Bit (crc8Bit (crc8Bit (crc8Bit (c ^^^ b))))))))

/-- The CRC-8 of a list of bytes, initial value 0xFF (R188). -/
def crc8 (bs : List Byte) : Byte := bs.foldl crc8Byte 0xFF#8

/-! ## The envelope -/

/-- Kind codes (12.2). -/
def FrameKind.code : FrameKind → Byte
  | .idle => 0x01 | .count => 0x10 | .tally => 0x11 | .commit => 0x12 | .call => 0x20 | .ret => 0x21
  | .settle => 0x22 | .order => 0x30 | .wake => 0x40 | .msg => 0x50 | .note => 0x51

/-- The Kind of a code, if it is one of the eleven (R5, 12.2). -/
def FrameKind.ofCode (b : Byte) : Option FrameKind :=
  if b = 0x01 then some .idle else if b = 0x10 then some .count else if b = 0x11 then some .tally
  else if b = 0x12 then some .commit else if b = 0x20 then some .call else if b = 0x21 then some .ret
  else if b = 0x22 then some .settle else if b = 0x30 then some .order else if b = 0x40 then some .wake
  else if b = 0x50 then some .msg else if b = 0x51 then some .note else none

/-- A length of the form `base + size * n` with `n` from `lo` to `hi`. -/
def lengthFits (base size lo hi len : Nat) : Bool :=
  decide (base + size * lo ≤ len) && decide (len ≤ base + size * hi) && (len - base) % size == 0

/-- The payload lengths a Kind admits (12.2); for MSG the length follows from its Body Length byte (R187). -/
def FrameKind.admits (k : FrameKind) (payload : List Byte) : Bool :=
  let n := payload.length
  match k with
  | .idle => n == 0
  | .count => n == 8
  | .tally => lengthFits 7 10 0 31 n
  | .commit => lengthFits 9 10 0 32 n
  | .call => lengthFits 11 7 1 32 n
  | .ret => lengthFits 12 7 1 32 n
  | .settle => lengthFits 10 1 1 32 n
  | .order => n == 12
  | .wake => n == 1
  | .msg => decide (13 ≤ n) && decide (num8 payload 9 ≤ 56) && n == 13 + num8 payload 9
  | .note => n == 10

/-- The bytes of a frame under a Link Sequence, from Kind to the CRC (R18, R187). -/
def Frame.wire (f : Frame) (sequence : Nat) : List Byte :=
  let body := f.kind.code :: byteOf sequence :: (be16 f.payload.length ++ f.payload)
  body ++ be16 (crc16 body).toNat

/-- An intact copy: its Link Sequence and its frame. -/
structure IntactCopy where
  sequence : Nat
  frame : Frame
deriving DecidableEq, Repr

/-- The checks of R5 and R187 on a complete copy: `none` is a bad copy. A copy whose bytes are not as many as its
length field states cannot be complete and intact, and counts as bad. -/
def checkCopy (bytes : List Byte) : Option IntactCopy :=
  match bytes with
  | kind :: seq :: hi :: lo :: rest =>
    let len := hi.toNat * 256 + lo.toNat
    let payload := rest.take len
    let crc := rest.drop len
    match FrameKind.ofCode kind with
    | none => none
    | some k =>
      if len ≤ Config.maxPayload ∧ crc.length = 2 ∧ payload.length = len
          ∧ crc = be16 (crc16 (kind :: seq :: hi :: lo :: payload)).toNat
          ∧ k.admits payload = true ∧ seq ≠ 0 then
        some { sequence := seq.toNat, frame := { kind := k, payload := payload } }
      else none
  | _ => none

/-! ## Identity and Roster Entry -/

/-- Six bytes of a consist identity (12). -/
def Identity.bytes (i : Identity) : List Byte := be32 i.head ++ be16 i.generation

/-- The consist identity at an offset (12). -/
def identityAt (bs : List Byte) (i : Nat) : Identity :=
  { head := num32 bs i, generation := num16 bs (i + 4) }

/-- Coding of the orientation in an entry: 1 is Reversed (12.3). -/
def Orientation.isReversed : Orientation → Bool
  | .normal => false
  | .reversed => true

/-- The orientation a head-ward End gives: Normal for End 1, Reversed for End 2 (R29). -/
def orientationOf : EndId → Orientation
  | .end1 => .normal
  | .end2 => .reversed

/-- The Entry Flags byte (12.3). -/
def entryFlags (cab : Bool) (o : Orientation) (ready : Bool) (priority stages : Nat) : Byte :=
  flagBit cab 0 ||| flagBit o.isReversed 1 ||| flagBit ready 2 ||| byteOf (priority % 4 * 8)
    ||| byteOf (stages % 8 * 32)

/-- The ten bytes of a Roster Entry (12.3). -/
def RosterEntry.bytes (r : RosterEntry) : List Byte :=
  byteOf r.position :: be32 r.vehicle
    ++ [entryFlags r.cabFitted r.orientation r.ready r.priority r.stageCount]
    ++ r.powers.toList.map byteOf

/-- The Roster Entry of ten bytes (12.3). -/
def RosterEntry.ofBytes (bs : List Byte) : RosterEntry :=
  let f := byteAt bs 5
  { position := num8 bs 0
    vehicle := num32 bs 1
    cabFitted := hasBit f 0
    orientation := if hasBit f 1 then .reversed else .normal
    ready := hasBit f 2
    priority := f.toNat / 8 % 4
    stageCount := f.toNat / 32
    powers := #v[num8 bs 6, num8 bs 7, num8 bs 8, num8 bs 9] }

/-! ## Cycle record -/

/-- The seven bytes of a cycle record (12.3). -/
def CycleRecord.bytes (r : CycleRecord) : List Byte :=
  [r.position, r.doorFlags, r.echo, r.outcome, r.demand, r.applied, r.nodeFlags]

/-- The cycle record of seven bytes (12.3). -/
def CycleRecord.ofBytes (bs : List Byte) : CycleRecord :=
  { position := byteAt bs 0, doorFlags := byteAt bs 1, echo := byteAt bs 2, outcome := byteAt bs 3
    demand := byteAt bs 4, applied := byteAt bs 5, nodeFlags := byteAt bs 6 }

/-- A record shows a side Released or Closing (12.3: Door Flags bits 0 to 3). -/
def CycleRecord.doorOpen (r : CycleRecord) : Bool :=
  hasBit r.doorFlags 0 || hasBit r.doorFlags 1 || hasBit r.doorFlags 2 || hasBit r.doorFlags 3

/-- A record shows both sides Closed-Locked (12.3: Door Flags bits 4 and 5). -/
def CycleRecord.bothLocked (r : CycleRecord) : Bool := hasBit r.doorFlags 4 && hasBit r.doorFlags 5

/-- A record shows a Ready, attended node (12.3: Node Flags bits 0 and 1 clear). -/
def CycleRecord.readyAttended (r : CycleRecord) : Bool := !hasBit r.nodeFlags 0 && !hasBit r.nodeFlags 1

/-! ## Order codes -/

/-- Order outcome codes (12.3). -/
def Outcome.code : Outcome → Byte
  | .none => 0 | .applied => 1 | .notAddressed => 2 | .refusedStandstill => 3 | .refusedLockedOut => 4
  | .refusedUnattended => 5 | .refusedNotReady => 6 | .pending => 7 | .lost => 8 | .carried c => c

/-- The outcome of a code (12.3). -/
def Outcome.ofCode (b : Byte) : Outcome :=
  if b = 0 then .none else if b = 1 then .applied else if b = 2 then .notAddressed
  else if b = 3 then .refusedStandstill else if b = 4 then .refusedLockedOut
  else if b = 5 then .refusedUnattended else if b = 6 then .refusedNotReady
  else if b = 7 then .pending else if b = 8 then .lost else .carried b

/-- Action codes (12.2). -/
def DoorAction.code : DoorAction → Byte
  | .release => 1 | .close => 2 | .withdraw => 3

/-- The Action of a code (12.2). -/
def DoorAction.ofCode (b : Byte) : Option DoorAction :=
  if b = 1 then some .release else if b = 2 then some .close else if b = 3 then some .withdraw else none

/-- Train Side codes (12.2). -/
def TrainSide.code : TrainSide → Byte
  | .left => 1 | .right => 2 | .both => 3

/-- The Train Side of a code (12.2). -/
def TrainSide.ofCode (b : Byte) : Option TrainSide :=
  if b = 1 then some .left else if b = 2 then some .right else if b = 3 then some .both else none

/-- Next Mode codes (12.2). -/
def NextMode.code : NextMode → Byte
  | .quiet => 1 | .continuous => 2

/-- Role codes of ports and of messages (12.2, 12.4). -/
def PortRole.code : PortRole → Byte
  | .door => 1 | .comfort => 2 | .messages => 3

/-! ## Frame payloads (12.2) -/

/-- The content of a COUNT. -/
structure CountFrame where
  head : Nat
  attempt : Nat
  next : Nat
  timeout : Nat
deriving DecidableEq, Repr

/-- A COUNT frame (12.2). -/
def CountFrame.frame (c : CountFrame) : Frame :=
  { kind := .count, payload := be32 c.head ++ [byteOf c.attempt, byteOf c.next] ++ be16 c.timeout }

/-- Reading a COUNT (12.2). -/
def CountFrame.ofPayload (p : List Byte) : CountFrame :=
  { head := num32 p 0, attempt := num8 p 4, next := num8 p 5, timeout := num16 p 6 }

/-- The field checks of R28. -/
def CountFrame.valid (c : CountFrame) : Bool :=
  decide (c.head ≠ 0 ∧ 1 ≤ c.attempt ∧ c.attempt ≤ 3 ∧ 2 ≤ c.next ∧ c.next ≤ 33
    ∧ 200 ≤ c.timeout ∧ c.timeout ≤ 5000)

/-- Tally Flags (12.2): bit 0 TRUNCATED, bit 1 TOO_LONG, bit 2 CONTEST. -/
inductive TallyFlag where | plain | truncated | tooLong | contest
deriving DecidableEq, Repr

/-- The Tally Flags byte a node writes. -/
def TallyFlag.byte : TallyFlag → Byte
  | .plain => 0 | .truncated => 1 | .tooLong => 2 | .contest => 4

/-- The flag a received Tally Flags byte is handled under; CONTEST first, then TOO_LONG (log 13). -/
def TallyFlag.ofByte (b : Byte) : TallyFlag :=
  if hasBit b 2 then .contest else if hasBit b 1 then .tooLong else if hasBit b 0 then .truncated else .plain

/-- A TALLY frame (12.2). -/
def tallyFrame (head attempt length : Nat) (flags : Byte) (entries : List Byte) : Frame :=
  { kind := .tally, payload := be32 head ++ [byteOf attempt, byteOf length, flags] ++ entries }

/-- The Roster Entries of a TALLY payload (12.2). -/
def tallyEntries (p : List Byte) : List RosterEntry :=
  (chunks 10 ((p.length - 7) / 10) (p.drop 7)).map RosterEntry.ofBytes

/-- A COMMIT frame (12.2). -/
def commitFrame (i : Identity) (silence length : Nat) (entries : List RosterEntry) : Frame :=
  { kind := .commit, payload := i.bytes ++ be16 silence ++ byteOf length :: entries.flatMap RosterEntry.bytes }

/-- The Roster Entries of a COMMIT payload (12.2). -/
def commitEntries (p : List Byte) : List RosterEntry :=
  (chunks 10 ((p.length - 9) / 10) (p.drop 9)).map RosterEntry.ofBytes

/-- A Dissolve: a COMMIT of Length 0 (R47); its Line Silence field is 0 (DESIGN CHOICE, log 32). -/
def dissolveFrame (i : Identity) : Frame := commitFrame i 0 0 []

/-- The header of a CALL (R68, 12.2). -/
structure CallHeader where
  identity : Identity
  number : Nat
  flags : Byte
  silence : Nat
deriving DecidableEq, Repr

/-- The eleven bytes of a CALL header (12.2). -/
def CallHeader.bytes (h : CallHeader) : List Byte :=
  h.identity.bytes ++ be16 h.number ++ h.flags :: be16 h.silence

/-- Reading a CALL header (12.2). -/
def CallHeader.ofPayload (p : List Byte) : CallHeader :=
  { identity := identityAt p 0, number := num16 p 6, flags := byteAt p 8, silence := num16 p 9 }

/-- Number of records a CALL carries (12.2). -/
def callRecordCount (p : List Byte) : Nat := (p.length - 11) / 7

/-- A RETURN made from the payload of a CALL: the header, the Return Flags and the whole record list (R73). -/
def returnOfCall (p : List Byte) (short : Bool) : Frame :=
  { kind := .ret, payload := p.take 11 ++ flagBit short 0 :: p.drop 11 }

/-- The records of a RETURN (12.2). -/
def returnRecords (p : List Byte) : List CycleRecord :=
  (chunks 7 ((p.length - 12) / 7) (p.drop 12)).map CycleRecord.ofBytes

/-- The SHORT flag of a RETURN (12.2). -/
def returnShort (p : List Byte) : Bool := hasBit (byteAt p 11) 0

/-- A SETTLE frame (12.2). -/
def settleFrame (i : Identity) (number : Nat) (mode : NextMode) (proved : Bool) (grants : List Nat) : Frame :=
  { kind := .settle
    payload := i.bytes ++ be16 number ++ mode.code :: flagBit proved 0 :: grants.map byteOf }

/-- The content of an ORDER. -/
structure OrderFrame where
  identity : Identity
  id : Nat
  action : Byte
  side : Byte
  first : Nat
  last : Nat
  flags : Byte
deriving DecidableEq, Repr

/-- An ORDER frame (12.2). -/
def OrderFrame.frame (o : OrderFrame) : Frame :=
  { kind := .order
    payload := o.identity.bytes ++ [byteOf o.id, o.action, o.side, byteOf o.first, byteOf o.last, o.flags] }

/-- Reading an ORDER (12.2). -/
def OrderFrame.ofPayload (p : List Byte) : OrderFrame :=
  { identity := identityAt p 0, id := num8 p 6, action := byteAt p 7, side := byteAt p 8
    first := num8 p 9, last := num8 p 10, flags := byteAt p 11 }

/-- Wake Flags of the Status flag (12.2). -/
def wakeStatus : Byte := 1
/-- Wake Flags of the Topology flag (12.2). -/
def wakeTopology : Byte := 2

/-- A WAKE frame (12.2). -/
def wakeFrame (flags : Byte) : Frame := { kind := .wake, payload := [flags] }

/-- A WAKE with further flags set in it (R12). -/
def mergeWake (f : Frame) (flags : Byte) : Frame :=
  { f with payload := [byteAt f.payload 0 ||| flags] }

/-- The Destination code ALL (12.2). -/
def destAll : Nat := 255

/-- A NOTE frame (12.2). -/
def noteFrame (i : Identity) (origin responder sequence : Nat) (outcome : Byte) : Frame :=
  { kind := .note
    payload := i.bytes ++ [byteOf origin, byteOf responder, byteOf sequence, outcome] }

/-! ## The Identity Record (R188, 12.3) -/

/-- The Identity Flags byte (12.3). -/
def identityFlags (cab : Bool) (priority stages : Nat) : Byte :=
  flagBit cab 0 ||| byteOf (priority % 4 * 8) ||| byteOf (stages % 8 * 32)

/-- Bytes 0 to 23 of the Identity Record (12.3). -/
def IdentityRecord.bytes24 (r : IdentityRecord) : List Byte :=
  0x26 :: be32 r.vehicle ++ [identityFlags r.cabFitted r.priority r.stageCount]
    ++ r.powers.toList.map byteOf
    ++ [byteOf r.fallbackLimit, byteOf r.attendance, byteOf r.closeTimeout, byteOf r.stagger
      , byteOf r.stepDelay, byteOf r.minOff] ++ be16 r.wakeSettle ++ [0, 0, 0, 0, 0, 0]

/-- The 25 bytes of the Identity Record area, the check byte computed afresh (R188). -/
def IdentityRecord.area (r : IdentityRecord) : List Byte := r.bytes24 ++ [crc8 r.bytes24]

/-- The record that 24 bytes spell (12.3). -/
def IdentityRecord.ofBytes (bs : List Byte) : IdentityRecord :=
  let f := byteAt bs 5
  { vehicle := num32 bs 1, cabFitted := hasBit f 0, priority := f.toNat / 8 % 4, stageCount := f.toNat / 32
    powers := #v[num8 bs 6, num8 bs 7, num8 bs 8, num8 bs 9], fallbackLimit := num8 bs 10
    attendance := num8 bs 11, closeTimeout := num8 bs 12, stagger := num8 bs 13, stepDelay := num8 bs 14
    minOff := num8 bs 15, wakeSettle := num16 bs 16 }

/-- Every field inside its coded range (12.3); a Vehicle Number of 0 is in range, and BAD_FIELD at loading. -/
def IdentityRecord.inRange (r : IdentityRecord) : Bool :=
  decide (r.vehicle ≤ 99999999 ∧ r.stageCount ≤ 4 ∧ r.fallbackLimit ≤ 254
    ∧ 10 ≤ r.attendance ∧ r.attendance ≤ 200 ∧ 5 ≤ r.closeTimeout ∧ r.closeTimeout ≤ 60
    ∧ r.stagger ≤ 100 ∧ 5 ≤ r.stepDelay ∧ r.stepDelay ≤ 100 ∧ r.minOff ≤ 60
    ∧ 1 ≤ r.wakeSettle ∧ r.wakeSettle ≤ 65535)
  && r.powers.toList.all fun p => decide (p ≤ 127)

/-- How a completed read of 25 bytes ends (R179, R188). -/
def judgeIdentity (bs : List Byte) : LoadOutcome :=
  let r := IdentityRecord.ofBytes bs
  if bs.length ≠ 25 then .noAnswer
  else if crc8 (bs.take 24) ≠ byteAt bs 24 then .badCheck
  else if byteAt bs 0 ≠ 0x26 ∨ (bs.drop 18).take 6 ≠ [0, 0, 0, 0, 0, 0] ∨ r.vehicle = 0
      ∨ r.inRange = false then .badField
  else .loaded

end Sys2Proof.Machine
end

