-- ==== Sys2Proof/Machine/Ops.lean ====
section
/-! DEFINITION. Operations every block uses: block updates, timers, moments, the Ends' slots, queues and link
entries, WAKE production. -/

namespace Sys2Proof.Machine

/-! ## Updating one block -/

/-- An End of the node. -/
def State.lineEnd (s : State) : EndId → LineEnd
  | .end1 => s.end1
  | .end2 => s.end2

/-- Changing one End. -/
def State.modEnd (s : State) (e : EndId) (f : LineEnd → LineEnd) : State :=
  match e with
  | .end1 => { s with end1 := f s.end1 }
  | .end2 => { s with end2 := f s.end2 }

/-- Changing the Inauguration Engine and the table. -/
def State.modInaug (s : State) (f : Inauguration → Inauguration) : State := { s with inaug := f s.inaug }
/-- Changing the Cycle Engine. -/
def State.modCycle (s : State) (f : Cycle → Cycle) : State := { s with cycle := f s.cycle }
/-- Changing the Door Unit. -/
def State.modDoor (s : State) (f : Door → Door) : State := { s with door := f s.door }
/-- Changing order tracking and proof. -/
def State.modTrack (s : State) (f : Tracking → Tracking) : State := { s with track := f s.track }
/-- Changing the Grant Engine. -/
def State.modGrants (s : State) (f : GrantEngine → GrantEngine) : State := { s with grants := f s.grants }
/-- Changing the Stage Drive. -/
def State.modStage (s : State) (f : StageDrive → StageDrive) : State := { s with stage := f s.stage }
/-- Changing the Message Unit. -/
def State.modMsg (s : State) (f : MessageUnit → MessageUnit) : State := { s with msg := f s.msg }
/-- Changing power and identity. -/
def State.modPower (s : State) (f : Power → Power) : State := { s with power := f s.power }

/-- Acting only while no reset is in force (R186). -/
def State.live (s : State) (f : State → State) : State := if s.power.held then s else f s

/-- Acting only while the node is LOADING or ACTIVE: the Ends hand on no frame and the engines rest in STABLED
and WAKING (R24, R184, R185). -/
def State.awake (s : State) (f : State → State) : State :=
  if s.power.held || s.asleep then s else f s

/-! ## Time -/

/-- A timer started now for a number of microseconds. -/
def State.timerUs (s : State) (us : Nat) : Timer := some (s.now + us)

/-- A timer started now for a number of milliseconds. -/
def State.timerMs (s : State) (n : Nat) : Timer := s.timerUs (Config.ms n)

/-- The clock reaches a timer's moment: time never runs back (log 2). -/
def State.reach (s : State) (deadline : Nat) : State := { s with now := max s.now deadline }

/-- The expiry of a timer: nothing while it is stopped; otherwise the clock reaches its moment and `f` acts
(00 "Time"; log 2). -/
def State.expire (s : State) (t : Timer) (f : State → State) : State :=
  match t with
  | none => s
  | some d => f (s.reach d)

/-- The time left on a timer, in whole milliseconds (R109, R144, R165; log 9). -/
def State.leftMs (s : State) (t : Timer) : Nat :=
  match t with
  | none => 0
  | some d =>
    let us := d - s.now
    if us % 1000 = 0 then us / 1000 else if Config.roundLeftUp then us / 1000 + 1 else us / 1000

/-- The present moment, later than every moment recorded before (log 21). -/
def State.moment (s : State) : Moment := { time := s.now, order := s.moments + 1 }

/-- Recording the present moment. -/
def State.tickMoment (s : State) : State := { s with moments := s.moments + 1 }

/-- One moment came after another. -/
def Moment.after (a b : Moment) : Bool := decide (b.order < a.order)

/-! ## The consist as the blocks see it -/

/-- The node is HEADING. -/
def State.heading (s : State) : Bool := decide (s.inaug.headRole = .heading)

/-- The node is CLAIMING. -/
def State.claiming (s : State) : Bool := decide (s.inaug.headRole = .claiming)

/-- The Active consist, present exactly while the node is MEMBER (R52). -/
def State.active (s : State) : Option ActiveConsist :=
  match s.inaug.role with
  | .member a => some a
  | .unassigned | .counted _ => none

/-- The count record, present exactly while the node is COUNTED (2.1). -/
def State.counted (s : State) : Option CountRecord :=
  match s.inaug.role with
  | .counted r => some r
  | .unassigned | .member _ => none

/-- Valid (R57). -/
def State.valid (s : State) : Bool := s.active.isSome

/-- Update In Progress (R56). -/
def State.updateInProgress (s : State) : Bool := s.counted.isSome

/-- The tail-ward End of a MEMBER node is the End opposite its head-ward End (00, "Sides and orientation"). -/
def ActiveConsist.tailward (a : ActiveConsist) : EndId := a.headward.other

/-- The tail-ward End of a COUNTED node. -/
def CountRecord.tailward (r : CountRecord) : EndId := r.headward.other

/-- Ready: locked with a Vehicle Number that is not 0 (R178). -/
def State.ready (s : State) : Bool := s.power.locked && decide (s.power.record.vehicle ≠ 0)

/-! ## Link state and slots of an End -/

/-- UP or DEGRADED (1.2). -/
def LinkState.usable : LinkState → Bool
  | .up | .degraded => true
  | .opened | .joining | .down => false

/-- The End is usable (1.2). -/
def State.usable (s : State) (e : EndId) : Bool := (s.lineEnd e).link.usable

/-- The End is OPEN. -/
def State.isOpen (s : State) (e : EndId) : Bool := decide ((s.lineEnd e).link = .opened)

/-- The slot of a source. -/
def Slots.get (t : Slots) : Source → SourceSlot
  | .inauguration => t.inauguration | .cycle => t.cycle | .door => t.door | .wake => t.wake
  | .keepalive => t.keepalive

/-- Setting the slot of a source. -/
def Slots.set (t : Slots) (src : Source) (v : SourceSlot) : Slots :=
  match src with
  | .inauguration => { t with inauguration := v }
  | .cycle => { t with cycle := v }
  | .door => { t with door := v }
  | .wake => { t with wake := v }
  | .keepalive => { t with keepalive := v }

/-- Placing a frame: into an empty slot, else held, in place of a frame already held (R14). -/
def SourceSlot.place (q : SourceSlot) (f : Frame) : SourceSlot :=
  match q.slot with
  | none => { q with slot := some f }
  | some _ => { q with held := some f }

/-- The arbiter takes the slot's frame and the held frame moves in (R14). -/
def SourceSlot.advance (q : SourceSlot) : SourceSlot := { slot := q.held, held := none }

/-- Dropping the slot's and the held frame where they meet a test; a held frame moves up (R67). -/
def SourceSlot.withdraw (q : SourceSlot) (p : Frame → Bool) : SourceSlot :=
  let held := q.held.filter (fun f => !p f)
  match q.slot.filter (fun f => !p f) with
  | some f => { slot := some f, held := held }
  | none => { slot := held, held := none }

/-- Changing the slot of a source at an End. -/
def LineEnd.modSlot (l : LineEnd) (src : Source) (f : SourceSlot → SourceSlot) : LineEnd :=
  { l with slots := l.slots.set src (f (l.slots.get src)) }

/-- A source places a frame for an End; at an OPEN End it is discarded at once (R13, R14). -/
def State.place (s : State) (e : EndId) (src : Source) (f : Frame) : State :=
  if s.isOpen e then s else s.modEnd e (·.modSlot src (·.place f))

/-- Frames of a slot and held, slot first. -/
def SourceSlot.frames (q : SourceSlot) : List Frame := q.slot.toList ++ q.held.toList

/-! ## Through Queue -/

/-- The drop of frames, counted in the Through Drop Count (R15). -/
def LineEnd.countDrops (l : LineEnd) (n : Nat) : LineEnd := { l with throughDrop := satAdd l.throughDrop n }

/-- Entry to OPEN or DOWN drops and counts the Through Queue (R15). -/
def LineEnd.dropQueue (l : LineEnd) : LineEnd :=
  { (l.countDrops l.throughQueue.length) with throughQueue := [] }

/-- A MSG addressed to ALL (R10). -/
def Frame.isBroadcast (f : Frame) : Bool := decide (f.kind = .msg) && num8 f.payload 6 == destAll

/-- A frame passes through toward an End (R10, R15): queued, or dropped and counted, with Through Overflow where
the queue is full; a broadcast at an OPEN End has reached the end of the train and is not counted. -/
def State.passThrough (s : State) (onward : EndId) (f : Frame) : State :=
  if s.usable onward then
    if (s.lineEnd onward).throughQueue.length < Config.throughSize then
      s.modEnd onward fun l => { l with throughQueue := l.throughQueue ++ [f] }
    else (s.modEnd onward (·.countDrops 1)).raise .throughOverflow
  else if s.isOpen onward && f.isBroadcast then s
  else s.modEnd onward (·.countDrops 1)

/-! ## Pairs -/

/-- A pair of an End. -/
def LineEnd.pair (l : LineEnd) : Pair → PairState
  | .pairA => l.pairA
  | .pairB => l.pairB

/-- Changing a pair of an End. -/
def LineEnd.modPair (l : LineEnd) (p : Pair) (f : PairState → PairState) : LineEnd :=
  match p with
  | .pairA => { l with pairA := f l.pairA }
  | .pairB => { l with pairB := f l.pairB }

/-- A pair is credited (table of R8). -/
def PairState.credit (p : PairState) : PairState :=
  match p.health with
  | .healthy => { p with miss := 0 }
  | .degraded =>
    if p.recovery + 1 ≥ Config.recoveryLimit then { p with health := .healthy, miss := 0, recovery := 0 }
    else { p with miss := 0, recovery := p.recovery + 1 }

/-- A pair misses (table of R8). -/
def PairState.missed (p : PairState) : PairState :=
  match p.health with
  | .healthy =>
    if p.miss + 1 ≥ Config.missLimit then { p with health := .degraded, miss := Config.missLimit, recovery := 0 }
    else { p with miss := p.miss + 1 }
  | .degraded => { p with miss := min Config.missLimit (p.miss + 1), recovery := 0 }

/-- Both pairs HEALTHY with counts at 0 (R2, on entry to JOINING). -/
def PairState.heal (p : PairState) : PairState := { p with health := .healthy, miss := 0, recovery := 0 }

/-- A bad copy is counted (R5). -/
def PairState.bad (p : PairState) : PairState := { p with frameErrors := satAdd p.frameErrors 1 }

/-- A copy being assembled is lost (R23, R184). -/
def PairState.lose (p : PairState) : PairState :=
  { p with receiver := if p.receiver = .assembling then .discarding else p.receiver }

/-- Both pairs are HEALTHY. -/
def LineEnd.bothHealthy (l : LineEnd) : Bool :=
  decide (l.pairA.health = .healthy) && decide (l.pairB.health = .healthy)

/-- The link state follows pair health while the End is usable (R2, R8). -/
def LineEnd.followHealth (l : LineEnd) : LineEnd :=
  if l.link.usable then { l with link := if l.bothHealthy then .up else .degraded } else l

/-- A change of a pair at an End: the link state follows it, and a change of health raises Pair Health Changed
(R8). -/
def State.judgePair (s : State) (e : EndId) (p : Pair) (f : PairState → PairState) : State :=
  let before := ((s.lineEnd e).pair p).health
  let s := s.modEnd e fun l => (l.modPair p f).followHealth
  if ((s.lineEnd e).pair p).health = before then s else s.raise .pairHealthChanged

/-- Both pairs of an End are made HEALTHY (R2, R23, R24). -/
def State.healPairs (s : State) (e : EndId) : State :=
  (s.judgePair e .pairA PairState.heal).judgePair e .pairB PairState.heal

/-- A Twin Window that closes without its twin: the awaited pair misses (R7). -/
def State.closeWindow (s : State) (e : EndId) : State :=
  match (s.lineEnd e).twinWindow with
  | none => s
  | some w => (s.modEnd e fun l => { l with twinWindow := none }).judgePair e w.awaited PairState.missed

/-! ## Entries of the link state -/

/-- Entry to OPEN: queue dropped and counted, slots emptied, transmission and timers stopped, the Twin Window
cancelled (R2, R3, R7, R14, R15, R18, R19). -/
def State.enterOpen (s : State) (e : EndId) : State :=
  s.modEnd e fun l =>
    { l.dropQueue with link := .opened, linkIdle := none, keepalive := none, twinWindow := none
                       slots := .empty, sending := none }

/-- Entry to JOINING: pairs HEALTHY, Last Accepted Sequence 0, both timers started (R2, R3, R19). -/
def State.enterJoining (s : State) (e : EndId) : State :=
  (s.modEnd e fun l =>
    { l with link := .joining, lastAccepted := 0, linkIdle := s.timerMs Config.linkIdleMs
             keepalive := s.timerMs Config.keepaliveMs }).healPairs e

/-- Entry to DOWN: queue dropped and counted, Link Idle Timer stopped, Link Down raised (R2, R3, R15). -/
def State.enterDown (s : State) (e : EndId) : State :=
  (s.modEnd e fun l => { l.dropQueue with link := .down, linkIdle := none }).raise .linkDown

/-- Emptying an End without counting: transmission stopped, Twin Window cancelled, queue, slots and held frames
emptied, copies being assembled lost (R18, R23, R24). -/
def LineEnd.clearLine (l : LineEnd) : LineEnd :=
  { l with sending := none, twinWindow := none, throughQueue := [], slots := .empty
           pairA := l.pairA.lose, pairB := l.pairB.lose }

/-! ## WAKE -/

/-- Setting flags in the youngest WAKE of a Through Queue (R12). -/
def mergeYoungest (flags : Byte) : List Frame → Option (List Frame)
  | [] => none
  | f :: rest =>
    match mergeYoungest flags rest with
    | some rest => some (f :: rest)
    | none => if f.kind = .wake then some (mergeWake f flags :: rest) else none

/-- The Wake source produces a WAKE for an End: its flags are set in the youngest WAKE waiting in the Through
Queue, or a frame of its own is placed (R12, R14). -/
def State.produceWake (s : State) (e : EndId) (flags : Byte) : State :=
  match mergeYoungest flags (s.lineEnd e).throughQueue with
  | some q => s.modEnd e fun l => { l with throughQueue := q }
  | none => s.place e .wake (wakeFrame flags)

/-- A Status WAKE: where a WAKE of the node's own already waits in the Wake slot or is held, the Status flag is
set in that WAKE (R82). -/
def State.statusWake (s : State) (e : EndId) : State :=
  match mergeYoungest wakeStatus (s.lineEnd e).throughQueue, (s.lineEnd e).slots.wake.slot with
  | none, some f =>
    s.modEnd e (·.modSlot .wake fun q => { q with slot := some (mergeWake f wakeStatus) })
  | _, _ => s.produceWake e wakeStatus

/-- A topology alert on the head-ward End held: a Topology WAKE if that End is usable, else nothing (R21). -/
def State.topologyAlert (s : State) (headward : EndId) : State :=
  if s.usable headward then s.produceWake headward wakeTopology else s

/-- The flags of a node's own WAKEs pending for an End: in the slot and held (R12). -/
def SourceSlot.wakeFlags (q : SourceSlot) : Byte :=
  q.frames.foldl (fun v f => v ||| byteAt f.payload 0) 0

/-- A WAKE passes through toward an End: pending WAKEs of the node's own are merged into it and removed (R12). -/
def State.passWake (s : State) (onward : EndId) (f : Frame) : State :=
  let own := (s.lineEnd onward).slots.wake
  let merged := if own.frames.isEmpty then f else mergeWake f own.wakeFlags
  (s.modEnd onward (·.modSlot .wake fun _ => .empty)).passThrough onward merged

end Sys2Proof.Machine
end

