-- ==== Sys2Proof/Machine/Operands.lean ====
section
/-! DEFINITION. Port accesses and operands: what a written byte reaches, the operand bytes, and the judging of a
command with its Result (10.1 to 10.3). -/

namespace Sys2Proof.Machine

/-- The address of the opcode byte (12.4). -/
def opcodeAddress : Nat := 0x0E

/-- The address of area offset 0 (R168). -/
def areaBase : Nat := 0x40

/-- A data byte reached an address: the address counter stands one above it (R168). -/
def Port.reached (p : Port) (address : Nat) : Port :=
  { p with transaction := p.transaction.map fun t => { t with counter := address + 1 } }

/-- A written byte can reach an address: the open transaction writes and its address counter stands there. With no
transaction open the written byte is a transaction of its own (R167, R168; log 7). -/
def Port.takesWrite (p : Port) (address : Nat) : Bool :=
  match p.transaction with
  | some t => decide (t.direction = .write) && decide (t.counter = address)
  | none => true

/-- A read byte can be asked of an address: the open transaction reads, and its address counter stands there or among
the `plain` bytes before it, whose reads change nothing but the counter and have no row (R167, R168; log 7). -/
def Port.takesRead (p : Port) (plain address : Nat) : Bool :=
  match p.transaction with
  | some t => decide (t.direction = .read) && decide (t.counter ≤ address ∧ address ≤ t.counter + plain)
  | none => true

/-- The area in force: the transaction's, or the Area Select with none open (R169; log 7). -/
def Port.area (p : Port) : Nat :=
  match p.transaction with
  | some t => t.area
  | none => p.areaSelect

/-- In a write transaction the port shifts out 0xFF (R167). -/
def State.wrote (s : State) (p : PortId) (address : Nat) : State :=
  s.modPort p fun t => { t.reached address with shiftOut := 0xFF }

/-- A byte written at the address the counter gives: it acts at once, and is ignored in STABLED and WAKING (R167, R168,
R169). -/
def State.write (s : State) (p : PortId) (address : Nat) (f : State → State) : State :=
  s.live fun s =>
    if (s.port p).takesWrite address then
      let s := s.wrote p address
      if s.asleep then s else f s
    else s

/-- A byte written at an offset of the area with a code; a port whose area in force is another writes elsewhere
(R168, R169; log 3). -/
def State.writeArea (s : State) (p : PortId) (code offset : Nat) (f : State → State) : State :=
  if (s.port p).area = code then s.write p (areaBase + offset) f else s

/-- A byte read at an address is shifted out (R167, R168). -/
def State.readOut (s : State) (p : PortId) (address : Nat) (v : Byte) : State :=
  s.modPort p fun t => { t.reached address with shiftOut := v }

/-- Operand byte `i` of a port, 1 to 6 (R171). -/
def State.operand (s : State) (p : PortId) (i : Nat) : Byte := (s.port p).operands.toList.getD (i - 1) 0

/-- Operand byte `i` as a number. -/
def State.operandNum (s : State) (p : PortId) (i : Nat) : Nat := (s.operand p i).toNat

/-- The outcome of a command: Result, Reason, Result Data and Command Count together (R171). -/
def Port.answer (p : Port) (result : CommandResult) (reason : Option Reason) (data : Nat) : Port :=
  { p with result := result, reason := reason, resultData := data, commandCount := (p.commandCount + 1) % 256 }

/-- The outcome of a command, written at its port (R171). -/
def State.answer (s : State) (p : PortId) (result : CommandResult) (reason : Option Reason) (data : Nat) :
    State :=
  s.modPort p (·.answer result reason data)

/-- The role a command asks for; `none` admits a port of every role (table of 10.3). -/
abbrev Need := Option PortRole

/-- The role check of a command (R171, 2). -/
def State.admits (s : State) (p : PortId) : Need → Bool
  | none => true
  | some r => decide ((s.port p).role = r)

/-- The judgement of a command, in the order of R171: role, LOADING, then its own checks. -/
def State.refusal (s : State) (p : PortId) (need : Need) (check : State → Option Reason) : Option Reason :=
  if s.admits p need = false then some .wrongRole
  else if s.loading then some .state
  else check s

/-- A command written at a port: judged at once; a refused command changes nothing beyond its outcome (R171). -/
def State.command (s : State) (p : PortId) (need : Need) (check : State → Option Reason)
    (act : State → State) (data : State → Nat) : State :=
  s.write p opcodeAddress fun s =>
    match s.refusal p need check with
    | some r => s.answer p .refused (some r) 0
    | none => (act s).answer p .done none (data s)

/-- A command without Result Data (R171). -/
def State.plainCommand (s : State) (p : PortId) (need : Need) (check : State → Option Reason)
    (act : State → State) : State :=
  s.command p need check act fun _ => 0

/-- The first reason whose condition holds. -/
def firstReason : List (Bool × Reason) → Option Reason
  | [] => none
  | (true, r) :: _ => some r
  | (false, _) :: rest => firstReason rest

end Sys2Proof.Machine
end

