-- ==== Sys2Proof/Machine/Record.lean ====
section
/-! DEFINITION. The Append Unit's records and the check of a change of a record source (R33, R70, R82, R83). -/

namespace Sys2Proof.Machine

/-- The Stage Count the Stage Drive takes: 0 while LOADING (R137). -/
def State.stageCount (s : State) : Nat := if s.loading then 0 else s.power.record.stageCount

/-- A coach's level `k`: the sum of its first `k` Stage Powers (R124, R139). -/
def stageLevel (powers : List Nat) (k : Nat) : Nat := (powers.take k).sum

/-- The applied power: the Stage Powers of the stages that are ON (R140). -/
def State.appliedPower (s : State) : Nat :=
  ((s.stage.stages.toList.zip s.power.record.powers.toList).map fun x =>
    if x.1.state = .on then x.2 else 0).sum

/-- The on-count: the number of stages that are ON (R140). -/
def State.onCount (s : State) : Nat :=
  (s.stage.stages.toList.filter fun x => decide (x.state = .on)).length

/-- The Door Flags of a record, in coach sides (R70, 12.3). -/
def Door.flags (d : Door) : Byte :=
  flagBit (decide (d.side1.state = .released)) 0 ||| flagBit (decide (d.side2.state = .released)) 1
    ||| flagBit (decide (d.side1.state = .closing)) 2 ||| flagBit (decide (d.side2.state = .closing)) 3
    ||| flagBit d.status.closedLocked1 4 ||| flagBit d.status.closedLocked2 5
    ||| flagBit d.status.lockedOut1 6 ||| flagBit d.status.lockedOut2 7

/-- The Node Flags of a record (R70, 12.3). -/
def State.nodeFlags (s : State) (notReady : Bool) : Byte :=
  flagBit notReady 0 ||| flagBit (!s.door.attended) 1 ||| flagBit s.stage.fallback 2

/-- The placed record of a node at its position (R70). -/
def State.placedRecord (s : State) (position : Nat) : CycleRecord :=
  { position := byteOf position
    doorFlags := s.door.flags
    echo := byteOf s.door.lastOrderId
    outcome := s.door.lastOutcome.code
    demand := byteOf s.stage.demand
    applied := byteOf s.appliedPower
    nodeFlags := s.nodeFlags (!s.ready) }

/-- The Unplaced record (R70). -/
def State.unplacedRecord (s : State) : CycleRecord :=
  { position := 0
    doorFlags := s.door.flags
    echo := 0
    outcome := Outcome.none.code
    demand := byteOf s.stage.demand
    applied := byteOf s.appliedPower
    nodeFlags := s.nodeFlags true }

/-- The check made at every change of a record source. A MEMBER whose record differs from its Last Appended Record
raises a Status WAKE once; a head sets Call Requested once (R82, R83; log 17). -/
def State.sourceChanged (s : State) : State :=
  match s.active, s.cycle.lastAppended with
  | some a, some r =>
    if s.cycle.statusRaised = false ∧ s.placedRecord a.position ≠ r then
      if s.heading then s.modCycle fun c => { c with statusRaised := true, callRequested := true }
      else (s.modCycle fun c => { c with statusRaised := true }).statusWake a.headward
    else s
  | _, _ => s

/-- A placed record appended: it becomes the Last Appended Record and Status Raised clears (R70, R82, R83). -/
def State.appended (s : State) (r : CycleRecord) : State :=
  s.modCycle fun c => { c with lastAppended := some r, statusRaised := false }

/-- Powers of stages beyond Stage Count are 0 in a Roster Entry (R33). -/
def rosterPowers (powers : Vector Nat 4) (count : Nat) : Vector Nat 4 :=
  #v[if 1 ≤ count then powers[0] else 0, if 2 ≤ count then powers[1] else 0
   , if 3 ≤ count then powers[2] else 0, if 4 ≤ count then powers[3] else 0]

/-- The node's own Roster Entry at a position with a head-ward End; while LOADING its identity fields are those of
the Blank record (R33). -/
def State.rosterEntry (s : State) (position : Nat) (headward : EndId) : RosterEntry :=
  let r := if s.loading then IdentityRecord.blank else s.power.record
  { position := position
    vehicle := r.vehicle
    cabFitted := r.cabFitted
    orientation := orientationOf headward
    ready := s.ready && !s.loading
    priority := r.priority
    stageCount := r.stageCount
    powers := rosterPowers r.powers r.stageCount }

end Sys2Proof.Machine
end

