-- ==== Sys2Proof/Machine/DoorUnit.lean ====
section
/-! DEFINITION. The Door Unit: sides, attendance, orders, order tracking and the closed proof (05, 06). -/

namespace Sys2Proof.Machine

/-! ## Sides -/

/-- A side of the coach. -/
def Door.side (d : Door) : SideId → DoorSide
  | .side1 => d.side1
  | .side2 => d.side2

/-- Setting a side of the coach. -/
def Door.setSide (d : Door) (i : SideId) (v : DoorSide) : Door :=
  match i with
  | .side1 => { d with side1 := v }
  | .side2 => { d with side2 := v }

/-- Closed-Locked of a side in the last door status (R88). -/
def DoorStatus.closedLocked (t : DoorStatus) : SideId → Bool
  | .side1 => t.closedLocked1
  | .side2 => t.closedLocked2

/-- Locked-Out of a side in the last door status (R88). -/
def DoorStatus.lockedOut (t : DoorStatus) : SideId → Bool
  | .side1 => t.lockedOut1
  | .side2 => t.lockedOut2

/-- The state of a side. -/
def State.sideState (s : State) (i : SideId) : SideState := (s.door.side i).state

/-- Release output REL1, REL2 (R86). -/
def State.releaseOut (s : State) (i : SideId) : Bool := decide (s.sideState i = .released)

/-- Close output CLS1, CLS2 (R86). -/
def State.closeOut (s : State) (i : SideId) : Bool := decide (s.sideState i = .closing)

/-- A side takes a state: Side State Changed is raised, the close timer starts on entry to CLOSING and stops on
leaving it, and the Overdue flag is clear in a new state (R86, R87). A side already in the state stays. -/
def State.setSide (s : State) (i : SideId) (st : SideState) : State :=
  if s.sideState i = st then s
  else
    let timer := if st = .closing then s.timerMs (s.power.record.closeTimeout * 1000) else none
    ((s.modDoor (·.setSide i { state := st, closeTimer := timer, overdue := false })).raise
      .sideStateChanged).sourceChanged

/-- A RELEASED side becomes another state; every other side stays (R88, R89, R95, R96). -/
def State.fromReleased (s : State) (st : SideState) (i : SideId) : State :=
  if s.sideState i = .released then s.setSide i st else s

/-- Both sides in turn. -/
def State.bothSides (s : State) (f : State → SideId → State) : State := f (f s .side1) .side2

/-- CLOSE applied to a side (R93, R97). -/
def State.closeSide (s : State) (i : SideId) : State :=
  match s.sideState i with
  | .released => s.setSide i .closing
  | .withdrawn => if s.door.status.closedLocked i then s else s.setSide i .closing
  | .closing => s

/-- WITHDRAW applied to a side (R93). -/
def State.withdrawSide (s : State) (i : SideId) : State := s.fromReleased .withdrawn i

/-- A CALL of the current consist with Standstill clear closes every RELEASED side (R96). -/
def State.headFlags (s : State) (standstill : Bool) : State :=
  if standstill then s else s.bothSides fun s i => s.fromReleased .closing i

/-- The report of a recount or of a leaving of MEMBER (R95). -/
def State.doorReport (s : State) : State :=
  ((s.bothSides fun s i => s.withdrawSide i).modDoor fun d =>
    { d with lastOrderId := 0, lastOutcome := .none }).sourceChanged

/-! ## Timers of the Door Unit -/

/-- CLOSE_TIMER_EXPIRY: Overdue is set and Close Overdue raised; the side stays CLOSING (R87). -/
def State.closeTimerExpiry (s : State) (i : SideId) : State :=
  s.expire (s.door.side i).closeTimer fun s =>
    (s.modDoor fun d => d.setSide i { d.side i with closeTimer := none, overdue := true }).raise .closeOverdue

/-- The meaning of CLOSE_TIMER_EXPIRY (R87). -/
def execCloseTimerExpiry (i : SideId) (s : State) : Host.Outcome State Fault Refusal :=
  .next (s.live fun s => s.closeTimerExpiry i)

/-- ATTENDANCE_TIMER_EXPIRY: UNATTENDED, released sides withdrawn, Attendance Lapsed (R89). -/
def State.attendanceLapse (s : State) : State :=
  s.expire s.door.attendanceTimer fun s =>
    let s := (s.modDoor fun d => { d with attended := false, attendanceTimer := none }).sourceChanged
    (s.bothSides fun s i => s.withdrawSide i).raise .attendanceLapsed

/-- The meaning of ATTENDANCE_TIMER_EXPIRY (R89); it is taken in STABLED as at any other time. -/
def execAttendanceTimerExpiry (s : State) : Host.Outcome State Fault Refusal :=
  .next (s.live fun s => s.attendanceLapse)

/-! ## Proof -/

/-- The Proof takes a value; a change raises Proof Changed (R119). -/
def State.setProof (s : State) (v : Bool) : State :=
  if s.track.proved = v then s else (s.modTrack fun t => { t with proved := v }).raise .proofChanged

/-- The Proof becomes UNPROVEN and its lifetime timer stops (R117). -/
def State.unprove (s : State) : State :=
  (s.modTrack fun t => { t with lifetime := none }).setProof false

/-- PROVED pin (R119). -/
def State.provedPin (s : State) : Bool := s.track.proved

/-- PROOF_LIFETIME_EXPIRY (R118). -/
def State.proofLapse (s : State) : State := s.expire s.track.lifetime fun s => s.unprove

/-- The meaning of PROOF_LIFETIME_EXPIRY (R118). -/
def execProofLifetimeExpiry (s : State) : Host.Outcome State Fault Refusal :=
  .next (s.live fun s => s.proofLapse)

/-- The Cycle Timeout of a Length, in milliseconds (R69). -/
def cycleTimeoutMs (length : Nat) : Nat := 10 + length

/-- A RETURN whose CALL left at `call` can prove against the last RELEASE (R116). -/
def leftAfter (call : Option Moment) : Option Moment → Bool
  | none => true
  | some m =>
    match call with
    | some c => c.after m
    | none => false

/-- What every record must show for the proof (R116). -/
def CycleRecord.proves (r : CycleRecord) : Bool := r.readyAttended && r.bothLocked && !r.doorOpen

/-- Evaluation of the proof from a successful RETURN (R116, R118). -/
def State.evaluateProof (s : State) (length : Nat) (records : List CycleRecord) : State :=
  if leftAfter s.cycle.lastCallLeft s.door.lastReleaseSent && records.all (·.proves) then
    (s.modTrack fun t =>
      { t with lifetime := s.timerMs (s.cycle.timing.quietRefresh + cycleTimeoutMs length)
               lastProved := s.cycle.number }).setProof true
  else s.unprove

/-! ## Orders at a node -/

/-- The mapping of a train side to coach sides (R55). -/
def mapSides : Orientation → TrainSide → List SideId
  | .normal, .left => [.side1]
  | .normal, .right => [.side2]
  | .reversed, .left => [.side2]
  | .reversed, .right => [.side1]
  | _, .both => [.side1, .side2]

/-- The checks of a RELEASE on a side, in order (R92). -/
def State.releaseOutcome (s : State) (standstill : Bool) (i : SideId) : Outcome :=
  if s.ready = false then .refusedNotReady
  else if standstill = false then .refusedStandstill
  else if s.door.attended = false then .refusedUnattended
  else if s.door.status.lockedOut i then .refusedLockedOut
  else .applied

/-- The first refusal among mapped sides, or APPLIED (R91). -/
def firstRefusal : List Outcome → Outcome
  | [] => .applied
  | o :: rest => if o = .applied then firstRefusal rest else o

/-- An order as the Door Unit applies it. -/
structure DoorOrder where
  id : Nat
  action : DoorAction
  side : TrainSide
  first : Nat
  last : Nat
  standstill : Bool
deriving DecidableEq, Repr

/-- The position lies inside the window (R91). -/
def DoorOrder.addresses (o : DoorOrder) (position : Nat) : Bool :=
  decide (o.first ≤ position ∧ position ≤ o.last)

/-- The outcome an order meets at a node (R91, R92, R93). -/
def State.orderOutcome (s : State) (a : ActiveConsist) (o : DoorOrder) : Outcome :=
  if o.addresses a.position then
    match o.action with
    | .release => firstRefusal ((mapSides a.orientation o.side).map (s.releaseOutcome o.standstill))
    | .close | .withdraw => .applied
  else .notAddressed

/-- An Action applied to a side; a RELEASE only where its checks pass (R92, R93). -/
def State.applyAction (s : State) (o : DoorOrder) (i : SideId) : State :=
  match o.action with
  | .release => if s.releaseOutcome o.standstill i = .applied then s.setSide i .released else s
  | .close => s.closeSide i
  | .withdraw => s.withdrawSide i

/-- A node takes an order: id and outcome change together, Order Received is raised, and inside the window the
Action is applied to each mapped side (R91). -/
def State.takeOrder (s : State) (a : ActiveConsist) (o : DoorOrder) : State :=
  let outcome := s.orderOutcome a o
  let s := ((s.modDoor fun d => { d with lastOrderId := o.id, lastOutcome := outcome }).raise
    .orderReceived).sourceChanged
  if o.addresses a.position then (mapSides a.orientation o.side).foldl (fun s i => s.applyAction o i) s else s

/-- The order an ORDER frame carries, if it is well formed (R90). -/
def OrderFrame.order (f : OrderFrame) : Option DoorOrder :=
  match DoorAction.ofCode f.action, TrainSide.ofCode f.side with
  | some action, some side =>
    if f.id ≠ 0 ∧ ¬(side = .both ∧ action = .release) ∧ 1 ≤ f.first ∧ f.first ≤ f.last ∧ f.last ≤ 32 then
      some { id := f.id, action := action, side := side, first := f.first, last := f.last
             standstill := hasBit f.flags 0 }
    else none
  | _, _ => none

/-- An ORDER of the current consist on the head-ward End is judged: malformed and repeated ones are not used
(R90). It is forwarded unchanged in every case. -/
def State.judgeOrder (s : State) (a : ActiveConsist) (f : Frame) : State :=
  let s' := s.place a.tailward .door f
  match (OrderFrame.ofPayload f.payload).order with
  | none => s'
  | some o => if o.id = s.door.lastOrderId then s' else s'.takeOrder a o

/-! ## Orders at the head -/

/-- Call Requested is set at a HEADING node (R81). -/
def State.requestCall (s : State) : State :=
  if s.heading then s.modCycle fun c => { c with callRequested := true } else s

/-- An ORDER frame the head builds (R104). -/
def State.buildOrder (s : State) (a : ActiveConsist) (id : Nat) (action : DoorAction) (side : TrainSide)
    (first last : Nat) : Frame :=
  OrderFrame.frame
    { identity := a.identity, id := id, action := action.code, side := side.code, first := first, last := last
      flags := flagBit s.door.headStandstill 0 }

/-- An ORDER that the head built leaves: First Sent is set with the first sending of the Outstanding Order, and a
RELEASE sets Last Release Sent and takes the Proof back (R104, R110, R117; log 16). -/
def State.orderLeaves (s : State) (a : ActiveConsist) (f : Frame) : State :=
  let o := OrderFrame.ofPayload f.payload
  let m := s.moment
  let s := s.tickMoment
  let s := s.modTrack fun t =>
    { t with outstanding := t.outstanding.map fun r =>
        if r.id = o.id ∧ a.identity = o.identity ∧ r.firstSent = none then { r with firstSent := some m } else r }
  if o.action = DoorAction.release.code then
    (s.modDoor fun d => { d with lastReleaseSent := some m }).unprove
  else s

/-- The head places an ORDER on its tail-ward End; at an OPEN End the placing counts as its leaving (R103, R104). -/
def State.placeOrder (s : State) (a : ActiveConsist) (f : Frame) : State :=
  if s.isOpen a.tailward then s.orderLeaves a f else s.place a.tailward .door f

/-- The Outcome List at issue (R110). -/
def initialOutcomes (length first last : Nat) : List Outcome :=
  (List.range length).map fun i => if first ≤ i + 1 ∧ i + 1 ≤ last then .pending else .notAddressed

/-- The Outstanding Order becomes complete when no entry is PENDING, once (R114). -/
def State.checkComplete (s : State) : State :=
  match s.track.outstanding with
  | some r =>
    if r.complete = false ∧ r.outcomes.all (· ≠ .pending) then
      (s.modTrack fun t => { t with outstanding := some { r with complete := true } }).raise .orderComplete
    else s
  | none => s

/-- The head issues an order (R102, R103, R110). -/
def State.issue (s : State) (a : ActiveConsist) (action : DoorAction) (side : TrainSide) (first last : Nat) :
    State :=
  let id := nextWrap 255 s.door.orderCounter
  let s := s.modDoor fun d => { d with orderCounter := id }
  let record : OutstandingOrder :=
    { id := id, action := action, side := side, first := first, last := last, repeatsLeft := 3
      firstSent := none, outcomes := initialOutcomes a.length first last, complete := false }
  let s := s.modTrack fun t => { t with outstanding := some record }
  let s := s.checkComplete
  let s := s.takeOrder a { id := id, action := action, side := side, first := first, last := last
                           standstill := s.door.headStandstill }
  let s := s.placeOrder a (s.buildOrder a id action side first last)
  let s := if action = .release then s.unprove else s
  s.requestCall

/-- The Outstanding Order is emptied (R115). -/
def State.emptyOrder (s : State) : State := s.modTrack fun t => { t with outstanding := none }

/-- Filling the Outcome List from the records of a RETURN (R112). -/
def fillOutcomes (id : Nat) (records : List CycleRecord) (outcomes : List Outcome) : List Outcome :=
  outcomes.mapIdx fun i o =>
    match records[i]? with
    | some r => if o = .pending ∧ r.echo.toNat = id then Outcome.ofCode r.outcome else o
    | none => o

/-- PENDING entries become LOST (R113). -/
def loseOutcomes (outcomes : List Outcome) : List Outcome :=
  outcomes.map fun o => if o = .pending then .lost else o

/-- A RETURN counts for the Outstanding Order (R111). -/
def OutstandingOrder.counts (r : OutstandingOrder) (call : Option Moment) : Bool :=
  r.firstSent.isSome && leftAfter call r.firstSent

/-- After filling, PENDING entries cause a repeat, or become LOST (R113). -/
def State.repeatOrLose (s : State) (a : ActiveConsist) (r : OutstandingOrder) : State :=
  if r.outcomes.all (· ≠ .pending) then s
  else if r.repeatsLeft = 0 then
    s.modTrack fun t => { t with outstanding := some { r with outcomes := loseOutcomes r.outcomes } }
  else
    let s := s.modTrack fun t => { t with outstanding := some { r with repeatsLeft := r.repeatsLeft - 1 } }
    s.placeOrder a (s.buildOrder a r.id r.action r.side r.first r.last)

/-- The Outcome List reads the echoes of a RETURN that counts (R111 to R114). -/
def State.readEchoes (s : State) (a : ActiveConsist) (records : List CycleRecord) : State :=
  match s.track.outstanding with
  | some r =>
    if r.complete = false ∧ r.counts s.cycle.lastCallLeft = true then
      let r := { r with outcomes := fillOutcomes r.id records r.outcomes }
      let s := s.modTrack fun t => { t with outstanding := some r }
      (s.repeatOrLose a r).checkComplete
    else s
  | none => s

/-- A successful RETURN at the Door Unit, its four steps in order (R99, R111). -/
def State.doorReturn (s : State) (a : ActiveConsist) (records : List CycleRecord) : State :=
  let s := s.modDoor fun d => { d with trainDoorsOpen := records.any (·.doorOpen) }
  (s.readEchoes a records).evaluateProof a.length records

/-- The head part of the Door Unit when the node leaves HEADING (R99, R117). -/
def State.doorLeavesHeading (s : State) : State :=
  (s.modDoor fun d => { d with trainDoorsOpen := false }).unprove

/-- The head part of the Door Unit at every commit, a head's own or a COMMIT accepted (R51, R99, R104, R120). -/
def State.doorNewConsist (s : State) : State :=
  (s.modDoor fun d => { d with trainDoorsOpen := false, lastReleaseSent := none }).unprove.modTrack fun t =>
    { t with lastProved := 0 }

/-- The head part of the Door Unit at the commit of a head, which empties the Outstanding Order too (R115). -/
def State.doorCommit (s : State) : State := s.emptyOrder.doorNewConsist

/-! ## Commands of the door-role port -/

/-- The automatic CLOSE where the train may still be open (R100). -/
def State.automaticClose (s : State) (a : ActiveConsist) : State :=
  if s.door.trainDoorsOpen || decide (s.sideState .side1 ≠ .withdrawn) || decide (s.sideState .side2 ≠ .withdrawn)
  then s.issue a .close .both 1 32 else s

/-- The Head Standstill takes a value (R98, R100). -/
def State.setStandstill (s : State) (v : Bool) : State :=
  let cleared := s.door.headStandstill && !v
  let s := s.modDoor fun d => { d with headStandstill := v }
  let s := match s.active with
    | some a => if cleared && s.heading then s.automaticClose a else s
    | none => s
  s.requestCall

/-- The meaning of SET_STANDSTILL (R98); the operand's bit 0 is the flag (log 25). -/
def execSetStandstill (p : PortId) (s : State) : Host.Outcome State Fault Refusal :=
  .next (s.plainCommand p (some .door) (fun _ => none) fun s => s.setStandstill (hasBit (s.operand p 1) 0))

/-- The operands of Issue Order are among their values (R101). -/
def orderOperands (s : State) (p : PortId) : Option (DoorAction × TrainSide) :=
  match DoorAction.ofCode (s.operand p 1), TrainSide.ofCode (s.operand p 2) with
  | some action, some side =>
    if ¬(side = .both ∧ action = .release) ∧ 1 ≤ s.operandNum p 3 ∧ s.operandNum p 3 ≤ s.operandNum p 4
        ∧ s.operandNum p 4 ≤ 32 then some (action, side) else none
  | _, _ => none

/-- Issue Order's own checks (R101). -/
def issueCheck (p : PortId) (s : State) : Option Reason :=
  if s.heading = false then some .notHead
  else
    match orderOperands s p with
    | none => some .range
    | some (action, _) => if action = .release ∧ s.door.headStandstill = false then some .state else none

/-- Issue Order, with the operands as they stand (R101, R103). -/
def State.issueFromOperands (s : State) (p : PortId) : State :=
  match orderOperands s p, s.active with
  | some (action, side), some a => s.issue a action side (s.operandNum p 3) (s.operandNum p 4)
  | _, _ => s

/-- The meaning of ISSUE_ORDER (R101). -/
def execIssueOrder (p : PortId) (s : State) : Host.Outcome State Fault Refusal :=
  .next (s.plainCommand p (some .door) (issueCheck p) fun s => s.issueFromOperands p)

/-- The door status an operand byte spells, in the places of the Door Flags (12.3). -/
def DoorStatus.ofByte (v : Byte) : DoorStatus :=
  { closedLocked1 := hasBit v 4, closedLocked2 := hasBit v 5, lockedOut1 := hasBit v 6, lockedOut2 := hasBit v 7 }

/-- What a reported status does to a side (R88, steps 3 and 4). -/
def State.statusSide (s : State) (i : SideId) : State :=
  let s := if s.door.status.closedLocked i ∧ s.sideState i = .closing then s.setSide i .withdrawn else s
  if s.door.status.lockedOut i then s.withdrawSide i else s

/-- Write Door Status (R88). -/
def State.writeDoorStatus (s : State) (t : DoorStatus) : State :=
  let timer := s.timerMs (s.power.record.attendance * 10)
  let s := (s.modDoor fun d =>
    { d with status := t, attended := true, attendanceTimer := timer }).sourceChanged
  s.bothSides fun s i => s.statusSide i

/-- The meaning of WRITE_DOOR_STATUS (R88). -/
def execWriteDoorStatus (p : PortId) (s : State) : Host.Outcome State Fault Refusal :=
  .next (s.plainCommand p (some .door) (fun _ => none) fun s => s.writeDoorStatus (.ofByte (s.operand p 1)))

/-- The sides Local Close names: 1, 2 or 3 for both (12.4). -/
def closeSides (n : Nat) : List SideId :=
  if n = 1 then [.side1] else if n = 2 then [.side2] else if n = 3 then [.side1, .side2] else []

/-- Local Close (R97). -/
def State.localClose (s : State) (sides : List SideId) : State := sides.foldl State.closeSide s

/-- The meaning of LOCAL_CLOSE (R97). -/
def execLocalClose (p : PortId) (s : State) : Host.Outcome State Fault Refusal :=
  .next (s.plainCommand p (some .door)
    (fun s => firstReason [((closeSides (s.operandNum p 1)).isEmpty, .range)])
    fun s => s.localClose (closeSides (s.operandNum p 1)))

end Sys2Proof.Machine
end

