-- ==== Sys2Proof/Machine/StageDrive.lean ====
section
/-! DEFINITION. The Stage Drive: Ceiling, Demand, target level, stages (08). -/

namespace Sys2Proof.Machine

/-- The largest `k` up to a bound whose level is not above a limit (R139). -/
def highestLevel (powers : List Nat) (limit : Nat) : Nat → Nat
  | 0 => 0
  | k + 1 => if stageLevel powers (k + 1) ≤ limit then k + 1 else highestLevel powers limit k

/-- The target level the Ceiling and the Demand call for (R139), over the Stage Count and Stage Powers of the Identity
Record as they stand, as R137 has it (R33 speaks of the committed entries: log 34). -/
def State.wantedTarget (s : State) : Nat :=
  highestLevel s.power.record.powers.toList (min s.stage.ceiling s.stage.demand) s.stageCount

/-- The target the drive works toward: held at 0 in STABLED and WAKING (R139). -/
def State.newTarget (s : State) : Nat := if s.asleep then 0 else s.wantedTarget

/-- Changing one stage, numbered from 0. -/
def StageDrive.modStage (d : StageDrive) (i : Nat) (f : Stage → Stage) : StageDrive :=
  { d with stages := d.stages.mapFinIdx fun j x _ => if j = i then f x else x }

/-- The state and timer of a stage numbered from 0. -/
def StageDrive.stageAt (d : StageDrive) (i : Nat) : Stage := d.stages.toList.getD i .reset

/-- An ON stage goes off: RESTING for Min Off, or through it to OFF when Min Off is 0 (R141). Other stages stay. -/
def Stage.switchOff (x : Stage) (now minOffUs : Nat) : Stage :=
  if x.state = .on then
    if minOffUs = 0 then { state := .off, timer := none } else { state := .resting, timer := some (now + minOffUs) }
  else x

/-- A WAITING_ON stage returns to OFF (R141). -/
def Stage.stopWaiting (x : Stage) : Stage :=
  if x.state = .waitingOn then { state := .off, timer := none } else x

/-- Min Off in microseconds. -/
def State.minOffUs (s : State) : Nat := Config.ms (s.power.record.minOff * 1000)

/-- Step Delay in microseconds. -/
def State.stepDelayUs (s : State) : Nat := Config.ms (s.power.record.stepDelay * 100)

/-- Every ON stage numbered from `t` (counted from 0) goes off (R141). -/
def State.switchOffFrom (s : State) (t : Nat) : State :=
  s.modStage fun d =>
    { d with stages := d.stages.mapFinIdx fun j x _ => if t ≤ j then x.switchOff s.now s.minOffUs else x }

/-- The rise in progress ends, never to go on, and a waiting stage returns to OFF (R141, R142). -/
def State.endRise (s : State) : State :=
  s.modStage fun d => { d with rise := none, ended := none, stages := d.stages.map Stage.stopWaiting }

/-- A rise has reached its target: it ends at this moment (R142), which `ended` records (R143; log 39). -/
def State.reachTarget (s : State) (r : Rise) : State :=
  s.modStage fun d => { d with rise := none, ended := some { r with onMoment := s.now } }

/-- The stagger of a rise that begins now: by the own position at a MEMBER that is not the head, else 0 (R142). -/
def State.staggerUs (s : State) : Nat :=
  match s.active with
  | some a => if s.heading then 0 else (a.position - 1) * Config.ms (s.power.record.stagger * 10)
  | none => 0

/-- The on-moment of the next stage: the latest of the parts that apply (R142). -/
def State.onMomentOf (s : State) (r : Rise) (first : Bool) (next : Stage) : Nat :=
  let stagger := if first then r.began + r.stagger else 0
  let step := match s.stage.lastOn with
    | some t => t + s.stepDelayUs
    | none => 0
  let rest := if next.state = .resting then next.timer.getD 0 else 0
  max stagger (max step rest)

/-- A stage comes on: its output is active from now, and the moment is recorded (R142, R143). -/
def State.switchOn (s : State) (i : Nat) : State :=
  s.modStage fun d =>
    { d.modStage i (fun _ => { state := .on, timer := none }) with lastOn := some s.now }

/-- The stage above the on-count becomes the next stage of the rise: it stays RESTING, waits, or comes on at once
and the stage above follows; the rise ends when the on-count has reached the target (R142). `fuel` bounds the
stages that can come on at one moment. -/
def State.nextStage (s : State) (first : Bool) : Nat → State
  | 0 => s
  | fuel + 1 =>
    match s.stage.rise with
    | none => s
    | some r =>
      let i := s.onCount
      if s.stage.target ≤ i then s.reachTarget r
      else
        let next := s.stage.stageAt i
        let moment := s.onMomentOf r first next
        let s := s.modStage fun d => { d with rise := some { r with onMoment := moment } }
        if next.state = .off then
          if moment ≤ s.now then (s.switchOn i).nextStage false fuel
          else s.modStage (·.modStage i fun _ => { state := .waitingOn, timer := some moment })
        else s

/-- A rise is in progress from now on, and the stage above the on-count becomes its next stage (R142). -/
def State.enterRise (s : State) (r : Rise) (first : Bool) : State :=
  (s.modStage fun d => { d with rise := some r, ended := none }).nextStage first 5

/-- A rise begins (R142). -/
def State.beginRise (s : State) : State :=
  s.enterRise { began := s.now, stagger := s.staggerUs, onMoment := s.now } true

/-- The rise that reached its target at this very moment, if one did (R143; log 39). -/
def State.riseEndedNow (s : State) : Option Rise := s.stage.ended.filter fun r => decide (r.onMoment = s.now)

/-- The rise that a higher target takes up again instead of beginning one: the rise that reached its target at this very
moment, where the target is higher because the Ceiling or the Demand rose (`risen`), so that the end of a wait and that
rise have one outcome in either order (last sentence of R143; log 39). No other cause takes one up (R142). -/
def State.riseTakenUp (s : State) (risen : Bool) : Option Rise := if risen = true then s.riseEndedNow else none

/-- The target level takes a new value: stages above it go off, or a rise begins or goes on (R139, R141, R142). `risen`
says that the Ceiling or the Demand rose: a rise that reached its target at this very moment then goes on, with the step
and rest parts only (R143). -/
def State.applyTarget (s : State) (t : Nat) (risen : Bool) : State :=
  if t = s.stage.target then s
  else
    let s := s.modStage fun d => { d with target := t }
    if t ≤ s.onCount then (s.switchOffFrom t).endRise
    else
      match s.stage.rise with
      | some _ => s
      | none =>
        match s.riseTakenUp risen with
        | some r => s.enterRise r false
        | none => s.beginRise

/-- The target level is recomputed (R139), and a change of the applied power is a change of a record source
(R82, R140). `risen` says that the Ceiling or the Demand rose. -/
def State.recomputeTarget (s : State) (risen : Bool) : State := (s.applyTarget s.newTarget risen).sourceChanged

/-- The Ceiling is set, before the target is recomputed (R136). -/
def State.setCeiling (s : State) (ceiling : Nat) (fallback : Bool) : State :=
  (s.modStage fun d => { d with ceiling := ceiling, fallback := fallback }).recomputeTarget
    (decide (s.stage.ceiling < ceiling))

/-- The Fallback Limit the Stage Drive takes: 0 while LOADING (R137). -/
def State.fallbackLimit (s : State) : Nat := if s.loading then 0 else s.power.record.fallbackLimit

/-- The Ceiling falls to the Fallback Limit (R136): on going UNASSIGNED, and at resets. -/
def State.fallBack (s : State) : State := s.setCeiling s.fallbackLimit true

/-- The Ceiling follows a new Fallback Limit while the Fallback flag is set, and the target is recomputed with the
record as it stands (R137, R139). A new Stage Count or Stage Power raises neither the Ceiling nor the Demand. -/
def State.identityToStages (s : State) : State :=
  if s.stage.fallback then s.fallBack else s.recomputeTarget false

/-- The Stage Drive takes a grant byte from a SETTLE; HOLD names none (R131, R136). -/
def State.ceilingFromGrant (s : State) (grant : Nat) : State :=
  if grant = 255 then s else s.setCeiling grant false

/-- Node Reset acts on the stages as they stand (R145). The held target is set to 0 with the Demand, so that a target that
is recomputed as 1 or more, where the first stages have 0 PU, rises and begins a new rise within the reset; R145 does not
say whether it does (DESIGN CHOICE, log 42). -/
def State.stageNodeReset (s : State) : State :=
  let s := s.modStage fun d => { d with target := 0, demand := 0 }
  let s := (s.switchOffFrom 0).endRise
  s.fallBack

/-- Entry to STABLED (R146). -/
def State.stageStable (s : State) : State :=
  s.endRise.modStage fun d => { d with target := 0 }

/-- A stage's timer runs out (R143); `i` counts from 0. -/
def State.stageExpired (s : State) (i : Nat) : State :=
  match (s.stage.stageAt i).state with
  | .waitingOn => ((s.switchOn i).nextStage false 5).sourceChanged
  | .resting =>
    match s.stage.rise with
    | some r =>
      if i = s.onCount then
        if r.onMoment ≤ s.now then ((s.switchOn i).nextStage false 5).sourceChanged
        else s.modStage (·.modStage i fun _ => { state := .waitingOn, timer := some r.onMoment })
      else s.modStage (·.modStage i fun _ => { state := .off, timer := none })
    | none => s.modStage (·.modStage i fun _ => { state := .off, timer := none })
  | .off | .on => s

/-- STAGE_TIMER_EXPIRY (R143). -/
def State.stageTimerExpiry (s : State) (stage : Nat) : State :=
  if 1 ≤ stage ∧ stage ≤ 4 then
    s.expire (s.stage.stageAt (stage - 1)).timer fun s => s.stageExpired (stage - 1)
  else s

/-- The meaning of STAGE_TIMER_EXPIRY (R143, R184). -/
def execStageTimerExpiry (stage : Nat) (s : State) : Host.Outcome State Fault Refusal :=
  .next (s.live fun s => s.stageTimerExpiry stage)

/-- Set Demand's own check (R138). -/
def demandCheck (p : PortId) (s : State) : Option Reason :=
  firstReason [(decide (s.operandNum p 1 > 254), .range)]

/-- The Demand takes the value written (R138). -/
def State.setDemand (s : State) (v : Nat) : State :=
  if v = s.stage.demand then s
  else (s.modStage fun d => { d with demand := v }).sourceChanged.recomputeTarget (decide (s.stage.demand < v))

/-- The meaning of SET_DEMAND (R138). -/
def execSetDemand (p : PortId) (s : State) : Host.Outcome State Fault Refusal :=
  .next (s.plainCommand p (some .comfort) (demandCheck p) fun s => s.setDemand (s.operandNum p 1))

/-! ## Stage Timer Remaining (R144) -/

/-- The time left on a stage's timer, 16 bits of milliseconds (R144). -/
def State.stageLeft (s : State) (stage : Nat) : Nat := s.leftMs (s.stage.stageAt (stage - 1)).timer % 65536

/-- The offset of a stage's Stage Timer Remaining in the Stage Status area (12.4). -/
def stageTimerOffset (stage : Nat) : Nat := 7 + 4 * (stage - 1) + 2

/-- A low byte read: it latches the high byte of the same value for the port (R144). In STABLED and WAKING the area
reads 0xFF and nothing is latched. -/
def State.stageLowRead (s : State) (p : PortId) (stage : Nat) : State :=
  let address := areaBase + stageTimerOffset stage
  if s.asleep then s.readOut p address 0xFF
  else
    let left := s.stageLeft stage
    (s.readOut p address (byteOf left)).modPort p fun t =>
      { t with latch := some { stage := stage, high := byteOf (left / 256) } }

/-- A high byte read: the latched byte of that stage, which releases the latch, or the byte as it stands (R144). -/
def State.stageHighRead (s : State) (p : PortId) (stage : Nat) : State :=
  let address := areaBase + stageTimerOffset stage + 1
  if s.asleep then s.readOut p address 0xFF
  else
    match (s.port p).latch with
    | some l =>
      if l.stage = stage then (s.readOut p address l.high).modPort p fun t => { t with latch := none }
      else s.readOut p address (byteOf (s.stageLeft stage / 256))
    | none => s.readOut p address (byteOf (s.stageLeft stage / 256))

/-- The plain bytes before a low byte: back to the high byte of the stage below, or to the start of the window for
stage 1 (R144, R168; log 7). Before a high byte there are none, since the low byte beside it latches. -/
def plainBeforeLow (stage : Nat) : Nat := if stage = 1 then areaBase + stageTimerOffset 1 else 2

/-- A read of the Stage Status area at a port, at an offset of a stage from 1 to 4, with the plain bytes before it
(R168, R169; log 3). -/
def State.stageRead (s : State) (p : PortId) (stage plain offset : Nat) (f : State → State) : State :=
  s.live fun s =>
    if (s.port p).takesRead plain (areaBase + offset) = true ∧ (s.port p).area = 9 ∧ 1 ≤ stage ∧ stage ≤ 4 then f s
    else s

/-- The meaning of STAGE_TIMER_LOW_READ (R144). -/
def execStageTimerLowRead (p : PortId) (stage : Nat) (s : State) : Host.Outcome State Fault Refusal :=
  .next (s.stageRead p stage (plainBeforeLow stage) (stageTimerOffset stage) fun s => s.stageLowRead p stage)

/-- The meaning of STAGE_TIMER_HIGH_READ (R144). -/
def execStageTimerHighRead (p : PortId) (stage : Nat) (s : State) : Host.Outcome State Fault Refusal :=
  .next (s.stageRead p stage 0 (stageTimerOffset stage + 1) fun s => s.stageHighRead p stage)

end Sys2Proof.Machine
end

