-- ==== Sys2Proof/Machine/GrantEngine.lean ====
section
/-! DEFINITION. The Grant Engine: levels, seeding, shedding, raising, and the grants a SETTLE carries (07). -/

namespace Sys2Proof.Machine

/-- The levels of a position that can be granted, level 0 first (R124). -/
def RosterEntry.levels (r : RosterEntry) : List Nat :=
  ((List.range (r.stageCount + 1)).map (stageLevel r.powers.toList)).filter (· ≤ 254)

/-- The largest of some levels not above a limit; 0 where there is none (R124). -/
def levelWithin (levels : List Nat) (limit : Nat) : Nat := (levels.filter (· ≤ limit)).foldl max 0

/-- The Grant Sum (7.2). -/
def grantSum (table : List GrantEntry) : Nat := (table.map (·.grant)).sum

/-- The number of entries with Withheld set (R130). -/
def withheldCount (table : List GrantEntry) : Nat := (table.filter (·.withheld)).length

/-- No entry is seeded (R130). -/
def unseeded (table : List GrantEntry) : Bool := !table.any (·.seeded)

/-- The levels of a place of the table, counted from 0. -/
def levelsAt (entries : List RosterEntry) (i : Nat) : List Nat :=
  match entries[i]? with
  | some r => r.levels
  | none => [0]

/-- The committed Priority Class of a place (R122, R125). -/
def priorityAt (entries : List RosterEntry) (i : Nat) : Nat :=
  match entries[i]? with
  | some r => r.priority
  | none => 0

/-- A table with every entry changed by its place. -/
def mapTable (f : Nat → GrantEntry → GrantEntry) (table : List GrantEntry) : List GrantEntry := table.mapIdx f

/-- An entry at the commit (R122). -/
def GrantEntry.start (r : RosterEntry) : GrantEntry :=
  { grant := 0, lastDemand := 0, lastApplied := 0, effectiveClass := r.priority, seeded := false, withheld := false }

/-- The Grant Engine comes into use at a commit (R122). The table has one entry per position, Length of them. -/
def State.grantCommit (s : State) (a : ActiveConsist) : State :=
  s.modGrants fun g => { g with inUse := true, table := a.entries.map .start, room := 0 }

/-- The Grant Engine goes out of use; what it holds is kept (R123). -/
def State.grantLeavesHeading (s : State) : State := s.modGrants fun g => { g with inUse := false }

/-! ## Orders of preference -/

/-- Places of a class, lowest position first. -/
def placesOfClass (table : List GrantEntry) (c : Nat) : List Nat :=
  (List.range table.length).filter fun i => (table[i]?.map (·.effectiveClass)) == some c

/-- Shedding order: lowest class first, within a class highest position first (R127). -/
def shedOrder (table : List GrantEntry) : List Nat :=
  [0, 1, 2, 3].flatMap fun c => (placesOfClass table c).reverse

/-- Raising order: highest class first, within a class lowest position first (R129). -/
def raiseOrder (table : List GrantEntry) : List Nat := [3, 2, 1, 0].flatMap (placesOfClass table)

/-! ## Shedding -/

/-- The grant a position is shed to: the highest of its levels not above its grant that keeps the whole sum within
the budget, else 0 (R127). -/
def shedGrant (levels : List Nat) (grant others budget : Nat) : Nat :=
  levelWithin (levels.filter fun l => others + l ≤ budget) grant

/-- Shedding at one place, unless the sum is already within the budget (R127). -/
def shedAt (entries : List RosterEntry) (budget : Nat) (table : List GrantEntry) (i : Nat) : List GrantEntry :=
  if grantSum table ≤ budget then table
  else
    match table[i]? with
    | some g => table.set i { g with grant := shedGrant (levelsAt entries i) g.grant (grantSum table - g.grant) budget }
    | none => table

/-- Shedding the whole table (R127). -/
def shedTable (entries : List RosterEntry) (budget : Nat) (table : List GrantEntry) : List GrantEntry :=
  (shedOrder table).foldl (shedAt entries budget) table

/-- Shedding at the head: Shed Performed is raised where a grant was lowered (R127). -/
def State.shed (s : State) (a : ActiveConsist) : State :=
  let before := s.grants.table
  let after := shedTable a.entries s.grants.budget before
  let s := s.modGrants fun g => { g with table := after }
  if after.map (·.grant) = before.map (·.grant) then s else s.raise .shedPerformed

/-! ## Each RETURN -/

/-- Updating an entry from the record at its place (R125, R129). -/
def updateEntry (entries : List RosterEntry) (records : List CycleRecord) (i : Nat) (g : GrantEntry) : GrantEntry :=
  match records[i]? with
  | some r =>
    { g with lastDemand := min 254 r.demand.toNat, lastApplied := min 254 r.applied.toNat
             effectiveClass := if r.doorOpen then 3 else priorityAt entries i }
  | none => g

/-- The demand level of an entry (R124). -/
def demandLevel (entries : List RosterEntry) (i : Nat) (g : GrantEntry) : Nat :=
  levelWithin (levelsAt entries i) g.lastDemand

/-- Seeding an entry (R126). -/
def seedEntry (entries : List RosterEntry) (i : Nat) (g : GrantEntry) : GrantEntry :=
  { g with grant := levelWithin (levelsAt entries i) g.lastApplied, seeded := true }

/-- Lowering an entry to its demand level (R126, R129). -/
def lowerEntry (entries : List RosterEntry) (i : Nat) (g : GrantEntry) : GrantEntry :=
  { g with grant := min g.grant (demandLevel entries i g) }

/-- The larger of Grant and Last Applied (R129). -/
def GrantEntry.drawn (g : GrantEntry) : Nat := max g.grant g.lastApplied

/-- The Room of a table under a budget (R129). -/
def roomOf (budget : Nat) (table : List GrantEntry) : Int := (budget : Int) - ((table.map (·.drawn)).sum : Nat)

/-- The cost of raising an entry to a level (R129). -/
def GrantEntry.cost (g : GrantEntry) (level : Nat) : Nat := max level g.lastApplied - g.drawn

/-- The level an entry is raised to: the highest above its grant, up to its demand level, whose cost is not above
the Room (R129). -/
def raiseLevel (levels : List Nat) (demand : Nat) (room : Int) (g : GrantEntry) : Nat :=
  (levels.filter fun l => decide (g.grant < l ∧ l ≤ demand ∧ ((g.cost l : Nat) : Int) ≤ room)).foldl max g.grant

/-- Raising at one place, with the Room left (R129). -/
def raiseAt (entries : List RosterEntry) (x : List GrantEntry × Int) (i : Nat) : List GrantEntry × Int :=
  match x.1[i]? with
  | some g =>
    let l := raiseLevel (levelsAt entries i) (demandLevel entries i g) x.2 g
    if g.grant < l then (x.1.set i { g with grant := l }, x.2 - (g.cost l : Nat)) else x
  | none => x

/-- Raising the whole table: the table and the Room left (R129). -/
def raiseTable (entries : List RosterEntry) (budget : Nat) (table : List GrantEntry) : List GrantEntry × Int :=
  (raiseOrder table).foldl (raiseAt entries) (table, roomOf budget table)

/-- Withheld flags: set where the grant is below the demand level (R130). -/
def withholdEntry (entries : List RosterEntry) (i : Nat) (g : GrantEntry) : GrantEntry :=
  { g with withheld := decide (g.grant < demandLevel entries i g) }

/-- Room, raises and Withheld flags (R126 step 5, R129, R130). -/
def State.raiseGrants (s : State) (a : ActiveConsist) : State :=
  let x := raiseTable a.entries s.grants.budget s.grants.table
  s.modGrants fun g => { g with table := mapTable (withholdEntry a.entries) x.1, room := x.2 }

/-- A successful RETURN at the Grant Engine: update, seed and shed at the seeding RETURN, lower, raise (R126, R129,
R130). -/
def State.grantReturn (s : State) (a : ActiveConsist) (records : List CycleRecord) : State :=
  let first := unseeded s.grants.table
  let update := fun i g => updateEntry a.entries records i g
  let seed := fun i g => if first then seedEntry a.entries i g else g
  let s := s.modGrants fun g =>
    { g with table := mapTable (lowerEntry a.entries) (mapTable seed (mapTable update g.table)) }
  let s := if first then s.shed a else s
  s.raiseGrants a

/-- The grant byte of an entry: its Grant, or HOLD while unseeded (R131). -/
def GrantEntry.byte (g : GrantEntry) : Nat := if g.seeded then g.grant else 255

/-! ## Taking a grant -/

/-- Taken Grant: a different or a first grant of the consist is taken and raises Grant Changed; HOLD leaves it
(R133). -/
def State.takeGrant (s : State) (grant : Nat) : State :=
  if grant = 255 then s
  else if s.grants.takenGrant = some grant then s
  else (s.modGrants fun g => { g with takenGrant := some grant }).raise .grantChanged

/-- A SETTLE is used at a position: the Last Settle, the Ceiling, the Taken Grant (R79, R132, R133). -/
def State.useSettle (s : State) (l : LastSettle) : State :=
  let s := s.modCycle fun c => { c with lastSettle := some l }
  (s.ceilingFromGrant l.grant).takeGrant l.grant

/-! ## Set Supply Budget -/

/-- The budget two operand bytes spell (12.4). -/
def budgetOperand (s : State) (p : PortId) : Nat := s.operandNum p 1 * 256 + s.operandNum p 2

/-- The Supply Budget takes a value; in use and exceeded, the table is shed at once (R121, R128). -/
def State.setBudget (s : State) (v : Nat) : State :=
  let s := s.modGrants fun g => { g with budget := v }
  let s := match s.active with
    | some a => if s.grants.inUse && decide (v < grantSum s.grants.table) then s.shed a else s
    | none => s
  s.requestCall

/-- The meaning of SET_SUPPLY_BUDGET (R121). -/
def execSetSupplyBudget (p : PortId) (s : State) : Host.Outcome State Fault Refusal :=
  .next (s.plainCommand p (some .comfort)
    (fun s => firstReason [(decide (budgetOperand s p > 16000), .range)])
    fun s => s.setBudget (budgetOperand s p))

end Sys2Proof.Machine
end

