-- ==== Sys2Proof/Machine/MessageUnit.lean ====
section
/-! DEFINITION. The Message Unit: pool, queues, commands, transmit server, reception, completion (09, R11, R16). -/

namespace Sys2Proof.Machine

/-! ## The pool -/

/-- The port a buffer counts toward (9.1). -/
def BufferState.owner : BufferState → Option PortId
  | .free => none
  | .held p | .outbound p | .inFlight p | .inbound p | .receiving p => some p

/-- A buffer by its number. -/
def State.buffer (s : State) (n : Nat) : Buffer := s.msg.buffers.getD n .reset

/-- Changing a buffer. -/
def State.modBuffer (s : State) (n : Nat) (f : Buffer → Buffer) : State :=
  s.modMsg fun m => { m with buffers := m.buffers.modify n f }

/-- A buffer takes a state. -/
def State.setBufferState (s : State) (n : Nat) (st : BufferState) : State :=
  s.modBuffer n fun b => { b with state := st }

/-- Changing the queues of a port. -/
def State.modQueues (s : State) (p : PortId) (f : PortQueues → PortQueues) : State :=
  s.modMsg fun m =>
    match p with
    | .portA => { m with queuesA := f m.queuesA }
    | .portB => { m with queuesB := f m.queuesB }

/-- The port count (R148). -/
def State.portCount (s : State) (p : PortId) : Nat :=
  (s.msg.buffers.filter fun b => b.state.owner == some p).length

/-- The number of FREE buffers. -/
def State.freeBuffers (s : State) : Nat := (s.msg.buffers.filter fun b => b.state == .free).length

/-- The lowest-numbered FREE buffer (R147). -/
def State.lowestFree (s : State) : Option Nat := s.msg.buffers.findIdx? fun b => b.state == .free

/-- Free Low and Quota Reached, when a FREE buffer has gone to a port (R164). -/
def State.takenEvents (s : State) (p : PortId) : State :=
  let s := if s.freeBuffers = 7 then s.raise .freeLow else s
  if s.portCount p = (s.queues p).quota then s.raiseAt p .quotaReached else s

/-- A FREE buffer goes to a port in a state, with its bytes; its Post Identity is cleared (R149, R160). -/
def State.allot (s : State) (n : Nat) (p : PortId) (st : BufferState) (bytes : List Byte) : State :=
  (s.modBuffer n fun _ => { state := st, postIdentity := none, bytes := bytes }).takenEvents p

/-- A buffer joins its owner's Inbound Queue at the tail (R147). -/
def State.toInbound (s : State) (n : Nat) (p : PortId) : State :=
  (s.setBufferState n (.inbound p)).modQueues p fun q => { q with inbound := q.inbound ++ [n] }

/-- Message Status codes (12.3). -/
inductive MessageStatus where | none | delivered | refusedFull | stale | noNote | sent
deriving DecidableEq, Repr

/-- The code of a Message Status (12.3). -/
def MessageStatus.code : MessageStatus → Byte
  | .none => 0 | .delivered => 1 | .refusedFull => 2 | .stale => 3 | .noNote => 4 | .sent => 5

/-- Completion: the Status field, the In-Flight entry removed, the buffer to its owner's Inbound Queue (R162). -/
def State.complete (s : State) (n : Nat) (status : MessageStatus) : State :=
  match (s.buffer n).state.owner with
  | none => s
  | some p =>
    let s := s.modBuffer n fun b => { b with bytes := b.bytes.set 7 status.code }
    let s := s.modMsg fun m => { m with inFlight := m.inFlight.filter fun e => e.buffer != n }
    s.toInbound n p

/-! ## Port commands -/

/-- The selected buffer of a port while it is HELD by it (R150). -/
def State.heldSelection (s : State) (p : PortId) : Option Nat :=
  match (s.port p).selectedBuffer with
  | some n => if (s.buffer n).state = .held p then some n else none
  | none => none

/-- A port's selection becomes a buffer, or none. -/
def State.select (s : State) (p : PortId) (n : Option Nat) : State :=
  s.modPort p fun t => { t with selectedBuffer := n }

/-- Take's checks (R149). -/
def takeCheck (p : PortId) (s : State) : Option Reason :=
  firstReason [(decide ((s.queues p).quota ≤ s.portCount p), .quota), (s.lowestFree.isNone, .empty)]

/-- Take (R149). -/
def State.takeBuffer (s : State) (p : PortId) : State :=
  match s.lowestFree with
  | some n => (s.allot n p (.held p) (List.replicate Config.bufferBytes 0)).select p (some n)
  | none => s

/-- The meaning of TAKE (R149). -/
def execTake (p : PortId) (s : State) : Host.Outcome State Fault Refusal :=
  .next (s.command p none (takeCheck p) (fun s => s.takeBuffer p) fun s => s.lowestFree.getD 0)

/-- Select Buffer's checks (R150). -/
def selectBufferCheck (p : PortId) (s : State) : Option Reason :=
  firstReason [(decide (s.operandNum p 1 > 95), .range),
    (decide ((s.buffer (s.operandNum p 1)).state ≠ .held p), .notHeld)]

/-- The meaning of SELECT_BUFFER (R150). -/
def execSelectBuffer (p : PortId) (s : State) : Host.Outcome State Fault Refusal :=
  .next (s.plainCommand p none (selectBufferCheck p) fun s => s.select p (some (s.operandNum p 1)))

/-- The operands of Post are in range (R151). -/
def postRange (s : State) (p : PortId) (a : ActiveConsist) : Bool :=
  let d := s.operandNum p 1
  let r := s.operandNum p 2
  (d == destAll || decide (1 ≤ d ∧ d ≤ a.length ∧ d ≠ a.position)) && decide (r = 1 ∨ r = 2)
    && decide (s.operandNum p 4 ≤ 56)

/-- Post's checks (R151). -/
def postCheck (p : PortId) (s : State) : Option Reason :=
  match s.heldSelection p, s.active with
  | none, _ => some .notHeld
  | some _, none => some .noConsist
  | some _, some a => if postRange s p a then none else some .range

/-- Writing the four Post operands into a header (R151, 12.3). -/
def postHeader (bytes : List Byte) (dest role tag len : Byte) : List Byte :=
  (((bytes.set 0 dest).set 1 role).set 2 tag).set 3 len

/-- Post (R151). -/
def State.postBuffer (s : State) (p : PortId) : State :=
  match s.heldSelection p, s.active with
  | some n, some a =>
    let s := s.modBuffer n fun b =>
      { state := .outbound p, postIdentity := some a.identity
        bytes := postHeader b.bytes (s.operand p 1) (s.operand p 2) (s.operand p 3) (s.operand p 4) }
    (s.modQueues p fun q => { q with outbound := q.outbound ++ [n] }).select p none
  | _, _ => s

/-- The meaning of POST (R151). -/
def execPost (p : PortId) (s : State) : Host.Outcome State Fault Refusal :=
  .next (s.plainCommand p none (postCheck p) fun s => s.postBuffer p)

/-- Fetch's check (R152). -/
def fetchCheck (p : PortId) (s : State) : Option Reason :=
  firstReason [((s.queues p).inbound.isEmpty, .empty)]

/-- Fetch (R152). -/
def State.fetchBuffer (s : State) (p : PortId) : State :=
  match (s.queues p).inbound with
  | n :: rest =>
    ((s.setBufferState n (.held p)).modQueues p fun q => { q with inbound := rest }).select p (some n)
  | [] => s

/-- The meaning of FETCH (R152). -/
def execFetch (p : PortId) (s : State) : Host.Outcome State Fault Refusal :=
  .next (s.command p none (fetchCheck p) (fun s => s.fetchBuffer p) fun s => (s.queues p).inbound.headD 0)

/-- Return's check (R153). -/
def returnCheck (p : PortId) (s : State) : Option Reason :=
  firstReason [((s.heldSelection p).isNone, .notHeld)]

/-- Return (R153); a FREE buffer has no Post Identity (log 15). -/
def State.returnBuffer (s : State) (p : PortId) : State :=
  match s.heldSelection p with
  | some n => (s.modBuffer n fun b => { b with state := .free, postIdentity := none }).select p none
  | none => s

/-- The meaning of RETURN_BUFFER (R153). -/
def execReturnBuffer (p : PortId) (s : State) : Host.Outcome State Fault Refusal :=
  .next (s.plainCommand p none (returnCheck p) fun s => s.returnBuffer p)

/-- Set Quotas' checks (R148). -/
def quotasCheck (p : PortId) (s : State) : Option Reason :=
  let a := s.operandNum p 1
  let b := s.operandNum p 2
  firstReason [(decide (¬(8 ≤ a ∧ a ≤ 88 ∧ 8 ≤ b ∧ b ≤ 88 ∧ a + b ≤ 96)), .range),
    (decide (a < s.portCount .portA ∨ b < s.portCount .portB), .state)]

/-- A quota takes a value; Quota Reached is raised where the port's count becomes equal to it (R148, R164). -/
def State.setQuota (s : State) (p : PortId) (v : Nat) : State :=
  let old := (s.queues p).quota
  let s := s.modQueues p fun q => { q with quota := v }
  if s.portCount p = v ∧ v ≠ old then s.raiseAt p .quotaReached else s

/-- Set Quotas (R148). -/
def State.setQuotas (s : State) (a b : Nat) : State := (s.setQuota .portA a).setQuota .portB b

/-- The meaning of SET_QUOTAS (R148). -/
def execSetQuotas (p : PortId) (s : State) : Host.Outcome State Fault Refusal :=
  .next (s.plainCommand p none (quotasCheck p) fun s => s.setQuotas (s.operandNum p 1) (s.operandNum p 2))

/-! ## The offer -/

/-- The offer still waits at an End (R16). -/
def Offer.waitsAt (o : Offer) : EndId → Bool
  | .end1 => o.at1
  | .end2 => o.at2

/-- The offer is no longer waiting at an End. -/
def Offer.takenAt (o : Offer) (e : EndId) : Offer :=
  match e with
  | .end1 => { o with at1 := false }
  | .end2 => { o with at2 := false }

/-- The offer ends once no End has yet to take it: a broadcast completes SENT (R16, R156). -/
def State.endOffer (s : State) : State :=
  match s.msg.offer with
  | some o =>
    if o.at1 || o.at2 then s
    else
      let s := s.modMsg fun m => { m with offer := none }
      match o.kind with
      | .broadcast n => s.complete n .sent
      | .note | .unicast _ => s
  | none => s

/-- An End takes the offer, whether it sends it or discards it: a unicast's deadline starts (R16, R156). -/
def State.takeOffer (s : State) (e : EndId) : State :=
  match s.msg.offer with
  | some o =>
    if o.waitsAt e then
      let timer := s.timerMs Config.deadlineMs
      let s := s.modMsg fun m => { m with offer := some (o.takenAt e) }
      let s := match o.kind with
        | .unicast n => s.modMsg fun m =>
            { m with inFlight := m.inFlight.map fun (x : InFlight) => if x.buffer = n then { x with deadline := timer } else x }
        | .note | .broadcast _ => s
      s.endOffer
    else s
  | none => s

/-- An End that is not usable takes a waiting offer at once and discards it (R16). -/
def State.discardOffer (s : State) (e : EndId) : State := if s.usable e then s else s.takeOffer e

/-- Offering a frame to Ends (R16, R156). -/
def State.offerFrame (s : State) (kind : OfferKind) (f : Frame) (at1 at2 : Bool) : State :=
  let s := s.modMsg fun m => { m with offer := some { kind := kind, frame := f, at1 := at1, at2 := at2 } }
  (s.discardOffer .end1).discardOffer .end2

/-- The End toward a position: head-ward for a lower one, tail-ward for a higher one (R156, R160). -/
def ActiveConsist.toward (a : ActiveConsist) (position : Nat) : EndId :=
  if position < a.position then a.headward else a.tailward

/-- Offering a frame to one End. -/
def State.offerTo (s : State) (kind : OfferKind) (f : Frame) (e : EndId) : State :=
  s.offerFrame kind f (decide (e = .end1)) (decide (e = .end2))

/-! ## The transmit server -/

/-- A posted buffer is stale (R155). -/
def State.stale (s : State) (n : Nat) : Bool :=
  match s.active, (s.buffer n).postIdentity with
  | some a, some i => decide (a.identity ≠ i)
  | _, _ => true

/-- A queue is ready: its oldest buffer can be dealt with now (R154). -/
def State.queueReady (s : State) (p : PortId) : Bool :=
  match (s.queues p).outbound with
  | [] => false
  | n :: _ => s.stale n || num8 (s.buffer n).bytes 0 == destAll
      || decide (s.msg.inFlight.length < Config.inFlightSize)

/-- The next value of the message sequence counter, passing over values that In-Flight entries hold (R155). -/
def nextSequence (inFlight : List InFlight) (n : Nat) : Nat → Nat
  | 0 => nextWrap 255 n
  | fuel + 1 =>
    let v := nextWrap 255 n
    if inFlight.any fun e => e.sequence == v then nextSequence inFlight v fuel else v

/-- The stamp on a header: Origin Position, Origin Role, Sequence (R155). -/
def stampHeader (bytes : List Byte) (position : Nat) (role : PortRole) (sequence : Nat) : List Byte :=
  ((bytes.set 4 (byteOf position)).set 5 role.code).set 6 (byteOf sequence)

/-- The MSG of a stamped buffer (R155, 12.2). -/
def msgFrame (i : Identity) (bytes : List Byte) : Frame :=
  { kind := .msg, payload := i.bytes ++ bytes.take 7 ++ (bytes.drop 8).take (num8 bytes 3) }

/-- Sending a buffer that is not stale: stamped, and offered toward its Destination (R155, R156). -/
def State.sendBuffer (s : State) (a : ActiveConsist) (p : PortId) (n : Nat) : State :=
  let seq := nextSequence s.msg.inFlight s.msg.sequence 4
  let s := s.modMsg fun m => { m with sequence := seq }
  let s := s.modBuffer n fun b => { b with bytes := stampHeader b.bytes a.position (s.port p).role seq }
  let bytes := (s.buffer n).bytes
  let f := msgFrame a.identity bytes
  let dest := num8 bytes 0
  if dest = destAll then s.offerFrame (.broadcast n) f true true
  else
    let entry : InFlight := { sequence := seq, buffer := n, destination := dest, deadline := none }
    let s := (s.setBufferState n (.inFlight p)).modMsg fun m => { m with inFlight := m.inFlight ++ [entry] }
    s.offerTo (.unicast n) f (a.toward dest)

/-- Serving a port's Outbound Queue: its oldest buffer completes STALE or is sent; the pointer names the other port
(R154, R155). -/
def State.serve (s : State) (p : PortId) : State :=
  match (s.queues p).outbound with
  | [] => s
  | n :: rest =>
    let stale := s.stale n
    let s := (s.modQueues p fun q => { q with outbound := rest }).modMsg fun m => { m with pointer := p.other }
    match s.active with
    | some a => if stale then s.complete n .stale else s.sendBuffer a p n
    | none => s.complete n .stale

/-- The End a NOTE is offered to (R160; log 10). -/
def ActiveConsist.noteEnd (a : ActiveConsist) (origin : Nat) : EndId :=
  if origin = a.position then (if Config.ownOriginNoteHeadward then a.headward else a.tailward)
  else a.toward origin

/-- The oldest NOTE is offered (R154, R160). The Note Queue is empty at a node that is not MEMBER (R163), so the
node has a head-ward End here; a NOTE found without one would be dropped. -/
def State.offerNote (s : State) (f : Frame) (rest : List Frame) : State :=
  let s := s.modMsg fun m => { m with noteQueue := rest }
  match s.active with
  | some a => s.offerTo .note f (a.noteEnd (num8 f.payload 6))
  | none => s

/-- One step of the transmit server (R154). -/
def State.serverStep (s : State) : State :=
  if s.msg.offer.isSome then s
  else
    match s.msg.noteQueue with
    | f :: rest => s.offerNote f rest
    | [] =>
      let p := s.msg.pointer
      if s.queueReady p then s.serve p
      else if s.queueReady p.other then s.serve p.other
      else s

/-- The meaning of TRANSMIT_SERVER_STEP (R154): the server works only while the node is ACTIVE. -/
def execTransmitServerStep (s : State) : Host.Outcome State Fault Refusal :=
  .next (s.live fun s => if s.power.state = .active then s.serverStep else s)

/-! ## Reception -/

/-- The port whose strapped role equals a Recipient Role code (R157). -/
def State.recipient (s : State) (role : Byte) : Option PortId :=
  if s.portA.role.code = role then some .portA
  else if s.portB.role.code = role then some .portB
  else none

/-- The buffer and the port a MSG finds room in, if there is room (R158). -/
def State.room (s : State) (role : Byte) : Option (PortId × Nat) :=
  match s.recipient role, s.lowestFree with
  | some p, some n => if s.portCount p < (s.queues p).quota then some (p, n) else none
  | _, _ => none

/-- The 64 bytes of a buffer that stores a MSG payload: its header with Status NONE, and its Body (R160). -/
def storedBytes (p : List Byte) : List Byte :=
  let filled := (p.drop 6).take 7 ++ [MessageStatus.none.code] ++ p.drop 13
  filled ++ List.replicate (Config.bufferBytes - filled.length) 0

/-- Storing begins: the buffer becomes RECEIVING (R158, R159, R160). -/
def State.beginStoring (s : State) (p : PortId) (n : Nat) (payload : List Byte) (note : Option Frame) : State :=
  (s.allot n p (.receiving p) (storedBytes payload)).modMsg fun m =>
    { m with storings := m.storings ++ [{ buffer := n, reserved := note.isSome, note := note }] }

/-- Places of the Note Queue that are taken or reserved (R158). -/
def State.notePlaces (s : State) : Nat :=
  s.msg.noteQueue.length + (s.msg.storings.filter (·.reserved)).length

/-- The NOTE that answers a MSG (R160). -/
def answerNote (a : ActiveConsist) (payload : List Byte) (status : MessageStatus) : Frame :=
  noteFrame (identityAt payload 0) (num8 payload 10) a.position (num8 payload 12) status.code

/-- A unicast MSG of the current consist (R158). -/
def State.receiveUnicast (s : State) (a : ActiveConsist) (payload : List Byte) : State :=
  if Config.noteQueueSize ≤ s.notePlaces then s
  else
    match s.room (byteAt payload 7) with
    | some (p, n) => s.beginStoring p n payload (some (answerNote a payload .delivered))
    | none => s.modMsg fun m => { m with noteQueue := m.noteQueue ++ [answerNote a payload .refusedFull] }

/-- A MSG for ALL of the current consist (R159). -/
def State.receiveBroadcast (s : State) (payload : List Byte) : State :=
  match s.room (byteAt payload 7) with
  | some (p, n) => s.beginStoring p n payload none
  | none => s

/-- A MSG handed to the Message Unit of a MEMBER node: the identity test, then by its kind (R157). -/
def State.receiveMsg (s : State) (a : ActiveConsist) (payload : List Byte) : State :=
  if identityAt payload 0 = a.identity then
    if num8 payload 6 = destAll then s.receiveBroadcast payload else s.receiveUnicast a payload
  else s

/-- A storing ends: the buffer joins the Inbound Queue and its NOTE the Note Queue (R160). -/
def State.storingEnd (s : State) (n : Nat) : State :=
  match s.msg.storings.find? (fun x => x.buffer == n) with
  | none => s
  | some x =>
    let s := s.modMsg fun m =>
      { m with storings := m.storings.filter (fun y => y.buffer != n)
               noteQueue := m.noteQueue ++ x.note.toList }
    match (s.buffer n).state.owner with
    | some p => s.toInbound n p
    | none => s

/-- The meaning of STORING_END (R160); a storing in progress ends in STABLED and WAKING as well (DESIGN CHOICE, log
36). -/
def execStoringEnd (n : Nat) (s : State) : Host.Outcome State Fault Refusal :=
  .next (s.live fun s => s.storingEnd n)

/-- A NOTE's Status, for the two Outcomes a NOTE may carry (R161, 12.2). -/
def noteStatus (b : Byte) : Option MessageStatus :=
  if b = 1 then some .delivered else if b = 2 then some .refusedFull else none

/-- A NOTE handed to the Message Unit at its origin is matched against the In-Flight Table (R157, R161). -/
def State.receiveNote (s : State) (a : ActiveConsist) (payload : List Byte) : State :=
  match noteStatus (byteAt payload 9) with
  | none => s
  | some status =>
    if identityAt payload 0 = a.identity then
      match s.msg.inFlight.find? fun e => e.sequence == num8 payload 8 && e.destination == num8 payload 7 with
      | some e => s.complete e.buffer status
      | none => s
    else s

/-- DEADLINE_EXPIRY: the entry's deadline runs out and its buffer completes NO_NOTE (R161). -/
def State.deadlineExpiry (s : State) (sequence : Nat) : State :=
  match s.msg.inFlight.find? fun e => e.sequence == sequence with
  | some e => s.expire e.deadline fun s => s.complete e.buffer .noNote
  | none => s

/-- The meaning of DEADLINE_EXPIRY (R161). -/
def execDeadlineExpiry (sequence : Nat) (s : State) : Host.Outcome State Fault Refusal :=
  .next (s.live fun s => s.deadlineExpiry sequence)

/-! ## The consist changes -/

/-- Withdrawing an offer that waits: an offered MSG completes STALE, a NOTE is discarded (R163). A unicast whose
In-Flight entry a NOTE has already removed has completed, and completes no second time (R161). -/
def State.withdrawOffer (s : State) : State :=
  match s.msg.offer with
  | none => s
  | some o =>
    let s := s.modMsg fun m => { m with offer := none }
    match o.kind with
    | .note => s
    | .unicast n => if s.msg.inFlight.any (fun e => e.buffer == n) then s.complete n .stale else s
    | .broadcast n => s.complete n .stale

/-- The report of a recount or of a leaving of MEMBER (R163). NOTEs of storings in progress are discarded; their
reserved places stay until the storing ends (R158, R160). -/
def State.msgReport (s : State) : State :=
  let s := s.withdrawOffer
  let s := s.msg.inFlight.foldl (fun s e => s.complete e.buffer .stale) s
  s.modMsg fun m =>
    { m with inFlight := [], noteQueue := [], storings := m.storings.map fun x => { x with note := none } }

/-! ## The Message Window -/

/-- The 64 bytes of the Message Window of a port (R150). -/
def State.messageWindow (s : State) (p : PortId) : List Byte :=
  match s.heldSelection p with
  | some n => (s.buffer n).bytes
  | none => List.replicate Config.bufferBytes 0xFF

/-- A write to the Message Window reaches the Body of a buffer HELD by the port (R150). -/
def State.writeMessageWindow (s : State) (p : PortId) (offset : Nat) (v : Byte) : State :=
  match s.heldSelection p with
  | some n =>
    if 8 ≤ offset ∧ offset < Config.bufferBytes then
      s.modBuffer n fun b => { b with bytes := b.bytes.set offset v }
    else s
  | none => s

end Sys2Proof.Machine
end

