-- ==== Sys2Proof/Machine/Inauguration.lean ====
section
/-! DEFINITION. The Inauguration Engine and the Consist Table: claim, count, tally, commit, leaving (02, 03, R20,
R21). -/

namespace Sys2Proof.Machine

/-! ## Leaving and entering node roles -/

/-- The node's own vehicle number. -/
def State.vehicle (s : State) : Nat := s.power.record.vehicle

/-- A CALL or SETTLE of a head's own (R67). -/
def ownCycleFrame (i : Identity) (f : Frame) : Bool :=
  (decide (f.kind = .call) || decide (f.kind = .settle)) && decide (identityAt f.payload 0 = i)

/-- The head withdraws its own CALL and SETTLE from the Cycle slot of an End (R67). -/
def State.withdrawOwn (s : State) (i : Identity) (e : EndId) : State :=
  s.modEnd e (·.modSlot .cycle (·.withdraw (ownCycleFrame i)))

/-- The head part of the Cycle Engine stops (R67). -/
def Cycle.stop (c : Cycle) : Cycle :=
  { c with state := .none, cycleTimeout := none, periodTimer := none, refreshTimer := none }

/-- The head parts when the node leaves HEADING (R67, R99, R117, R123). -/
def State.leaveHeading (s : State) (i : Identity) : State :=
  ((((s.modCycle Cycle.stop).withdrawOwn i .end1).withdrawOwn i .end2).doorLeavesHeading).grantLeavesHeading

/-- What a change of node role clears in the node parts (R70, R71, R79, R82, R133). -/
def State.roleChanged (s : State) : State :=
  (s.modCycle fun c =>
    { c with lastCallRole := .none, lastAppended := none, lastSettle := none, statusRaised := false }).modGrants
      fun g => { g with takenGrant := none }

/-- The Door Unit and the Message Unit are told of a recount or of a leaving of MEMBER (R29, R65, R95, R163). -/
def State.reportRecount (s : State) : State := s.doorReport.msgReport

/-- A leaving of MEMBER into a node role, in the order of R65. -/
def State.leaveMember (s : State) (a : ActiveConsist) (next : NodeRole) (cause : LeaveCause) : State :=
  let wasHeading := s.heading
  let s := s.modInaug fun i => { i with role := next, silence := none, lastCause := some cause }
  let s := (s.roleChanged.raise .consistInvalidated).reportRecount
  if wasHeading then s.leaveHeading a.identity else s

/-- The timers of a count stop (R31, R41, R45). -/
def Inauguration.stopTimers (i : Inauguration) : Inauguration :=
  { i with inaugurationTimer := none, hopTimer := none, commitWait := none }

/-- The node goes UNASSIGNED from COUNTED or MEMBER, with a cause (R65, R136); at an UNASSIGNED node nothing is
done. -/
def State.goUnassigned (s : State) (cause : LeaveCause) : State :=
  match s.inaug.role with
  | .unassigned => s
  | .counted _ =>
    let s := s.modInaug fun i => { i.stopTimers with role := .unassigned, lastCause := some cause }
    (s.roleChanged.raise .consistInvalidated).fallBack
  | .member a => ((s.leaveMember a .unassigned cause).modInaug Inauguration.stopTimers).fallBack

/-- Taking a COUNT, steps 1 to 3 of R29, and the like step of a claim attempt (R26). -/
def State.recount (s : State) (r : CountRecord) : State :=
  match s.inaug.role with
  | .member a => s.leaveMember a (.counted r) .countReception
  | .unassigned => ((s.modInaug fun i => { i with role := .counted r }).roleChanged).reportRecount
  | .counted _ => (s.modInaug fun i => { i with role := .counted r }).reportRecount

/-- The claim ends without a consist: the reason is held, the Outstanding Order is emptied (R115) and Claim Result
is raised. -/
def State.failClaim (s : State) (r : ClaimFailure) : State :=
  ((s.modInaug fun i => { i with headRole := .claimFailed r }).emptyOrder).raise .claimResult

/-- The head role becomes NO_CLAIM and the Outstanding Order is emptied (R46, R115). -/
def State.dropClaim (s : State) : State := (s.modInaug fun i => { i with headRole := .noClaim }).emptyOrder

/-- The node places a Dissolve of its own with a generation (R39, R42, R46, R48). -/
def State.placeDissolve (s : State) (e : EndId) (generation : Nat) : State :=
  s.place e .inauguration (dissolveFrame { head := s.vehicle, generation := generation })

/-! ## Committing -/

/-- The head part of the Cycle Engine starts: the first CALL is due at once (R67; log 5). -/
def Cycle.start (c : Cycle) : Cycle :=
  { c with state := .idleContinuous, number := 0, nextMode := .continuous, failures := 0, lastFailure := none
           callRequested := false, cycleTimeout := none, periodTimer := none, refreshTimer := none }

/-- The Active consist a claiming node builds (R40 step 3). -/
def State.headConsist (s : State) (r : CountRecord) (length : Nat) (others : List RosterEntry) : ActiveConsist :=
  { identity := { head := s.vehicle, generation := nextWrap 65535 s.inaug.generation }
    length := length
    entries := s.rosterEntry 1 r.headward :: others
    position := 1
    orientation := orientationOf r.headward
    headward := r.headward
    lineSilence := s.cycle.timing.lineSilence }

/-- The claiming node commits (R40). -/
def State.commit (s : State) (r : CountRecord) (length : Nat) (others : List RosterEntry) (truncated : Bool) :
    State :=
  let a := s.headConsist r length others
  let s := s.modInaug fun i =>
    { i.stopTimers with generation := a.identity.generation, role := .member a, headRole := .heading
                        truncated := truncated }
  let s := (s.roleChanged.grantCommit a).doorCommit
  let s := s.place a.tailward .inauguration (commitFrame a.identity a.lineSilence a.length a.entries)
  ((s.raise .consistCommitted).raise .claimResult).modCycle Cycle.start

/-- The lone head: a consist of Length 1 (R27). -/
def State.loneHead (s : State) (r : CountRecord) (truncated : Bool) : State := s.commit r 1 [] truncated

/-! ## Attempts -/

/-- The head-ward End the claim rule chooses from the debounced senses; none where both are closed (R25). -/
def State.claimHeadward (s : State) : Option EndId :=
  match s.end1.sense, s.end2.sense with
  | .closed, .closed => none
  | .closed, .opened => some .end2
  | .opened, _ => some .end1

/-- The Tally Stage a node takes on by the link state of its tail-ward End (R26, R30). -/
def LinkState.stage (l : LinkState) : TallyStage :=
  match l with
  | .opened => .tallySent
  | .up | .degraded => .awaitingTally
  | .joining | .down => .awaitingHop

/-- The count record of a claiming node (R26). -/
def State.claimRecord (s : State) (headward : EndId) (attempt : Nat) : CountRecord :=
  { head := s.vehicle, attempt := attempt, position := 1, headward := headward
    timeout := s.cycle.timing.inaugurationTimeout, stage := (s.lineEnd headward.other).link.stage, noted := none }

/-- The COUNT a node places for the node after it (R26, R30). -/
def CountRecord.countFrame (r : CountRecord) : Frame :=
  CountFrame.frame { head := r.head, attempt := r.attempt, next := r.position + 1, timeout := r.timeout }

/-- The Hop Timer starts where the neighbour has yet to show itself (R26, R30). -/
def State.startHop (s : State) (stage : TallyStage) : State :=
  let timer := s.timerMs Config.hopMs
  s.modInaug fun i => { i with hopTimer := if stage = .awaitingHop then timer else none }

/-- An attempt begins with a head-ward End (R26). -/
def State.attemptFrom (s : State) (headward : EndId) (attempt : Nat) : State :=
  let r := s.claimRecord headward attempt
  let s := (s.recount r).modInaug fun i => { i.stopTimers with headRole := .claiming, attempt := attempt }
  if s.isOpen r.tailward then s.loneHead r false
  else
    let timer := s.timerMs r.timeout
    ((s.place r.tailward .inauguration r.countFrame).startHop r.stage).modInaug fun i =>
      { i with inaugurationTimer := timer }

/-- The attempt number is written, and the attempt begins, the Ends judged afresh; with both closed the claim ends (R26,
R41, R42, R49). -/
def State.beginAttempt (s : State) (attempt : Nat) : State :=
  let s := s.modInaug fun i => { i with attempt := attempt }
  match s.claimHeadward with
  | some h => s.attemptFrom h attempt
  | none => (s.goUnassigned .claimEnded).failClaim .notAtEnd

/-- A trigger of re-inauguration acts at a HEADING node alone (R49). -/
def State.reinaugurate (s : State) : State := if s.heading then s.beginAttempt 1 else s

/-- Claim Cab's checks (R25). -/
def claimCheck (s : State) : Option Reason :=
  firstReason [(!(s.ready && s.power.record.cabFitted), .notReady), (s.claiming || s.heading, .state)]

/-- Claim Cab (R25). -/
def State.claimCab (s : State) : State :=
  match s.claimHeadward with
  | some h => s.attemptFrom h 1
  | none => s.failClaim .notAtEnd

/-- The meaning of CLAIM_CAB (R25). -/
def execClaimCab (p : PortId) (s : State) : Host.Outcome State Fault Refusal :=
  .next (s.plainCommand p (some .door) claimCheck fun s => s.claimCab)

/-- Release Cab's check (R46). -/
def releaseCheck (s : State) : Option Reason := firstReason [(decide (s.inaug.headRole = .noClaim), .state)]

/-- Release Cab (R46). -/
def State.releaseCab (s : State) : State :=
  match s.inaug.role with
  | .member a =>
    if s.heading then
      ((s.placeDissolve a.tailward a.identity.generation).goUnassigned .dissolve).dropClaim
    else s.dropClaim
  | .counted r =>
    if s.claiming then ((s.placeDissolve r.tailward 0).goUnassigned .dissolve).dropClaim else s.dropClaim
  | .unassigned => s.dropClaim

/-- The meaning of RELEASE_CAB (R46). -/
def execReleaseCab (p : PortId) (s : State) : Host.Outcome State Fault Refusal :=
  .next (s.plainCommand p (some .door) releaseCheck fun s => s.releaseCab)

/-! ## The count going out -/

/-- Changing the count record. -/
def State.setRecord (s : State) (r : CountRecord) : State := s.modInaug fun i => { i with role := .counted r }

/-- The tail of a count answers: a TALLY with its own entry, Noted Length, TALLY_SENT (R31, R32, R34). -/
def State.tailTally (s : State) (r : CountRecord) (flag : TallyFlag) : State :=
  let f := tallyFrame r.head r.attempt r.position flag.byte (s.rosterEntry r.position r.headward).bytes
  ((s.place r.headward .inauguration f).modInaug fun i => { i with hopTimer := none }).setRecord
    { r with stage := .tallySent, noted := some r.position }

/-- A TALLY without entries, of Length 0 (R34, R37). -/
def flaggedTally (head attempt : Nat) (flag : TallyFlag) : Frame := tallyFrame head attempt 0 flag.byte []

/-- The count record written on taking a COUNT (R29 step 3, R30). -/
def State.countRecord (s : State) (e : EndId) (c : CountFrame) : CountRecord :=
  { head := c.head, attempt := c.attempt, position := c.next, headward := e, timeout := c.timeout
    stage := if c.next = 33 then .tallySent else (s.lineEnd e.other).link.stage, noted := none }

/-- How a node answers a COUNT it has taken (R30). -/
def State.answerCount (s : State) (r : CountRecord) : State :=
  if r.position = 33 then s.place r.headward .inauguration (flaggedTally r.head r.attempt .tooLong)
  else if s.isOpen r.tailward then s.tailTally r .plain
  else (s.place r.tailward .inauguration r.countFrame).startHop r.stage

/-- A node takes a COUNT (R29, R30). -/
def State.takeCount (s : State) (e : EndId) (c : CountFrame) : State :=
  let r := s.countRecord e c
  let timer := s.timerMs (2 * c.timeout)
  ((s.recount r).modInaug fun i => { i.stopTimers with commitWait := timer }).answerCount r

/-- A contest detected at a COUNTED node (R37). -/
def State.contest (s : State) (r : CountRecord) (e : EndId) (c : CountFrame) : State :=
  ((s.place r.headward .inauguration (flaggedTally r.head r.attempt .contest)).place e .inauguration
    (flaggedTally c.head c.attempt .contest)).goUnassigned .contest

/-- A COUNT at a head is a contest (R38). -/
def State.headContest (s : State) (e : EndId) (c : CountFrame) : State :=
  (((s.place e .inauguration (flaggedTally c.head c.attempt .contest)).place e.other .inauguration
    (flaggedTally s.vehicle s.inaug.attempt .contest)).goUnassigned .contest).failClaim .contest

/-- An accepted COUNT (R28). -/
def State.receiveCount (s : State) (e : EndId) (p : List Byte) : State :=
  let c := CountFrame.ofPayload p
  if c.valid = false then s
  else if s.claiming || s.heading then s.headContest e c
  else
    match s.counted with
    | some r => if r.head ≠ c.head ∧ e = r.tailward then s.contest r e c else s.takeCount e c
    | none => s.takeCount e c

/-! ## The tally coming back -/

/-- A Noted Length; 0 is none (2.1, R60). -/
def notedLength (n : Nat) : Option Nat := if n = 0 then none else some n

/-- A TALLY is taken at a COUNTED node that is not claiming (R35, R36; log 26). -/
def State.tallyAtNode (s : State) (r : CountRecord) (f : Frame) : State :=
  match TallyFlag.ofByte (byteAt f.payload 6) with
  | .tooLong =>
    ((s.place r.headward .inauguration f).modInaug fun i => { i with hopTimer := none }).setRecord
      { r with stage := .tallySent }
  | .contest => (s.place r.headward .inauguration f).goUnassigned .contest
  | .plain | .truncated =>
    if r.stage = .awaitingTally ∧ (tallyEntries f.payload).head?.map (·.position) = some (r.position + 1) then
      let own := (s.rosterEntry r.position r.headward).bytes
      let g : Frame := { kind := .tally, payload := f.payload.take 7 ++ own ++ f.payload.drop 7 }
      (s.place r.headward .inauguration g).setRecord
        { r with stage := .tallySent, noted := notedLength (num8 f.payload 5) }
    else s

/-- The list of a TALLY fits its Length at the head (R39). -/
def tallyFits (length : Nat) (entries : List RosterEntry) : Bool :=
  decide (2 ≤ length ∧ length ≤ 32) && decide (entries.map (·.position) = (List.range (length - 1)).map (· + 2))

/-- A TALLY is taken at the claiming node (R39). -/
def State.tallyAtHead (s : State) (r : CountRecord) (f : Frame) : State :=
  let flag := TallyFlag.ofByte (byteAt f.payload 6)
  match flag with
  | .contest => (s.goUnassigned .contest).failClaim .contest
  | .tooLong => ((s.placeDissolve r.tailward 0).goUnassigned .claimEnded).failClaim .tooLong
  | .plain | .truncated =>
    let entries := tallyEntries f.payload
    let length := num8 f.payload 5
    if tallyFits length entries then s.commit r length entries (decide (flag = .truncated)) else s

/-- An accepted TALLY (R35, R36, R39); at a claiming node one of an abandoned attempt 1 has the number of the attempt
begun again and is taken (DEDUCED, log 33). -/
def State.receiveTally (s : State) (e : EndId) (f : Frame) : State :=
  match s.counted with
  | none => s
  | some r =>
    let head := num32 f.payload 0
    let attempt := num8 f.payload 4
    if e ≠ r.tailward then s
    else if s.claiming then
      if head = s.vehicle ∧ attempt = s.inaug.attempt then s.tallyAtHead r f else s
    else if head = r.head ∧ attempt = r.attempt then s.tallyAtNode r f
    else s

/-! ## The commit at a node -/

/-- A COMMIT is accepted at a COUNTED node that is not claiming (R43). -/
def State.acceptsCommit (s : State) (r : CountRecord) (e : EndId) (p : List Byte) : Bool :=
  let length := num8 p 8
  let entries := commitEntries p
  decide (e = r.headward) && decide (num32 p 0 = r.head) && !s.loading && decide (r.position ≤ length)
    && decide (entries.map (·.position) = (List.range length).map (· + 1))
    && (match entries[r.position - 1]? with
        | some x => decide (x.vehicle = s.vehicle) && decide (x.orientation = orientationOf r.headward)
        | none => false)
    && (match r.noted with
        | some n => decide (n = length)
        | none => true)

/-- The Active consist of a COMMIT accepted (R43 step 1, R51). -/
def memberConsist (r : CountRecord) (p : List Byte) : ActiveConsist :=
  { identity := identityAt p 0, length := num8 p 8, entries := commitEntries p, position := r.position
    orientation := orientationOf r.headward, headward := r.headward, lineSilence := num16 p 6 }

/-- A node accepts a COMMIT, which is a commit for the Consist Table and the head part of the Door Unit (R43, R51, R62, R99,
R104, R120). The failure count and the other head items of the Cycle Engine keep their values until the node commits as head
(R67, R85; that the every commit of R77 is one as head: DEDUCED, log 41). -/
def State.acceptCommit (s : State) (r : CountRecord) (f : Frame) : State :=
  let a := memberConsist r f.payload
  let timer := s.timerMs a.lineSilence
  let s := s.modInaug fun i => { i.stopTimers with role := .member a, silence := timer }
  (s.roleChanged.doorNewConsist.raise .consistCommitted).place a.tailward .inauguration f

/-- A node leaves for UNASSIGNED and alerts on the head-ward End it held (R44, R63, R65). -/
def State.leaveWithAlert (s : State) (headward : EndId) (cause : LeaveCause) : State :=
  (s.goUnassigned cause).topologyAlert headward

/-- A COMMIT that is not accepted is forwarded all the same (R44). -/
def State.rejectCommit (s : State) (e : EndId) (f : Frame) : State :=
  let s := s.place e.other .inauguration f
  if s.claiming || s.heading then s
  else
    match s.inaug.role with
    | .unassigned => s
    | .counted r => s.leaveWithAlert r.headward .commitRejected
    | .member a => s.leaveWithAlert a.headward .commitRejected

/-- A Dissolve is taken at a node that is no head (R47). -/
def State.takesDissolve (s : State) (e : EndId) (head : Nat) : Bool :=
  !(s.claiming || s.heading)
    && match s.inaug.role with
       | .unassigned => false
       | .counted r => decide (e = r.headward) && decide (head = r.head)
       | .member a => decide (e = a.headward) && decide (head = a.identity.head)

/-- A Dissolve (R47): taken or not, it goes on unchanged on the End opposite its arrival, which at a node that takes
it is the tail-ward End. -/
def State.receiveDissolve (s : State) (e : EndId) (f : Frame) : State :=
  (if s.takesDissolve e (num32 f.payload 0) then s.goUnassigned .dissolve else s).place e.other .inauguration f

/-- An accepted COMMIT (R43, R44, R47). -/
def State.receiveCommit (s : State) (e : EndId) (f : Frame) : State :=
  let length := num8 f.payload 8
  if length = 0 then s.receiveDissolve e f
  else
    match s.counted with
    | some r =>
      if length ≤ 32 ∧ s.claiming = false ∧ s.acceptsCommit r e f.payload = true then s.acceptCommit r f
      else s.rejectCommit e f
    | none => s.rejectCommit e f

/-! ## Reports of the Ends -/

/-- A change of an End from a link state. -/
structure EndChange where
  place : EndId
  old : LinkState
  new : LinkState
deriving DecidableEq, Repr

/-- The End has become usable. -/
def EndChange.gained (c : EndChange) : Bool := !c.old.usable && c.new.usable

/-- The End has become not usable. -/
def EndChange.lost (c : EndChange) : Bool := c.old.usable && !c.new.usable

/-- The End has entered OPEN. -/
def EndChange.opened (c : EndChange) : Bool := decide (c.old ≠ .opened ∧ c.new = .opened)

/-- The End has left OPEN. -/
def EndChange.leftOpen (c : EndChange) : Bool := decide (c.old = .opened ∧ c.new ≠ .opened)

/-- The change of a tail-ward End that raises a topology alert, or restarts an attempt (R21, R42). -/
def EndChange.matters (c : EndChange) : Bool := c.gained || c.lost || c.opened

/-- Displacement of a head (R48). -/
def State.displace (s : State) (a : ActiveConsist) : State :=
  ((s.placeDissolve a.tailward a.identity.generation).goUnassigned .dissolve).failClaim .displaced

/-- A report at a HEADING node (R20, R48, R49). -/
def State.reportHeading (s : State) (a : ActiveConsist) (c : EndChange) : State :=
  if c.place = a.headward then if c.leftOpen then s.displace a else s
  else if c.gained || c.lost then s.reinaugurate
  else s

/-- A report at a CLAIMING node (R31, R42). -/
def State.reportClaiming (s : State) (r : CountRecord) (c : EndChange) : State :=
  if c.place = r.headward then
    if c.leftOpen then ((s.placeDissolve r.tailward 0).goUnassigned .claimEnded).failClaim .notAtEnd else s
  else if s.inaug.hopTimer.isSome then
    if c.gained then
      (s.modInaug fun i => { i with hopTimer := none }).setRecord { r with stage := .awaitingTally }
    else if c.opened then s.loneHead r false
    else s
  else if c.matters then s.beginAttempt 1
  else s

/-- What a change of its tail-ward End makes a COUNTED node answer (R31, R32). -/
def State.tailChange (s : State) (r : CountRecord) (c : EndChange) : State :=
  match r.stage with
  | .awaitingHop =>
    if c.gained then
      (s.modInaug fun i => { i with hopTimer := none }).setRecord { r with stage := .awaitingTally }
    else if c.opened then s.tailTally r .plain
    else s
  | .awaitingTally => if c.lost then s.tailTally r (if c.opened then .plain else .truncated) else s
  | .tallySent => s

/-- A report at a COUNTED node that is not claiming (R20, R21, R31, R32, R64). -/
def State.reportCounted (s : State) (r : CountRecord) (c : EndChange) : State :=
  if c.place = r.headward then if c.lost then s.goUnassigned .headWardLoss else s
  else
    let s := s.tailChange r c
    if c.matters then s.topologyAlert r.headward else s

/-- A report at a MEMBER node that is not HEADING (R20, R21, R64). -/
def State.reportMember (s : State) (a : ActiveConsist) (c : EndChange) : State :=
  if c.place = a.headward then if c.lost then s.goUnassigned .headWardLoss else s
  else if c.matters then s.topologyAlert a.headward
  else s

/-- A report taken by the Inauguration Engine in the state it is in (R20). -/
def State.reportInauguration (s : State) (c : EndChange) : State :=
  match s.inaug.role with
  | .unassigned => s
  | .counted r => if s.claiming then s.reportClaiming r c else s.reportCounted r c
  | .member a => if s.heading then s.reportHeading a c else s.reportMember a c

/-- The reports of an End whose link state was `old` (R20). An End that is not usable takes and discards a waiting offer
at that moment (R16, R163), so that it has left before the Inauguration Engine acts on its report (log 30). -/
def State.reportEnd (s : State) (e : EndId) (old : LinkState) : State :=
  let new := (s.lineEnd e).link
  if new = old then s
  else (s.discardOffer e).reportInauguration { place := e, old := old, new := new }

/-! ## Timers -/

/-- HOP_TIMER_EXPIRY (R27, R31). -/
def State.hopExpiry (s : State) : State :=
  s.expire s.inaug.hopTimer fun s =>
    let s := s.modInaug fun i => { i with hopTimer := none }
    match s.counted with
    | some r => if s.claiming then s.loneHead r true else s.tailTally r .truncated
    | none => s

/-- The meaning of HOP_TIMER_EXPIRY (R31). -/
def execHopTimerExpiry (s : State) : Host.Outcome State Fault Refusal := .next (s.live fun s => s.hopExpiry)

/-- INAUGURATION_TIMER_EXPIRY (R41). -/
def State.inaugurationExpiry (s : State) : State :=
  s.expire s.inaug.inaugurationTimer fun s =>
    let s := s.modInaug fun i => { i with inaugurationTimer := none }
    if s.claiming then
      if s.inaug.attempt < 3 then s.beginAttempt (s.inaug.attempt + 1)
      else (s.goUnassigned .claimEnded).failClaim .timeout
    else s

/-- The meaning of INAUGURATION_TIMER_EXPIRY (R41). -/
def execInaugurationTimerExpiry (s : State) : Host.Outcome State Fault Refusal :=
  .next (s.live fun s => s.inaugurationExpiry)

/-- COMMIT_WAIT_EXPIRY (R45). -/
def State.commitWaitExpiry (s : State) : State :=
  s.expire s.inaug.commitWait fun s =>
    (s.modInaug fun i => { i with commitWait := none }).goUnassigned .commitWaitExpiry

/-- The meaning of COMMIT_WAIT_EXPIRY (R45). -/
def execCommitWaitExpiry (s : State) : Host.Outcome State Fault Refusal :=
  .next (s.live fun s => s.commitWaitExpiry)

/-- SILENCE_EXPIRY (R63). -/
def State.silenceExpiry (s : State) : State :=
  s.expire s.inaug.silence fun s =>
    let s := s.modInaug fun i => { i with silence := none }
    match s.active with
    | some a => s.leaveWithAlert a.headward .silenceExpiry
    | none => s

/-- The meaning of SILENCE_EXPIRY (R63). -/
def execSilenceExpiry (s : State) : Host.Outcome State Fault Refusal := .next (s.live fun s => s.silenceExpiry)

end Sys2Proof.Machine
end

