-- ==== Sys2Proof/Machine/CycleEngine.lean ====
section
/-! DEFINITION. The Cycle Engine: CALL, RETURN, SETTLE, pace, failures, WAKE at the head, Line Timing (04); ORDER at
a node (R90). -/

namespace Sys2Proof.Machine

/-! ## Line Silence -/

/-- The silence timer restarts at the Line Silence in force; it does not run at a HEADING node (R62). -/
def State.restartSilence (s : State) (a : ActiveConsist) : State :=
  if s.heading then s
  else
    let timer := s.timerMs a.lineSilence
    s.modInaug fun i => { i with silence := timer }

/-- The Line Silence in force takes a value (R61). -/
def State.setLineSilence (s : State) (a : ActiveConsist) (v : Nat) : State :=
  s.modInaug fun i => { i with role := .member { a with lineSilence := v } }

/-- The Line Silence a CALL leaves in force: its own where that is 500 to 10,000 ms, else as it was (R61). -/
def ActiveConsist.silenceAfter (a : ActiveConsist) (v : Nat) : Nat :=
  if 500 ≤ v ∧ v ≤ 10000 then v else a.lineSilence

/-! ## The CALL along the train -/

/-- The node part notes what the node did with a CALL (R71, R72). -/
def State.noteCall (s : State) (r : CallRole) : State := s.modCycle fun c => { c with lastCallRole := r }

/-- A frame of the Cycle source for an End (R13). -/
def State.placeCycle (s : State) (e : EndId) (f : Frame) : State := s.place e .cycle f

/-- A CALL of the current consist on the head-ward End is used first: Line Silence, silence timer, Head Flags
(R61, R71, R96). -/
def State.useCall (s : State) (a : ActiveConsist) (h : CallHeader) : State :=
  let a' := { a with lineSilence := a.silenceAfter h.silence }
  ((s.setLineSilence a (a.silenceAfter h.silence)).restartSilence a').headFlags (hasBit h.flags 0)

/-- A placed node appends its record and sends the CALL on, or turns it round (R71, R72, R73). -/
def State.placedCall (s : State) (a : ActiveConsist) (e : EndId) (p : List Byte) : State :=
  let s := s.useCall a (CallHeader.ofPayload p)
  if 32 ≤ callRecordCount p then (s.placeCycle e (returnOfCall p true)).noteCall .short
  else
    let r := s.placedRecord a.position
    let s := s.appended r
    let p := p ++ r.bytes
    if a.position = a.length then (s.placeCycle a.headward (returnOfCall p false)).noteCall .tail
    else if s.usable a.tailward then
      (s.placeCycle a.tailward { kind := .call, payload := p }).noteCall .forwarded
    else (s.placeCycle a.headward (returnOfCall p true)).noteCall .short

/-- A CALL answered with an Unplaced record (R72, R73). -/
def State.unplacedCall (s : State) (e : EndId) (p : List Byte) : State :=
  if 32 ≤ callRecordCount p then (s.placeCycle e (returnOfCall p true)).noteCall .short
  else
    let p := p ++ s.unplacedRecord.bytes
    if s.usable e.other then
      (s.placeCycle e.other { kind := .call, payload := p }).noteCall .unplacedForwarded
    else (s.placeCycle e (returnOfCall p true)).noteCall .unplacedShort

/-- An accepted CALL (R54, R70, R71, R72). -/
def State.receiveCall (s : State) (e : EndId) (p : List Byte) : State :=
  match s.active with
  | some a =>
    if e = a.headward ∧ identityAt p 0 = a.identity then s.placedCall a e p else s.unplacedCall e p
  | none => s.unplacedCall e p

/-! ## The SETTLE -/

/-- Whether Next Mode is CONTINUOUS for a RETURN (R78). -/
def State.continuousNext (s : State) (failed : Bool) (records : List CycleRecord) : Bool :=
  failed || !s.door.headStandstill || records.any (·.doorOpen)
    || (match s.track.outstanding with
        | some r => !r.complete
        | none => false)
    || decide (0 < withheldCount s.grants.table) || unseeded s.grants.table || s.cycle.timing.continuousOnly

/-- The Last Settle the head takes from its own SETTLE (R132). -/
def State.ownSettle (s : State) (mode : NextMode) : LastSettle :=
  { cycleNumber := s.cycle.number, nextMode := mode.code, proof := flagBit s.track.proved 0
    grant := (s.grants.table.map (·.byte)).headD 255 }

/-- The head builds a SETTLE, places it, enters the idle state that matches Next Mode, and takes the SETTLE for
itself (R78, R131, R132). -/
def State.settle (s : State) (a : ActiveConsist) (failed : Bool) (records : List CycleRecord) : State :=
  let mode : NextMode := if s.continuousNext failed records then .continuous else .quiet
  let f := settleFrame a.identity s.cycle.number mode s.track.proved (s.grants.table.map (·.byte))
  let s := s.modCycle fun c =>
    { c with nextMode := mode, state := if mode = .quiet then .idleQuiet else .idleContinuous }
  (s.placeCycle a.tailward f).useSettle (s.ownSettle mode)

/-- The Last Settle a member takes at its position (R79). -/
def memberSettle (a : ActiveConsist) (p : List Byte) : LastSettle :=
  { cycleNumber := num16 p 6, nextMode := byteAt p 8, proof := byteAt p 9, grant := num8 p (9 + a.position) }

/-- A SETTLE of the current consist on the head-ward End (R79). -/
def State.memberSettles (s : State) (a : ActiveConsist) (f : Frame) : State :=
  let s := s.restartSilence a
  let s := if f.payload.length = 10 + a.length then s.useSettle (memberSettle a f.payload) else s
  s.placeCycle a.tailward f

/-- An accepted SETTLE (R54, R79). -/
def State.receiveSettle (s : State) (e : EndId) (f : Frame) : State :=
  match s.active with
  | some a =>
    if e = a.headward ∧ identityAt f.payload 0 = a.identity then s.memberSettles a f else s.placeCycle e.other f
  | none => s.placeCycle e.other f

/-! ## Failures -/

/-- A failure is counted (R77). -/
def State.countFailure (s : State) (c : CycleFailure) : State :=
  (s.modCycle fun k => { k with failures := min 3 (k.failures + 1), lastFailure := some c }).raise .cycleFailure

/-- The failure ends the consist (R77). -/
def State.failureEnds (s : State) (c : CycleFailure) : Bool := decide (c = .unplaced) || decide (3 ≤ s.cycle.failures)

/-- A failing RETURN (R75, R77). -/
def State.returnFails (s : State) (a : ActiveConsist) (c : CycleFailure) (records : List CycleRecord) : State :=
  let s := s.countFailure c
  if s.failureEnds c then s.reinaugurate else s.unprove.settle a true records

/-- CYCLE_TIMEOUT_EXPIRY (R76, R77). -/
def State.cycleTimeoutExpiry (s : State) : State :=
  s.expire s.cycle.cycleTimeout fun s =>
    let s := s.modCycle fun c => { c with cycleTimeout := none }
    if s.cycle.state = .callOut then
      let s := s.unprove.countFailure .timeout
      if s.failureEnds .timeout then s.reinaugurate
      else s.modCycle fun c => { c with state := .idleContinuous }
    else s

/-- The meaning of CYCLE_TIMEOUT_EXPIRY (R76). -/
def execCycleTimeoutExpiry (s : State) : Host.Outcome State Fault Refusal :=
  .next (s.live fun s => s.cycleTimeoutExpiry)

/-! ## The RETURN at the head -/

/-- Why a taken RETURN fails, or that it is successful (R75). -/
def judgeReturn (length : Nat) (short : Bool) (records : List CycleRecord) : Option CycleFailure :=
  if records.any (fun r => decide (r.position = 0)) then some .unplaced
  else if short then some .short
  else if records.map (fun r => r.position.toNat) ≠ (List.range length).map (· + 1) then some .count
  else none

/-- A taken RETURN is evaluated (R75). -/
def State.evaluateReturn (s : State) (a : ActiveConsist) (short : Bool) (records : List CycleRecord) : State :=
  match judgeReturn a.length short records with
  | some c => s.returnFails a c records
  | none =>
    let s := s.modCycle fun c => { c with failures := 0 }
    ((s.doorReturn a records).grantReturn a records).settle a false records

/-- A RETURN accepted at a HEADING node is taken (R74). -/
def State.takesReturn (s : State) (a : ActiveConsist) (e : EndId) (p : List Byte) : Bool :=
  s.heading && decide (s.cycle.state = .callOut) && decide (e = a.tailward)
    && decide (identityAt p 0 = a.identity) && decide (num16 p 6 = s.cycle.number)

/-- An accepted RETURN at a HEADING node (R74). -/
def State.receiveReturn (s : State) (e : EndId) (p : List Byte) : State :=
  match s.active with
  | some a =>
    if s.takesReturn a e p then
      (s.modCycle fun c => { c with cycleTimeout := none }).evaluateReturn a (returnShort p) (returnRecords p)
    else s
  | none => s

/-! ## Pace and origination -/

/-- A SETTLE of the head's own still waits at the tail-ward End (R80); one emptied from there waits no longer (DESIGN
CHOICE, log 35). -/
def State.settleWaits (s : State) (a : ActiveConsist) : Bool :=
  (s.lineEnd a.tailward).slots.cycle.frames.any fun f => decide (f.kind = .settle) && ownCycleFrame a.identity f

/-- The next CALL is due (R67, R80, R81). -/
def State.callDue (s : State) (a : ActiveConsist) : Bool :=
  s.heading && s.cycle.periodTimer.isNone &&
    match s.cycle.state with
    | .idleContinuous => !s.settleWaits a
    | .idleQuiet => s.cycle.callRequested || s.cycle.refreshTimer.isNone
    | .callOut | .none => false

/-- An ORDER of the Door source waits for the tail-ward End (R68). -/
def State.orderWaits (s : State) (a : ActiveConsist) : Bool :=
  !(s.lineEnd a.tailward).slots.door.frames.isEmpty

/-- The CALL leaves: the moment is recorded and the timers start; a head of Length 1 has no Cycle Timeout
(R68, R69). -/
def State.callLeaves (s : State) (a : ActiveConsist) : State :=
  let m := s.moment
  let timeout := if a.length = 1 then none else s.timerMs (cycleTimeoutMs a.length)
  let period := s.timerMs s.cycle.timing.cyclePeriod
  let refresh := s.timerMs s.cycle.timing.quietRefresh
  s.tickMoment.modCycle fun c =>
    { c with lastCallLeft := some m, cycleTimeout := timeout, periodTimer := period, refreshTimer := refresh }

/-- The header of the CALL the head originates (R68 step 2). -/
def State.callHeader (s : State) (a : ActiveConsist) : CallHeader :=
  { identity := a.identity, number := s.cycle.number, flags := flagBit s.door.headStandstill 0
    silence := a.lineSilence }

/-- Origination of a CALL (R68, R96). -/
def State.originate (s : State) (a : ActiveConsist) : State :=
  let s := s.modCycle fun c => { c with number := nextWrap 65535 c.number, callRequested := false }
  let header := s.callHeader a
  let s := s.headFlags s.door.headStandstill
  let r := s.placedRecord 1
  let s := s.appended r
  if a.length = 1 then (s.callLeaves a).evaluateReturn a false [r]
  else
    (s.placeCycle a.tailward { kind := .call, payload := header.bytes ++ r.bytes }).modCycle fun c =>
      { c with state := .callOut }

/-- CALL_ORIGINATE: a due CALL that no ORDER holds back is originated (R68). -/
def State.callOriginate (s : State) : State :=
  match s.active with
  | some a => if s.callDue a && !s.orderWaits a then s.originate a else s
  | none => s

/-- The meaning of CALL_ORIGINATE (R68). -/
def execCallOriginate (s : State) : Host.Outcome State Fault Refusal := .next (s.awake fun s => s.callOriginate)

/-- PERIOD_TIMER_EXPIRY (R80): a CALL may now be due. -/
def State.periodExpiry (s : State) : State :=
  s.expire s.cycle.periodTimer fun s => s.modCycle fun c => { c with periodTimer := none }

/-- The meaning of PERIOD_TIMER_EXPIRY (R80). -/
def execPeriodTimerExpiry (s : State) : Host.Outcome State Fault Refusal := .next (s.live fun s => s.periodExpiry)

/-- REFRESH_TIMER_EXPIRY (R81): in IDLE_QUIET the next CALL is due. -/
def State.refreshExpiry (s : State) : State :=
  s.expire s.cycle.refreshTimer fun s => s.modCycle fun c => { c with refreshTimer := none }

/-- The meaning of REFRESH_TIMER_EXPIRY (R81). -/
def execRefreshTimerExpiry (s : State) : Host.Outcome State Fault Refusal := .next (s.live fun s => s.refreshExpiry)

/-! ## WAKE at the head, ORDER at a node -/

/-- A WAKE at a HEADING node (R83). -/
def State.headWake (s : State) (f : Frame) : State :=
  let flags := byteAt f.payload 0
  if hasBit flags 1 then s.reinaugurate
  else if hasBit flags 0 then s.requestCall
  else s

/-- An accepted ORDER: of the current consist on the head-ward End it restarts the silence timer and is judged by
the Door Unit; every other is forwarded without use (R54, R62, R90). -/
def State.receiveOrder (s : State) (e : EndId) (f : Frame) : State :=
  match s.active with
  | some a =>
    if e = a.headward ∧ identityAt f.payload 0 = a.identity then (s.restartSilence a).judgeOrder a f
    else s.place e.other .door f
  | none => s.place e.other .door f

/-! ## Line Timing -/

/-- The settings the operands of Set Line Timing spell (12.4). -/
def timingOperands (s : State) (p : PortId) : LineTiming :=
  { cyclePeriod := s.operandNum p 1 * 10, quietRefresh := s.operandNum p 2 * 50
    lineSilence := s.operandNum p 3 * 50, inaugurationTimeout := s.operandNum p 4 * 50
    continuousOnly := hasBit (s.operand p 5) 0 }

/-- The ranges and limits of R84; the operands' units put every value on its step. -/
def LineTiming.inRange (t : LineTiming) : Bool :=
  decide (20 ≤ t.cyclePeriod ∧ t.cyclePeriod ≤ 1000 ∧ 200 ≤ t.quietRefresh ∧ t.quietRefresh ≤ 5000
    ∧ 500 ≤ t.lineSilence ∧ t.lineSilence ≤ 10000 ∧ 200 ≤ t.inaugurationTimeout
    ∧ t.inaugurationTimeout ≤ 5000 ∧ 2 * t.quietRefresh ≤ t.lineSilence
    ∧ 4 * t.cyclePeriod ≤ t.lineSilence)

/-- Set Line Timing (R61, R81, R84). -/
def State.setLineTiming (s : State) (t : LineTiming) : State :=
  let sets := t.continuousOnly && !s.cycle.timing.continuousOnly
  let s := s.modCycle fun c => { c with timing := t }
  let s := match s.active with
    | some a => if s.heading then s.setLineSilence a t.lineSilence else s
    | none => s
  if sets then s.requestCall else s

/-- The meaning of SET_LINE_TIMING (R84). -/
def execSetLineTiming (p : PortId) (s : State) : Host.Outcome State Fault Refusal :=
  .next (s.plainCommand p (some .door)
    (fun s => firstReason [(!(timingOperands s p).inRange, .range)])
    fun s => s.setLineTiming (timingOperands s p))

end Sys2Proof.Machine
end

