-- ==== Sys2Proof/Machine/TrainLine.lean ====
section
/-! DEFINITION. The Ends: coupler sense, copies, the Twin Filter, handing on, the arbiter and the transmitter,
keepalive, End Reset (01, R184). -/

namespace Sys2Proof.Machine

/-! ## Wake causes -/

/-- A wake cause: taken in STABLED alone, it is recorded and starts Wake Settle (R184, R185). -/
def State.wakeBy (s : State) (c : WakeCause) : State :=
  if s.power.state = .stabled then
    let timer := s.timerUs (s.power.record.wakeSettle * 32)
    s.modPower fun p => { p with state := .waking, wakeCause := c, wakeSettle := timer }
  else s

/-! ## Coupler sense -/

/-- The Sense Debounce timer runs while the raw level differs from the debounced state (R1). -/
def State.startDebounce (s : State) (e : EndId) : State :=
  let timer := s.timerMs Config.debounceMs
  s.modEnd e fun l => { l with debounce := if l.rawSense = l.sense then none else timer }

/-- A change of a raw level (R1, R184); while a reset is in force it is a level at the pin and no more. -/
def State.rawChange (s : State) (e : EndId) (level : Sense) : State :=
  if (s.lineEnd e).rawSense = level then s
  else
    let s := s.modEnd e fun l => { l with rawSense := level }
    s.live fun s => (s.startDebounce e).wakeBy (.sense e)

/-- The meaning of RAW_SENSE_CHANGE (R1). -/
def execRawSenseChange (e : EndId) (level : Sense) (s : State) : Host.Outcome State Fault Refusal :=
  .next (s.rawChange e level)

/-- The link state takes up the debounced sense (R1, R2). -/
def State.linkBySense (s : State) (e : EndId) : State :=
  match (s.lineEnd e).sense, (s.lineEnd e).link with
  | .opened, _ => s.enterOpen e
  | .closed, .opened => s.enterJoining e
  | .closed, _ => s

/-- SENSE_DEBOUNCE_EXPIRY (R1): in STABLED and WAKING the link state waits for ACTIVE. -/
def State.debounceExpiry (s : State) (e : EndId) : State :=
  s.expire (s.lineEnd e).debounce fun s =>
    let old := (s.lineEnd e).link
    let s := (s.modEnd e fun l => { l with sense := l.rawSense, debounce := none }).raise (.couplingChanged e)
    if s.asleep then s else (s.linkBySense e).reportEnd e old

/-- The meaning of SENSE_DEBOUNCE_EXPIRY (R1). -/
def execSenseDebounceExpiry (e : EndId) (s : State) : Host.Outcome State Fault Refusal :=
  .next (s.live fun s => s.debounceExpiry e)

/-! ## Copies -/

/-- Changing one pair of an End. -/
def State.modPairAt (s : State) (e : EndId) (p : Pair) (f : PairState → PairState) : State :=
  s.modEnd e (·.modPair p f)

/-- What a Line Receiver is doing. -/
def State.receiver (s : State) (e : EndId) (p : Pair) : Receiver := ((s.lineEnd e).pair p).receiver

/-- A Line Receiver takes a state. -/
def State.setReceiver (s : State) (e : EndId) (p : Pair) (r : Receiver) : State :=
  s.modPairAt e p fun x => { x with receiver := r }

/-- A bad copy is counted (R5). -/
def State.badCopy (s : State) (e : EndId) (p : Pair) : State := s.modPairAt e p PairState.bad

/-- The start of a copy (R5, R184): a copy in assembly ends as bad; in STABLED it is a wake cause, and in STABLED
and WAKING the copy is lost. -/
def State.copyStart (s : State) (e : EndId) (p : Pair) : State :=
  if s.asleep then (s.setReceiver e p .discarding).wakeBy (.line e p)
  else
    let s := if s.receiver e p = .assembling then s.badCopy e p else s
    s.setReceiver e p .assembling

/-- The meaning of COPY_START (R184). -/
def execCopyStart (e : EndId) (p : Pair) (s : State) : Host.Outcome State Fault Refusal :=
  .next (s.live fun s => s.copyStart e p)

/-- The line falls idle before the copy is complete (R5, R187). -/
def State.idleAbort (s : State) (e : EndId) (p : Pair) : State :=
  let s' := s.setReceiver e p .idle
  if s.receiver e p = .assembling ∧ s.asleep = false then s'.badCopy e p else s'

/-- The meaning of LINE_IDLE_ABORT (R187). -/
def execLineIdleAbort (e : EndId) (p : Pair) (s : State) : Host.Outcome State Fault Refusal :=
  .next (s.live fun s => s.idleAbort e p)

/-- A MSG at a node (R11). -/
def State.receiveMsgFrame (s : State) (e : EndId) (f : Frame) : State :=
  match s.active with
  | some a =>
    if num8 f.payload 6 = a.position then s.receiveMsg a f.payload
    else if f.isBroadcast then (s.receiveMsg a f.payload).passThrough e.other f
    else s.passThrough e.other f
  | none => s.passThrough e.other f

/-- A NOTE at a node (R11). -/
def State.receiveNoteFrame (s : State) (e : EndId) (f : Frame) : State :=
  match s.active with
  | some a => if num8 f.payload 6 = a.position then s.receiveNote a f.payload else s.passThrough e.other f
  | none => s.passThrough e.other f

/-- An accepted frame is handed on by its Kind (R9). A RETURN passes through every node that is not HEADING, unread (R9,
R73); at a node that has just left HEADING that ends it at the former head-ward End, which is not usable, where it is
dropped and counted (R10: the discarding of R49 and R67; DEDUCED, log 37). -/
def State.handOn (s : State) (e : EndId) (f : Frame) : State :=
  match f.kind with
  | .idle => s
  | .count => s.receiveCount e f.payload
  | .tally => s.receiveTally e f
  | .commit => s.receiveCommit e f
  | .call => s.receiveCall e f.payload
  | .ret => if s.heading then s.receiveReturn e f.payload else s.passThrough e.other f
  | .settle => s.receiveSettle e f
  | .order => s.receiveOrder e f
  | .wake => if s.heading then s.headWake f else s.passWake e.other f
  | .msg => s.receiveMsgFrame e f
  | .note => s.receiveNoteFrame e f

/-- An intact copy takes an End out of JOINING or DOWN and restarts the Link Idle Timer (R2, R3). -/
def State.hearCopy (s : State) (e : EndId) : State :=
  let timer := s.timerMs Config.linkIdleMs
  s.modEnd e fun l =>
    { l with linkIdle := timer
             link := match l.link with
               | .joining => .up
               | .down => if l.bothHealthy then .up else .degraded
               | .opened | .up | .degraded => l.link }

/-- The Twin Filter accepts the first copy of a frame, steps 1 to 4 of R6. -/
def State.acceptCopy (s : State) (e : EndId) (p : Pair) (sequence : Nat) : State :=
  let s := (s.closeWindow e).modEnd e fun l => { l with lastAccepted := sequence }
  let s := s.judgePair e p PairState.credit
  let window : TwinWindow := { awaited := p.other, deadline := s.now + Config.ms Config.twinWindowMs }
  s.modEnd e fun l => { l with twinWindow := some window }

/-- A twin: credited where a Twin Window is open for its pair, and discarded (R6, R7). -/
def State.twin (s : State) (e : EndId) (p : Pair) : State :=
  match (s.lineEnd e).twinWindow with
  | some w =>
    if w.awaited = p then
      (s.modEnd e fun l => { l with twinWindow := none }).judgePair e p PairState.credit
    else s
  | none => s

/-- An intact copy at an End that is not OPEN (R6). -/
def State.filterCopy (s : State) (e : EndId) (p : Pair) (c : IntactCopy) : State :=
  let old := (s.lineEnd e).link
  let s := s.hearCopy e
  if c.sequence = (s.lineEnd e).lastAccepted then (s.twin e p).reportEnd e old
  else ((s.acceptCopy e p c.sequence).reportEnd e old).handOn e c.frame

/-- A complete copy (R4, R5, R6). -/
def State.judgeCopy (s : State) (e : EndId) (p : Pair) (bytes : List Byte) : State :=
  match checkCopy bytes with
  | none => s.badCopy e p
  | some c =>
    if s.isOpen e then s.modEnd e fun l => { l with strayCount := satAdd l.strayCount 1 }
    else s.filterCopy e p c

/-- The last CRC byte of a copy arrives; a copy that was lost has no effect (R5, R23, R184; log 6). -/
def State.copyReceived (s : State) (e : EndId) (p : Pair) (bytes : List Byte) : State :=
  let lost := decide (s.receiver e p = .discarding) || s.asleep
  let s := s.setReceiver e p .idle
  if lost then s else s.judgeCopy e p bytes

/-- The meaning of COPY_RECEIVED (R6). -/
def execCopyReceived (e : EndId) (p : Pair) (bytes : List Byte) (s : State) :
    Host.Outcome State Fault Refusal :=
  .next (s.live fun s => s.copyReceived e p bytes)

/-- TWIN_WINDOW_EXPIRY (R7). -/
def State.twinExpiry (s : State) (e : EndId) : State :=
  s.expire ((s.lineEnd e).twinWindow.map (·.deadline)) fun s => s.closeWindow e

/-- The meaning of TWIN_WINDOW_EXPIRY (R7). -/
def execTwinWindowExpiry (e : EndId) (s : State) : Host.Outcome State Fault Refusal :=
  .next (s.live fun s => s.twinExpiry e)

/-- LINK_IDLE_EXPIRY (R2, R3). -/
def State.linkIdleExpiry (s : State) (e : EndId) : State :=
  s.expire (s.lineEnd e).linkIdle fun s =>
    let old := (s.lineEnd e).link
    match old with
    | .joining | .up | .degraded => (s.enterDown e).reportEnd e old
    | .opened | .down => s.modEnd e fun l => { l with linkIdle := none }

/-- The meaning of LINK_IDLE_EXPIRY (R3). -/
def execLinkIdleExpiry (e : EndId) (s : State) : Host.Outcome State Fault Refusal :=
  .next (s.live fun s => s.linkIdleExpiry e)

/-! ## The transmitter -/

/-- An IDLE. -/
def idleFrame : Frame := { kind := .idle, payload := [] }

/-- The Keepalive source places an IDLE unless one is in the slot (R19). -/
def SourceSlot.placeIdle (q : SourceSlot) : SourceSlot :=
  match q.slot with
  | none => { q with slot := some idleFrame }
  | some _ => q

/-- KEEPALIVE_EXPIRY (R19). -/
def State.keepaliveExpiry (s : State) (e : EndId) : State :=
  s.expire (s.lineEnd e).keepalive fun s =>
    s.modEnd e fun l => { (l.modSlot .keepalive SourceSlot.placeIdle) with keepalive := none }

/-- The meaning of KEEPALIVE_EXPIRY (R19). -/
def execKeepaliveExpiry (e : EndId) (s : State) : Host.Outcome State Fault Refusal :=
  .next (s.awake fun s => s.keepaliveExpiry e)

/-- The sources in arbiter order (R17). -/
def sourceOrder : List Source := [.inauguration, .cycle, .door, .wake, .keepalive]

/-- The first slot that holds a frame, in arbiter order (R17). -/
def Slots.first (t : Slots) : Option (Source × Frame) :=
  sourceOrder.findSome? fun x => (t.get x).slot.map fun f => (x, f)

/-- What the arbiter can take (R17). -/
inductive Chosen where
  | slot (x : Source) (f : Frame)
  | through (f : Frame) (rest : List Frame)
  | offer (f : Frame)
deriving DecidableEq, Repr

/-- The frame offered to an End, while it waits there (R16). -/
def State.offeredTo (s : State) (e : EndId) : Option Frame :=
  match s.msg.offer with
  | some o => if o.waitsAt e then some o.frame else none
  | none => none

/-- The arbiter's choice at an End (R17). -/
def State.chooseFrame (s : State) (e : EndId) : Option Chosen :=
  match (s.lineEnd e).slots.first, (s.lineEnd e).throughQueue with
  | some (x, f), _ => some (.slot x f)
  | none, f :: rest => some (.through f rest)
  | none, [] => (s.offeredTo e).map .offer

/-- The transmitter takes a frame: the transmit sequence advances and numbers it (R18). -/
def State.send (s : State) (e : EndId) (f : Frame) : State :=
  s.modEnd e fun l =>
    let sequence := nextWrap 255 l.txSequence
    { l with txSequence := sequence, sending := some (f.wire sequence) }

/-- The leaving of a head's own CALL or ORDER (R69, R104, R110; log 16); it is recorded at a HEADING node alone (DEDUCED,
log 38). -/
def State.ownLeaves (s : State) (e : EndId) (x : Source) (f : Frame) : State :=
  match s.active with
  | some a =>
    if s.heading = true ∧ e = a.tailward then
      if x = .cycle ∧ f.kind = .call ∧ ownCycleFrame a.identity f = true ∧ num16 f.payload 6 = s.cycle.number then
        s.callLeaves a
      else if x = .door ∧ f.kind = .order ∧ num32 f.payload 0 = a.identity.head then s.orderLeaves a f
      else s
    else s
  | none => s

/-- The arbiter's step at an End whose transmitter is free (R14, R16, R17, R18). -/
def State.arbiterTake (s : State) (e : EndId) : State :=
  if s.isOpen e ∨ (s.lineEnd e).sending.isSome then s
  else
    match s.chooseFrame e with
    | none => s
    | some (.slot x f) => ((s.modEnd e (·.modSlot x SourceSlot.advance)).send e f).ownLeaves e x f
    | some (.through f rest) => (s.modEnd e fun l => { l with throughQueue := rest }).send e f
    | some (.offer f) => (s.send e f).takeOffer e

/-- The meaning of ARBITER_TAKE (R17). -/
def execArbiterTake (e : EndId) (s : State) : Host.Outcome State Fault Refusal :=
  .next (s.awake fun s => s.arbiterTake e)

/-- The transmitter finishes a frame: it is free, and the keepalive timer restarts (R18, R19). -/
def State.transmitComplete (s : State) (e : EndId) : State :=
  let timer := s.timerMs Config.keepaliveMs
  match (s.lineEnd e).sending with
  | some _ => s.modEnd e fun l => { l with sending := none, keepalive := timer }
  | none => s

/-- The meaning of TRANSMIT_COMPLETE (R18). -/
def execTransmitComplete (e : EndId) (s : State) : Host.Outcome State Fault Refusal :=
  .next (s.awake fun s => s.transmitComplete e)

/-! ## End Reset -/

/-- The counts and sequences of an End at End Reset (R23). -/
def LineEnd.zeroCounts (l : LineEnd) : LineEnd :=
  { l with strayCount := 0, throughDrop := 0, lastAccepted := 0, txSequence := 0
           pairA := { l.pairA with frameErrors := 0 }, pairB := { l.pairB with frameErrors := 0 } }

/-- End Reset of an End (R23). -/
def State.endReset (s : State) (e : EndId) : State :=
  let old := (s.lineEnd e).link
  let s := (s.modEnd e fun l => l.clearLine.zeroCounts).healPairs e
  (match (s.lineEnd e).sense with
   | .closed => s.enterJoining e
   | .opened => s.enterOpen e).reportEnd e old

/-- The End an operand names: 1 or 2 (12.4). -/
def endOperand (n : Nat) : Option EndId := if n = 1 then some .end1 else if n = 2 then some .end2 else none

/-- End Reset of the End the operand names. -/
def State.endResetNamed (s : State) (p : PortId) : State :=
  match endOperand (s.operandNum p 1) with
  | some e => s.endReset e
  | none => s

/-- The meaning of END_RESET (R23); an operand that names no End is refused with RANGE (DESIGN CHOICE, log 40). -/
def execEndReset (p : PortId) (s : State) : Host.Outcome State Fault Refusal :=
  .next (s.plainCommand p none
    (fun s => firstReason [((endOperand (s.operandNum p 1)).isNone, .range)])
    fun s => s.endResetNamed p)

end Sys2Proof.Machine
end

