-- ==== Sys2Proof/Machine/Power.lean ====
section
/-! DEFINITION. Power Control and the Identity Loader: resets, loading, stabling, waking, the lock (11). -/

namespace Sys2Proof.Machine

/-! ## Power-on reset and the reset pin -/

/-- What an End keeps through a reset: the level at its sense pin, and that a copy being assembled is lost
(R22; log 6). -/
def LineEnd.hardReset (l : LineEnd) : LineEnd :=
  { LineEnd.reset with
    rawSense := l.rawSense
    pairA := { PairState.reset with receiver := l.pairA.lose.receiver }
    pairB := { PairState.reset with receiver := l.pairB.lose.receiver } }

/-- Every block takes its power-on reset values (R186); the clock, the levels at the sense pins and the waiting
commands are outside the node's blocks. -/
def State.hardReset (s : State) : State :=
  { State.reset with
    now := s.now, moments := s.moments, freeCount := s.freeCount
    end1 := s.end1.hardReset, end2 := s.end2.hardReset, pending := s.pending }

/-- The meaning of POWER_ON_RESET (R186). -/
def execPowerOnReset (s : State) : Host.Outcome State Fault Refusal := .next s.hardReset

/-- The meaning of RESET_PIN (R186). -/
def execResetPin (s : State) : Host.Outcome State Fault Refusal := .next s.hardReset

/-! ## Loading -/

/-- The roles the straps give (R170). -/
def strapRoles (role1 role0 : Bool) : PortRole × PortRole :=
  match role1, role0 with
  | false, false => (.door, .comfort)
  | false, true => (.comfort, .door)
  | true, false => (.door, .messages)
  | true, true => (.comfort, .messages)

/-- LOADING ends with an outcome, and with the record read where there is one: the node enters ACTIVE, Load
Complete is raised, and the Stage Drive takes the record (R137, R179). -/
def State.finishLoading (s : State) (o : LoadOutcome) (r : IdentityRecord) (locked : Bool) : State :=
  ((s.modPower fun p =>
    { p with state := .active, readTimer := none, loadOutcome := some o, record := r, locked := locked }).raise
      .loadComplete).identityToStages

/-- LOADING ends without an identity (R179). -/
def State.loadingFails (s : State) (o : LoadOutcome) : State := s.finishLoading o .blank false

/-- The reset ends: straps read, LOADING entered, the sense debounce begun, the identity read started or LOADING
ended at once (R1, R170, R179). -/
def State.resetEnd (s : State) (role1 role0 idsrc : Bool) : State :=
  if s.power.held then
    let roles := strapRoles role1 role0
    let timer := if idsrc then s.timerMs Config.identityReadMs else none
    let s := s.modPower fun p =>
      { p with held := false, state := .loading, sourceFitted := idsrc, loadOutcome := none, readTimer := timer }
    let s := (s.modPort .portA fun t => { t with role := roles.1 }).modPort .portB fun t => { t with role := roles.2 }
    let s := (s.startDebounce .end1).startDebounce .end2
    if idsrc then s else s.loadingFails .notFitted
  else s

/-- The meaning of RESET_END (R179). -/
def execResetEnd (role1 role0 idsrc : Bool) (s : State) : Host.Outcome State Fault Refusal :=
  .next (s.resetEnd role1 role0 idsrc)

/-- The identity read ends, with the bytes read or without an answer (R179, R188). -/
def State.loadComplete (s : State) (read : Option (List Byte)) : State :=
  if s.loading = true ∧ s.power.readTimer.isSome then
    match read with
    | none => s.loadingFails .noAnswer
    | some bytes =>
      match judgeIdentity bytes with
      | .loaded => s.finishLoading .loaded (IdentityRecord.ofBytes bytes) true
      | o => s.loadingFails o
  else s

/-- The meaning of LOAD_COMPLETE (R179). -/
def execLoadComplete (read : Option (List Byte)) (s : State) : Host.Outcome State Fault Refusal :=
  .next (s.live fun s => s.loadComplete read)

/-- IDENTITY_READ_TIMEOUT (R179). -/
def State.readTimeout (s : State) : State := s.expire s.power.readTimer fun s => s.loadingFails .noAnswer

/-- The meaning of IDENTITY_READ_TIMEOUT (R179). -/
def execIdentityReadTimeout (s : State) : Host.Outcome State Fault Refusal :=
  .next (s.live fun s => s.readTimeout)

/-! ## Stabling and waking -/

/-- No heating stage is ON (R183). -/
def State.heatingOff (s : State) : Bool := decide (s.onCount = 0)

/-- Stable is admitted: UNASSIGNED, both sides WITHDRAWN, no stage ON; the power state is ACTIVE wherever a command
is judged outside LOADING (R183). -/
def stableCheck (s : State) : Option Reason :=
  firstReason [(!(decide (s.power.state = .active) && decide (s.inaug.role = .unassigned)
    && decide (s.sideState .side1 = .withdrawn) && decide (s.sideState .side2 = .withdrawn)
    && s.heatingOff), .state)]

/-- An End on entry to STABLED (R24). -/
def State.endStable (s : State) (e : EndId) : State :=
  (s.modEnd e fun l =>
    { l.clearLine with link := if l.sense = .closed then .joining else .opened
                       lastAccepted := 0, linkIdle := none, keepalive := none }).healPairs e

/-- A Stage Timer latch is released (R144). -/
def State.releaseLatches (s : State) : State :=
  (s.modPort .portA fun t => { t with latch := none }).modPort .portB fun t => { t with latch := none }

/-- Entry to STABLED (R183). -/
def State.enterStabled (s : State) : State :=
  ((((s.endStable .end1).endStable .end2).stageStable).releaseLatches).modPower fun p =>
    { p with state := .stabled, wakeCause := .none }

/-- The meaning of STABLE (R183). -/
def execStable (p : PortId) (s : State) : Host.Outcome State Fault Refusal :=
  .next (s.plainCommand p none stableCheck fun s => s.enterStabled)

/-- A Wake written at a port: taken in STABLED, refused with STATE in every other power state (R184). -/
def State.wakeWritten (s : State) (p : PortId) : State :=
  if (s.port p).takesWrite opcodeAddress then
    let s := s.wrote p opcodeAddress
    if s.power.state = .stabled then (s.wakeBy (.port p)).answer p .done none 0
    else s.answer p .refused (some .state) 0
  else s

/-- The meaning of WAKE_COMMAND (R184). -/
def execWakeCommand (p : PortId) (s : State) : Host.Outcome State Fault Refusal :=
  .next (s.live fun s => s.wakeWritten p)

/-- An End when the node becomes ACTIVE (R24). -/
def State.endActive (s : State) (e : EndId) : State :=
  match (s.lineEnd e).sense with
  | .closed => s.enterJoining e
  | .opened => s.enterOpen e

/-- WAKE_SETTLE_EXPIRY: the node enters ACTIVE (R185). -/
def State.wakeSettled (s : State) : State :=
  s.expire s.power.wakeSettle fun s =>
    let s := s.modPower fun p => { p with state := .active, wakeSettle := none }
    (((s.endActive .end1).endActive .end2).recomputeTarget false).raise .transitionComplete

/-- The meaning of WAKE_SETTLE_EXPIRY (R185). -/
def execWakeSettleExpiry (s : State) : Host.Outcome State Fault Refusal := .next (s.live fun s => s.wakeSettled)

/-! ## The lock -/

/-- Lock Identity: a change of Ready is a change of a record source (R178, R182). -/
def State.lockIdentity (s : State) : State := (s.modPower fun p => { p with locked := true }).sourceChanged

/-- The meaning of LOCK_IDENTITY (R182). -/
def execLockIdentity (p : PortId) (s : State) : Host.Outcome State Fault Refusal :=
  .next (s.plainCommand p none (fun s => firstReason [(s.power.locked, .locked)]) fun s => s.lockIdentity)

/-! ## Node Reset -/

/-- A port at Node Reset: its straps stay, and a transaction in progress goes on (R172, R177, R186; log 19). -/
def Port.nodeReset (p : Port) : Port :=
  { Port.reset p.role with transaction := p.transaction, shiftOut := p.shiftOut }

/-- Every block but the Ends, the identity and the power state takes its Node Reset values (R186). -/
def State.resetBlocks (s : State) : State :=
  { s with
    inaug := .reset, cycle := .reset, door := .reset, track := .reset, grants := .reset, msg := .reset
    portA := s.portA.nodeReset, portB := s.portB.nodeReset }

/-- Node Reset; a node that was COUNTED or MEMBER shows the cause and raises Consist Invalidated after the flags
were cleared (R66, R145, R177, R186). -/
def State.nodeReset (s : State) : State :=
  let wasCounted := decide (s.inaug.role ≠ .unassigned)
  let s := s.resetBlocks.stageNodeReset
  if wasCounted then
    (s.modInaug fun i => { i with lastCause := some .nodeReset }).raise .consistInvalidated
  else s

/-- The meaning of NODE_RESET (R186). -/
def execNodeReset (p : PortId) (s : State) : Host.Outcome State Fault Refusal :=
  .next (s.plainCommand p none (fun _ => none) fun s => s.nodeReset)

end Sys2Proof.Machine
end

