-- ==== Sys2Proof/Machine/Window.lean ====
section
/-! DEFINITION. The register window: the bytes of the fixed part and of the twelve areas as they stand (12.4). An
enumerated item that 12 does not code is coded by its place (12; log 22). -/

namespace Sys2Proof.Machine

/-! ## Codes -/

/-- Link state codes, in the order of 1.2. -/
def LinkState.code : LinkState → Byte
  | .opened => 0 | .joining => 1 | .up => 2 | .degraded => 3 | .down => 4

/-- Pair health codes (R8). -/
def Health.code : Health → Byte
  | .healthy => 0 | .degraded => 1

/-- The code of an End where none is 0 (R60). -/
def endCode : EndId → Byte
  | .end1 => 1 | .end2 => 2

/-- Node role codes (2.1). -/
def NodeRole.code : NodeRole → Byte
  | .unassigned => 0 | .counted _ => 1 | .member _ => 2

/-- Head role codes (2.1). -/
def HeadRole.code : HeadRole → Byte
  | .noClaim => 0 | .claiming => 1 | .heading => 2 | .claimFailed _ => 3

/-- Codes of the reason held in CLAIM_FAILED; 0 is none (2.1). -/
def HeadRole.reason : HeadRole → Byte
  | .claimFailed .contest => 1 | .claimFailed .timeout => 2 | .claimFailed .notAtEnd => 3
  | .claimFailed .tooLong => 4 | .claimFailed .displaced => 5
  | .noClaim | .claiming | .heading => 0

/-- Orientation codes; 0 is none (R60). -/
def Orientation.code : Orientation → Byte
  | .normal => 1 | .reversed => 2

/-- Tally Stage codes; 0 is none (R60). -/
def TallyStage.code : TallyStage → Byte
  | .awaitingHop => 1 | .awaitingTally => 2 | .tallySent => 3

/-- Last Invalidation Cause codes, in the order of the table of 3.7; 0 is NONE. -/
def LeaveCause.code : LeaveCause → Byte
  | .countReception => 1 | .dissolve => 2 | .commitRejected => 3 | .headWardLoss => 4 | .silenceExpiry => 5
  | .identityChange => 6 | .commitWaitExpiry => 7 | .contest => 8 | .claimEnded => 9 | .nodeReset => 10

/-- Cycle state codes (4.10). -/
def CycleState.code : CycleState → Byte
  | .none => 0 | .idleContinuous => 1 | .idleQuiet => 2 | .callOut => 3

/-- Last Failure codes; 0 is NONE (4.10). -/
def CycleFailure.code : CycleFailure → Byte
  | .timeout => 1 | .unplaced => 2 | .short => 3 | .count => 4

/-- Last Call Role codes (4.10). -/
def CallRole.code : CallRole → Byte
  | .none => 0 | .forwarded => 1 | .tail => 2 | .short => 3 | .unplacedForwarded => 4 | .unplacedShort => 5

/-- Side state codes (5.1). -/
def SideState.code : SideState → Byte
  | .withdrawn => 0 | .released => 1 | .closing => 2

/-- Stage state codes (8.3). -/
def StageState.code : StageState → Byte
  | .off => 0 | .waitingOn => 1 | .on => 2 | .resting => 3

/-- Buffer state codes (9.1). -/
def BufferState.code : BufferState → Byte
  | .free => 0 | .held _ => 1 | .outbound _ => 2 | .inFlight _ => 3 | .inbound _ => 4 | .receiving _ => 5

/-- Owner port codes: 0 none, 1 Port A, 2 Port B (12.4). -/
def ownerCode : Option PortId → Byte
  | none => 0 | some .portA => 1 | some .portB => 2

/-- Result codes (12.4). -/
def CommandResult.code : CommandResult → Byte
  | .none => 0 | .done => 1 | .refused => 2

/-- Reason codes; 0 is none (12.4). -/
def reasonCode : Option Reason → Byte
  | none => 0
  | some .wrongRole => 1 | some .notHead => 2 | some .noConsist => 3 | some .state => 4 | some .range => 5
  | some .locked => 6 | some .empty => 7 | some .quota => 8 | some .notHeld => 9 | some .notReady => 10

/-- Power state codes (11). -/
def PowerState.code : PowerState → Byte
  | .loading => 0 | .active => 1 | .stabled => 2 | .waking => 3

/-- Load outcome codes; 0 while LOADING (12). -/
def loadCode : Option LoadOutcome → Byte
  | none => 0
  | some .loaded => 1 | some .badCheck => 2 | some .badField => 3 | some .noAnswer => 4 | some .notFitted => 5

/-- The wake cause byte: bits 7:4 kind, bits 1:0 End or port, bit 2 pair B (12.4; log 22). -/
def WakeCause.byte : WakeCause → Byte
  | .none => 0x00
  | .line e p => 0x10 ||| endCode e ||| flagBit (decide (p = .pairB)) 2
  | .sense e => 0x20 ||| endCode e
  | .port p => 0x30 ||| ownerCode (some p)

/-- Last Identity Write codes (11). -/
def IdentityWrite.code : IdentityWrite → Byte
  | .none => 0 | .done => 1 | .range => 2 | .locked => 3 | .state => 4

/-! ## The fixed part -/

/-- Port Roles (12.4). -/
def State.portRoles (s : State) : Byte := s.portA.role.code ||| (s.portB.role.code <<< 2)

/-- The Power area, five bytes (12.4). -/
def State.powerArea (s : State) : List Byte :=
  [s.power.state.code, flagBit s.power.sourceFitted 7 ||| loadCode s.power.loadOutcome
  , flagBit s.power.locked 0 ||| flagBit s.ready 1, s.power.wakeCause.byte, s.power.lastIdentityWrite.code]

/-- A byte of the fixed part while the window reads (12.4); an address without an item reads 0xFF (R168). -/
def State.fixedByte (s : State) (p : PortId) (address : Nat) : Byte :=
  let t := s.port p
  if address = 0x00 then s.portRoles
  else if address = 0x01 then byteOf t.areaSelect
  else if 0x08 ≤ address ∧ address ≤ 0x0D then s.operand p (address - 0x07)
  else if address = opcodeAddress then Config.opcodeReadback
  else if address = 0x10 then t.result.code
  else if address = 0x11 then reasonCode t.reason
  else if address = 0x12 then byteOf t.resultData
  else if address = 0x13 then byteOf t.commandCount
  else if 0x20 ≤ address ∧ address ≤ 0x26 then
    (allGroups[address - 0x20]?.map (s.flagByte p)).getD 0xFF
  else if 0x28 ≤ address ∧ address ≤ 0x2E then
    (allGroups[address - 0x28]?.map t.causeEnables.get).getD 0xFF
  else if address = 0x2F then t.groupEnables
  else if address = 0x30 then s.summaries p
  else if 0x38 ≤ address ∧ address ≤ 0x3C then s.powerArea.getD (address - 0x38) 0xFF
  else 0xFF

/-! ## The areas -/

/-- The three bytes of a pair in the End Status (12.4). -/
def PairState.bytes (x : PairState) : List Byte := [x.health.code, byteOf x.miss, byteOf x.recovery]

/-- Slot occupancy, bits 0 to 4 in arbiter order (12.4). -/
def Slots.occupancy (t : Slots) : Byte :=
  flagBit t.inauguration.slot.isSome 0 ||| flagBit t.cycle.slot.isSome 1 ||| flagBit t.door.slot.isSome 2
    ||| flagBit t.wake.slot.isSome 3 ||| flagBit t.keepalive.slot.isSome 4

/-- The fifteen bytes of an End (12.4; log 11). -/
def LineEnd.bytes (l : LineEnd) : List Byte :=
  (flagBit (decide (l.sense = .closed)) 7 ||| l.link.code) :: (l.pairA.bytes ++ l.pairB.bytes)
    ++ [byteOf l.pairA.frameErrors, byteOf l.pairB.frameErrors, byteOf l.strayCount, byteOf l.throughDrop
      , byteOf l.lastAccepted, byteOf l.txSequence, byteOf l.throughQueue.length, l.slots.occupancy]

/-- End Status (12.4). -/
def State.endStatus (s : State) : List Byte := s.end1.bytes ++ s.end2.bytes

/-- Claim Status (12.4). -/
def State.claimStatus (s : State) : List Byte :=
  [s.inaug.headRole.code, s.inaug.headRole.reason, byteOf s.inaug.attempt, flagBit s.inaug.truncated 0]
    ++ be16 s.inaug.generation

/-- The Active consist's bytes of the Consist Status; all 0 when the node is not MEMBER (R52, R60, 12.4). -/
def State.activeBytes (s : State) : List Byte :=
  match s.active with
  | some a =>
    a.identity.bytes ++ [byteOf a.length, byteOf a.position, a.orientation.code ||| (endCode a.headward <<< 2)]
      ++ be16 a.lineSilence
  | none => List.replicate 11 0

/-- The count record's bytes of the Consist Status; all 0 when the node is not COUNTED (R60, 12.4). -/
def State.countBytes (s : State) : List Byte :=
  match s.counted with
  | some r =>
    be32 r.head ++ [byteOf r.attempt, byteOf r.position, endCode r.headward ||| (r.stage.code <<< 2)
      , byteOf (r.noted.getD 0)]
  | none => List.replicate 8 0

/-- The Consist Window of a port (R59). -/
def State.consistWindow (s : State) (p : PortId) : List Byte :=
  match s.active with
  | some a =>
    match a.entries[(s.port p).selectedPosition - 1]? with
    | some r => if (s.port p).selectedPosition ≤ a.length then r.bytes else List.replicate 10 0xFF
    | none => List.replicate 10 0xFF
  | none => List.replicate 10 0xFF

/-- Consist Status followed by the Consist Window (R59, R60, 12.4). -/
def State.consistArea (s : State) (p : PortId) : List Byte :=
  (flagBit s.valid 0 ||| flagBit s.updateInProgress 1 ||| (s.inaug.role.code <<< 2)) :: s.activeBytes
    ++ s.countBytes ++ [(s.inaug.lastCause.map LeaveCause.code).getD 0] ++ s.consistWindow p

/-- The Last Settle's bytes; all 0 while it is clear (R79, 12.4). -/
def State.settleBytes (s : State) : List Byte :=
  match s.cycle.lastSettle with
  | some l => be16 l.cycleNumber ++ [l.nextMode, l.proof, byteOf l.grant]
  | none => List.replicate 5 0

/-- Cycle Status (12.4). -/
def State.cycleStatus (s : State) : List Byte :=
  let c := s.cycle
  c.state.code :: be16 c.number
    ++ [c.nextMode.code, byteOf c.failures, (c.lastFailure.map CycleFailure.code).getD 0
      , flagBit c.callRequested 0 ||| flagBit c.statusRaised 1, c.lastCallRole.code] ++ s.settleBytes

/-- Line Timing, as the operands of Set Line Timing (12.4). -/
def LineTiming.bytes (t : LineTiming) : List Byte :=
  [byteOf (t.cyclePeriod / 10), byteOf (t.quietRefresh / 50), byteOf (t.lineSilence / 50)
  , byteOf (t.inaugurationTimeout / 50), flagBit t.continuousOnly 0]

/-- Door Status (12.4). -/
def State.doorStatus (s : State) : List Byte :=
  let d := s.door
  [d.side1.state.code ||| (d.side2.state.code <<< 2)
  , flagBit (s.releaseOut .side1) 0 ||| flagBit (s.releaseOut .side2) 1 ||| flagBit (s.closeOut .side1) 2
      ||| flagBit (s.closeOut .side2) 3
  , flagBit d.side1.overdue 0 ||| flagBit d.side2.overdue 1 ||| flagBit (!d.attended) 2
  , d.flags &&& 0xF0, byteOf d.lastOrderId, d.lastOutcome.code
  , flagBit d.headStandstill 0 ||| flagBit d.trainDoorsOpen 1, byteOf d.orderCounter]

/-- The record's eight bytes and outcomes in the Order Status; an empty record shows 0 (R109, 12.4). -/
def Tracking.recordBytes (t : Tracking) : List Byte × List Byte :=
  match t.outstanding with
  | some r =>
    ([byteOf r.id, r.action.code, r.side.code, byteOf r.first, byteOf r.last, byteOf r.repeatsLeft
     , flagBit r.firstSent.isSome 0 ||| flagBit r.complete 1, byteOf r.outcomes.length]
    , (r.outcomes.map Outcome.code ++ List.replicate 32 0).take 32)
  | none => (List.replicate 8 0, List.replicate 32 0)

/-- Order Status (R109, 12.4). -/
def State.orderStatus (s : State) : List Byte :=
  s.track.recordBytes.1 ++ flagBit s.track.proved 0 :: (be16 (s.leftMs s.track.lifetime)
    ++ be16 s.track.lastProved ++ s.track.recordBytes.2)

/-- A 16-bit number in two's complement, most significant byte first (12.4). -/
def signed16 (n : Int) : List Byte := be16 (n % 65536).toNat

/-- The four bytes of a Grant Table entry (R134, 12.4). -/
def GrantEntry.bytes (g : GrantEntry) : List Byte :=
  [byteOf g.byte, byteOf g.lastDemand, byteOf g.lastApplied
  , byteOf (g.effectiveClass % 4) ||| flagBit g.seeded 4 ||| flagBit g.withheld 5]

/-- Grant Status (R134, 12.4). -/
def State.grantStatus (s : State) : List Byte :=
  let g := s.grants
  be16 g.budget ++ [flagBit g.inUse 0, byteOf g.table.length] ++ be16 (grantSum g.table) ++ signed16 g.room
    ++ [byteOf (withheldCount g.table), byteOf (g.takenGrant.getD 255)]
    ++ (g.table.flatMap GrantEntry.bytes ++ List.replicate 128 0xFF).take 128

/-- Heating stage output HS1 to HS4, numbered from 1 (R140). -/
def State.stageOut (s : State) (stage : Nat) : Bool := decide ((s.stage.stageAt (stage - 1)).state = .on)

/-- The high byte of a Stage Timer Remaining as a port reads it (R144). -/
def State.stageHigh (s : State) (p : PortId) (stage : Nat) : Byte :=
  match (s.port p).latch with
  | some l => if l.stage = stage then l.high else byteOf (s.stageLeft stage / 256)
  | none => byteOf (s.stageLeft stage / 256)

/-- The four bytes of a stage in the Stage Status, low byte of the time first (R144, 12.4). -/
def State.stageBytes (s : State) (p : PortId) (stage : Nat) : List Byte :=
  [(s.stage.stageAt (stage - 1)).state.code, byteOf (s.power.record.powers.toList.getD (stage - 1) 0)
  , byteOf (s.stageLeft stage), s.stageHigh p stage]

/-- Stage Status (R144, 12.4). -/
def State.stageStatus (s : State) (p : PortId) : List Byte :=
  [byteOf s.stage.ceiling, flagBit s.stage.fallback 0, byteOf s.stage.demand, byteOf s.stage.target
  , byteOf (stageLevel s.power.record.powers.toList s.stage.target), byteOf s.onCount, byteOf s.appliedPower]
    ++ [1, 2, 3, 4].flatMap (s.stageBytes p)

/-- The five bytes of a port in the Message Status (12.4). -/
def State.queueBytes (s : State) (p : PortId) : List Byte :=
  let q := s.queues p
  [byteOf q.quota, byteOf (s.portCount p), byteOf q.outbound.length, byteOf q.inbound.length
  , byteOf ((s.port p).selectedBuffer.getD 255)]

/-- The five bytes of an In-Flight entry (12.4). -/
def State.inFlightBytes (s : State) (e : InFlight) : List Byte :=
  [byteOf e.sequence, byteOf e.buffer, byteOf e.destination] ++ be16 (s.leftMs e.deadline)

/-- The four places of the In-Flight Table, entries in the order of their stamping (12.4; log 12). -/
def State.inFlightTable (s : State) : List Byte :=
  (s.msg.inFlight.flatMap s.inFlightBytes ++ (List.replicate 4 [0, 0xFF, 0, 0, 0]).flatten).take 20

/-- The seven bytes of a buffer in the Message Status (12.4). -/
def Buffer.statusBytes (b : Buffer) : List Byte :=
  (b.state.code ||| (ownerCode b.state.owner <<< 4))
    :: (b.postIdentity.map Identity.bytes).getD (List.replicate 6 0)

/-- Message Status (R165, 12.4). -/
def State.messageStatus (s : State) : List Byte :=
  byteOf s.freeBuffers :: s.queueBytes .portA ++ s.queueBytes .portB
    ++ [if s.msg.pointer = .portA then 0 else 1, byteOf s.msg.sequence, byteOf s.msg.noteQueue.length]
    ++ s.inFlightTable ++ s.msg.buffers.flatMap Buffer.statusBytes

/-- The record the Identity Record area shows: Blank while LOADING (R180, R188). -/
def State.identityArea (s : State) : List Byte :=
  (if s.loading then IdentityRecord.blank else s.power.record).area

/-- The bytes of an area as they stand; a code that names no area has none (R169, 12.4). -/
def State.areaBytes (s : State) (p : PortId) (code : Nat) : List Byte :=
  if code = 1 then s.endStatus else if code = 2 then s.claimStatus else if code = 3 then s.consistArea p
  else if code = 4 then s.cycleStatus else if code = 5 then s.cycle.timing.bytes
  else if code = 6 then s.doorStatus else if code = 7 then s.orderStatus else if code = 8 then s.grantStatus
  else if code = 9 then s.stageStatus p else if code = 10 then s.messageStatus
  else if code = 11 then s.messageWindow p else if code = 12 then s.identityArea else []

/-- The areas that are captured (table of R169). -/
def captured (code : Nat) : Bool := decide (1 ≤ code ∧ code ≤ 12) && code != 9 && code != 11

/-- The bytes a port's area part shows: the capture where one is held (R169). -/
def State.areaPart (s : State) (p : PortId) : List Byte :=
  match (s.port p).transaction.bind (·.capture) with
  | some c => c
  | none => s.areaBytes p (s.port p).area

/-- The data output SOA or SOB of a port: the byte last shifted out; not driven while chip select is high, with no
transaction open (R167). -/
def State.dataOut (s : State) (p : PortId) : Option Byte := (s.port p).transaction.map fun _ => (s.port p).shiftOut

/-- A byte of a port's register window (R168, R169, R184): the view a read shifts out. -/
def State.windowByte (s : State) (p : PortId) (address : Nat) : Byte :=
  if s.asleep then
    if 0x38 ≤ address ∧ address ≤ 0x3C then s.fixedByte p address else 0xFF
  else if address < areaBase then s.fixedByte p address
  else (s.areaPart p).getD (address - areaBase) 0xFF

end Sys2Proof.Machine
end

