-- ==== Sys2Proof/WellFormed.lean ====
section
/-! DEFINITION. The operands a command can carry at the hardware's own pins. The meanings are total: a command
outside these bounds acts as its meaning says, and mostly on nothing. -/

namespace Sys2Proof

/-- Offsets of the Identity Record area whose write completes a field (R181, R188). -/
def identityFieldEnds : List Nat := [4, 5, 6, 7, 8, 9, 10, 11, 12, 13, 14, 15, 17]

/-- A complete copy holds its four header bytes, the payload its length field states, and two CRC bytes
(R187). -/
def copyWellFormed (bytes : List Byte) : Bool :=
  match bytes with
  | _ :: _ :: hi :: lo :: rest => rest.length == hi.toNat * 256 + lo.toNat + 2
  | _ => false

/-- Well-formedness of a command, one check per operand that has bounds. -/
def Instr.wf : Instr → Bool
  | .loadComplete (some bytes) => bytes.length == 25
  | .copyReceived _ _ bytes => copyWellFormed bytes
  | .stageTimerExpiry k | .stageTimerLowRead _ k | .stageTimerHighRead _ k => decide (1 ≤ k ∧ k ≤ 4)
  | .storingEnd b => decide (b < Config.bufferCount)
  | .deadlineExpiry n => decide (1 ≤ n ∧ n ≤ 255)
  | .identityFieldWrite _ o _ => identityFieldEnds.contains o
  | .powerOnReset | .resetPin | .resetEnd _ _ _ | .loadComplete none | .identityReadTimeout
  | .rawSenseChange _ _ | .senseDebounceExpiry _ | .copyStart _ _ | .lineIdleAbort _ _
  | .twinWindowExpiry _ | .linkIdleExpiry _ | .keepaliveExpiry _ | .arbiterTake _ | .transmitComplete _
  | .callOriginate | .hopTimerExpiry | .inaugurationTimerExpiry | .commitWaitExpiry | .silenceExpiry
  | .cycleTimeoutExpiry | .periodTimerExpiry | .refreshTimerExpiry | .closeTimerExpiry _
  | .attendanceTimerExpiry | .proofLifetimeExpiry | .transmitServerStep | .wakeSettleExpiry
  | .transactionStart _ _ | .transactionEnd _ | .areaCapture _ | .flagClear _ _ _ | .enableWrite _ _ _
  | .countClearWrite _ _ _ | .registerWrite _ _ _ | .claimCab _ | .releaseCab _ | .setStandstill _
  | .issueOrder _ | .writeDoorStatus _ | .localClose _ | .setLineTiming _ | .setDemand _
  | .setSupplyBudget _ | .selectPosition _ | .take _ | .selectBuffer _ | .post _ | .fetch _
  | .returnBuffer _ | .setQuotas _ | .nodeReset _ | .endReset _ | .stable _ | .wakeCommand _
  | .lockIdentity _ => true

end Sys2Proof
end

