-- ==== Sys2Proof/Machine/Ports.lean ====
section
/-! DEFINITION. Transactions, captures, and the writes of a register window (10.1, 10.4, R181). -/

namespace Sys2Proof.Machine

/-! ## Transactions -/

/-- The direction and start address of a command byte: bit 7 is 1 for read (12.4). -/
def commandByte (b : Byte) : Direction × Nat := (if hasBit b 7 then .read else .write, b.toNat % 128)

/-- The transaction a command byte begins; without a complete one nothing is read or written (R167). -/
def Port.begin (t : Port) (command : Option Byte) : Transaction :=
  let start := match command with
    | some b => commandByte b
    | none => (.nothing, 0)
  { direction := start.1, counter := start.2, area := t.areaSelect, capture := none, heldBytes := [] }

/-- Chip select falls: the summary byte is shifted out and a transaction begins (R167, R169). -/
def State.transactionStart (s : State) (p : PortId) (command : Option Byte) : State :=
  match (s.port p).transaction with
  | some _ => s
  | none =>
    let summary := s.summaryByte p
    s.modPort p fun t => { t with transaction := some (t.begin command), shiftOut := summary }

/-- The meaning of TRANSACTION_START (R167). -/
def execTransactionStart (p : PortId) (command : Option Byte) (s : State) : Host.Outcome State Fault Refusal :=
  .next (s.live fun s => s.transactionStart p command)

/-- Chip select rises: captures and held identity bytes are discarded (R169, R181). -/
def State.transactionEnd (s : State) (p : PortId) : State := s.modPort p fun t => { t with transaction := none }

/-- The meaning of TRANSACTION_END (R169). -/
def execTransactionEnd (p : PortId) (s : State) : Host.Outcome State Fault Refusal :=
  .next (s.live fun s => s.transactionEnd p)

/-- The first byte of a captured area is read: the whole area is copied, and the byte comes from the copy. While the
node is STABLED or WAKING the area reads 0xFF in every byte (R59, R169, R184; log 27). -/
def State.areaCapture (s : State) (p : PortId) : State :=
  match (s.port p).transaction with
  | some t =>
    let bytes := s.areaBytes p t.area
    let offset := max t.counter areaBase - areaBase
    if t.direction = .read ∧ t.capture = none ∧ captured t.area = true ∧ offset < bytes.length then
      let copy := if s.asleep then List.replicate bytes.length 0xFF else bytes
      (s.modPort p fun x => { x with transaction := some { t with capture := some copy } }).readOut p
        (areaBase + offset) (copy.getD offset 0xFF)
    else s
  | none => s

/-- The meaning of AREA_CAPTURE (R169). -/
def execAreaCapture (p : PortId) (s : State) : Host.Outcome State Fault Refusal :=
  .next (s.live fun s => s.areaCapture p)

/-! ## Flags, enables and counts -/

/-- The place of a group among the groups (12.4). -/
def groupIndex : Group → Nat
  | .link => 0 | .consist => 1 | .cycle => 2 | .door => 3 | .heat => 4 | .message => 5 | .power => 6

/-- A write to a flag byte (R174). -/
def State.flagClear (s : State) (p : PortId) (g : Group) (v : Byte) : State :=
  s.write p (0x20 + groupIndex g) fun s => s.modPort p fun t => t.clearFlags g v

/-- The meaning of FLAG_CLEAR (R174). -/
def execFlagClear (p : PortId) (g : Group) (v : Byte) (s : State) : Host.Outcome State Fault Refusal :=
  .next (s.flagClear p g v)

/-- The address of an enable byte (12.4). -/
def enableAddress : EnableTarget → Nat
  | .causes g => 0x28 + groupIndex g
  | .groups => 0x2F

/-- A write to an enable byte (R175). -/
def State.enableWrite (s : State) (p : PortId) (t : EnableTarget) (v : Byte) : State :=
  s.write p (enableAddress t) fun s => s.modPort p fun x => x.writeEnable t v

/-- The meaning of ENABLE_WRITE (R175). -/
def execEnableWrite (p : PortId) (t : EnableTarget) (v : Byte) (s : State) : Host.Outcome State Fault Refusal :=
  .next (s.enableWrite p t v)

/-- A count of an End is cleared to 0 (R4, R5, R15). -/
def LineEnd.clearCount (l : LineEnd) (c : EndCount) : LineEnd :=
  match c with
  | .frameErrorA => { l with pairA := { l.pairA with frameErrors := 0 } }
  | .frameErrorB => { l with pairB := { l.pairB with frameErrors := 0 } }
  | .stray => { l with strayCount := 0 }
  | .throughDrop => { l with throughDrop := 0 }

/-- The offset of a count in the End Status (12.4). -/
def countOffset (e : EndId) (c : EndCount) : Nat :=
  (match e with | .end1 => 0 | .end2 => 15)
    + match c with | .frameErrorA => 7 | .frameErrorB => 8 | .stray => 9 | .throughDrop => 10

/-- A write to a count of the End Status (R168). -/
def State.countClear (s : State) (p : PortId) (e : EndId) (c : EndCount) : State :=
  s.writeArea p 1 (countOffset e c) fun s => s.modEnd e fun l => l.clearCount c

/-- The meaning of COUNT_CLEAR_WRITE (R168). -/
def execCountClearWrite (p : PortId) (e : EndId) (c : EndCount) (s : State) :
    Host.Outcome State Fault Refusal :=
  .next (s.countClear p e c)

/-! ## Identity fields -/

/-- The number of bytes of the field whose last byte stands at an offset (12.3). -/
def fieldSize (offset : Nat) : Nat := if offset = 4 then 4 else if offset = 17 then 2 else 1

/-- The record with the field whose last byte stands at an offset taking a value (12.3). -/
def IdentityRecord.setField (r : IdentityRecord) (offset n : Nat) : IdentityRecord :=
  if offset = 4 then { r with vehicle := n }
  else if offset = 5 then
    { r with cabFitted := decide (n % 2 = 1), priority := n / 8 % 4, stageCount := n / 32 }
  else if offset = 6 then { r with powers := r.powers.set 0 n }
  else if offset = 7 then { r with powers := r.powers.set 1 n }
  else if offset = 8 then { r with powers := r.powers.set 2 n }
  else if offset = 9 then { r with powers := r.powers.set 3 n }
  else if offset = 10 then { r with fallbackLimit := n }
  else if offset = 11 then { r with attendance := n }
  else if offset = 12 then { r with closeTimeout := n }
  else if offset = 13 then { r with stagger := n }
  else if offset = 14 then { r with stepDelay := n }
  else if offset = 15 then { r with minOff := n }
  else if offset = 17 then { r with wakeSettle := n }
  else r

/-- A field value is inside its coded range (R181, R188): the Blank record with that field is in range. -/
def fieldInRange (offset n : Nat) : Bool := (IdentityRecord.blank.setField offset n).inRange

/-- A byte of a field as the transaction wrote it; a byte it did not write is a free value (R181; log 8). -/
def heldByte (held : List (Nat × Byte)) (free : Nat) (offset : Nat) : Byte :=
  match held.find? fun x => x.1 == offset with
  | some x => x.2
  | none => Config.unwrittenIdentityByte (free + offset)

/-- The identity bytes a port holds in its transaction (R181). -/
def Port.heldBytes (t : Port) : List (Nat × Byte) := (t.transaction.map (·.heldBytes)).getD []

/-- The value of a field, its held bytes and the byte that completes it (R181). -/
def fieldValue (held : List (Nat × Byte)) (free offset : Nat) (v : Byte) : Nat :=
  (List.range (fieldSize offset - 1)).foldl
    (fun n i => n * 256 + (heldByte held free (offset + 1 - fieldSize offset + i)).toNat) 0 * 256 + v.toNat

/-- Holding a byte of a several-byte field, in place of one held for the same offset (R181). -/
def State.holdByte (s : State) (p : PortId) (offset : Nat) (v : Byte) : State :=
  s.modPort p fun t =>
    { t with transaction := t.transaction.map fun x =>
        { x with heldBytes := (offset, v) :: x.heldBytes.filter fun y => y.1 != offset } }

/-- The outcome of a field write, in the order of R181. -/
def State.fieldOutcome (s : State) (offset n : Nat) : IdentityWrite :=
  if s.loading then .state else if s.power.locked then .locked
  else if fieldInRange offset n = false then .range else .done

/-- A field write taken acts through the blocks that use the field (R53, R137, R139, R181). -/
def State.fieldTaken (s : State) (offset n : Nat) : State :=
  let changed := decide (offset = 4 ∧ n ≠ s.power.record.vehicle)
  let s := s.modPower fun x => { x with record := x.record.setField offset n }
  let s := if changed && s.valid then s.goUnassigned .identityChange else s
  if 5 ≤ offset ∧ offset ≤ 10 then s.identityToStages else s

/-- A write completes a field and is judged (R181). -/
def State.judgeField (s : State) (p : PortId) (offset : Nat) (v : Byte) : State :=
  let n := fieldValue (s.port p).heldBytes s.freeCount offset v
  let o := s.fieldOutcome offset n
  let s := { s with freeCount := s.freeCount + 32 }
  let s := s.modPower fun x => { x with lastIdentityWrite := o }
  if o = .done then s.fieldTaken offset n else s

/-- The meaning of IDENTITY_FIELD_WRITE (R181): at an offset that completes no field nothing is judged. -/
def execIdentityFieldWrite (p : PortId) (offset : Nat) (v : Byte) (s : State) :
    Host.Outcome State Fault Refusal :=
  .next (if identityFieldEnds.contains offset then s.writeArea p 12 offset fun s => s.judgeField p offset v else s)

/-! ## Select Position -/

/-- Select Position's check (R58). -/
def positionCheck (p : PortId) (s : State) : Option Reason :=
  firstReason [(decide (¬(1 ≤ s.operandNum p 1 ∧ s.operandNum p 1 ≤ 32)), .range)]

/-- The meaning of SELECT_POSITION (R58). -/
def execSelectPosition (p : PortId) (s : State) : Host.Outcome State Fault Refusal :=
  .next (s.plainCommand p none (positionCheck p) fun s =>
    s.modPort p fun t => { t with selectedPosition := s.operandNum p 1 })

/-! ## Register writes -/

/-- The count at an offset of the End Status (12.4). -/
def countAt (offset : Nat) : Option (EndId × EndCount) :=
  if offset = 7 then some (.end1, .frameErrorA) else if offset = 8 then some (.end1, .frameErrorB)
  else if offset = 9 then some (.end1, .stray) else if offset = 10 then some (.end1, .throughDrop)
  else if offset = 22 then some (.end2, .frameErrorA) else if offset = 23 then some (.end2, .frameErrorB)
  else if offset = 24 then some (.end2, .stray) else if offset = 25 then some (.end2, .throughDrop)
  else none

/-- What a byte written at an offset of the Identity Record area does: it completes a field, is held for one, or is
ignored (R181, R188). -/
def State.writeIdentity (s : State) (p : PortId) (offset : Nat) (v : Byte) : State :=
  if identityFieldEnds.contains offset then s.judgeField p offset v
  else if offset = 1 ∨ offset = 2 ∨ offset = 3 ∨ offset = 16 then s.holdByte p offset v
  else s

/-- What a byte written at an offset of the area in force does (R168, 12.4). -/
def State.writeInArea (s : State) (p : PortId) (offset : Nat) (v : Byte) : State :=
  let area := (s.port p).area
  if area = 1 then
    match countAt offset with
    | some (e, c) => s.modEnd e fun l => l.clearCount c
    | none => s
  else if area = 11 then s.writeMessageWindow p offset v
  else if area = 12 then s.writeIdentity p offset v
  else s

/-- What a byte written in the fixed part does, the opcode byte apart (R168, 12.4). -/
def State.writeFixed (s : State) (p : PortId) (address : Nat) (v : Byte) : State :=
  if address = 0x01 then s.modPort p fun t => { t with areaSelect := v.toNat }
  else if 0x08 ≤ address ∧ address ≤ 0x0D then
    s.modPort p fun t => { t with operands := t.operands.set! (address - 0x08) v }
  else if 0x20 ≤ address ∧ address ≤ 0x26 then
    match allGroups[address - 0x20]? with
    | some g => s.modPort p fun t => t.clearFlags g v
    | none => s
  else if 0x28 ≤ address ∧ address ≤ 0x2E then
    match allGroups[address - 0x28]? with
    | some g => s.modPort p fun t => t.writeEnable (.causes g) v
    | none => s
  else if address = 0x2F then s.modPort p fun t => t.writeEnable .groups v
  else s

/-- A byte written at an address of the window, the opcode byte apart (R168). -/
def State.registerWrite (s : State) (p : PortId) (address : Nat) (v : Byte) : State :=
  s.write p address fun s =>
    if address < areaBase then s.writeFixed p address v else s.writeInArea p (address - areaBase) v

/-- An opcode that names no command is refused with RANGE, before every other check (R171). -/
def State.badOpcode (s : State) (p : PortId) : State :=
  s.write p opcodeAddress fun s => s.answer p .refused (some .range) 0

/-- A byte written at the opcode address: the command it names, opcodes in the order of the command table (R171,
12.4). -/
def writeOpcode (p : PortId) (opcode : Nat) (s : State) : Host.Outcome State Fault Refusal :=
  match opcode with
  | 0x01 => execClaimCab p s
  | 0x02 => execReleaseCab p s
  | 0x03 => execSetStandstill p s
  | 0x04 => execIssueOrder p s
  | 0x05 => execWriteDoorStatus p s
  | 0x06 => execLocalClose p s
  | 0x07 => execSetLineTiming p s
  | 0x08 => execSetDemand p s
  | 0x09 => execSetSupplyBudget p s
  | 0x0A => execSelectPosition p s
  | 0x0B => execTake p s
  | 0x0C => execSelectBuffer p s
  | 0x0D => execPost p s
  | 0x0E => execFetch p s
  | 0x0F => execReturnBuffer p s
  | 0x10 => execSetQuotas p s
  | 0x11 => execNodeReset p s
  | 0x12 => execEndReset p s
  | 0x13 => execStable p s
  | 0x14 => execWakeCommand p s
  | 0x15 => execLockIdentity p s
  | _ => .next (s.badOpcode p)

/-- The meaning of REGISTER_WRITE (R168): any byte written at any address of the window. -/
def execRegisterWrite (p : PortId) (address : Nat) (v : Byte) (s : State) : Host.Outcome State Fault Refusal :=
  if address = opcodeAddress then writeOpcode p v.toNat s else .next (s.registerWrite p address v)

end Sys2Proof.Machine
end

