-- ==== Sys2Proof/Machine/Dispatch.lean ====
section
/-! DEFINITION. The dispatch: one arm per command, each one call of its meaning. -/

namespace Sys2Proof.Machine

def exec (i : Instr) (s : State) : Host.Outcome State Fault Refusal :=
  match i with
  | .powerOnReset => Sys2Proof.Machine.execPowerOnReset s
  | .resetPin => Sys2Proof.Machine.execResetPin s
  | .resetEnd role1 role0 idsrc => Sys2Proof.Machine.execResetEnd role1 role0 idsrc s
  | .loadComplete read => Sys2Proof.Machine.execLoadComplete read s
  | .identityReadTimeout => Sys2Proof.Machine.execIdentityReadTimeout s
  | .rawSenseChange e level => Sys2Proof.Machine.execRawSenseChange e level s
  | .senseDebounceExpiry e => Sys2Proof.Machine.execSenseDebounceExpiry e s
  | .copyStart e p => Sys2Proof.Machine.execCopyStart e p s
  | .lineIdleAbort e p => Sys2Proof.Machine.execLineIdleAbort e p s
  | .copyReceived e p bytes => Sys2Proof.Machine.execCopyReceived e p bytes s
  | .twinWindowExpiry e => Sys2Proof.Machine.execTwinWindowExpiry e s
  | .linkIdleExpiry e => Sys2Proof.Machine.execLinkIdleExpiry e s
  | .keepaliveExpiry e => Sys2Proof.Machine.execKeepaliveExpiry e s
  | .arbiterTake e => Sys2Proof.Machine.execArbiterTake e s
  | .transmitComplete e => Sys2Proof.Machine.execTransmitComplete e s
  | .callOriginate => Sys2Proof.Machine.execCallOriginate s
  | .hopTimerExpiry => Sys2Proof.Machine.execHopTimerExpiry s
  | .inaugurationTimerExpiry => Sys2Proof.Machine.execInaugurationTimerExpiry s
  | .commitWaitExpiry => Sys2Proof.Machine.execCommitWaitExpiry s
  | .silenceExpiry => Sys2Proof.Machine.execSilenceExpiry s
  | .cycleTimeoutExpiry => Sys2Proof.Machine.execCycleTimeoutExpiry s
  | .periodTimerExpiry => Sys2Proof.Machine.execPeriodTimerExpiry s
  | .refreshTimerExpiry => Sys2Proof.Machine.execRefreshTimerExpiry s
  | .closeTimerExpiry side => Sys2Proof.Machine.execCloseTimerExpiry side s
  | .attendanceTimerExpiry => Sys2Proof.Machine.execAttendanceTimerExpiry s
  | .proofLifetimeExpiry => Sys2Proof.Machine.execProofLifetimeExpiry s
  | .stageTimerExpiry stage => Sys2Proof.Machine.execStageTimerExpiry stage s
  | .transmitServerStep => Sys2Proof.Machine.execTransmitServerStep s
  | .storingEnd buffer => Sys2Proof.Machine.execStoringEnd buffer s
  | .deadlineExpiry sequence => Sys2Proof.Machine.execDeadlineExpiry sequence s
  | .wakeSettleExpiry => Sys2Proof.Machine.execWakeSettleExpiry s
  | .transactionStart p command => Sys2Proof.Machine.execTransactionStart p command s
  | .transactionEnd p => Sys2Proof.Machine.execTransactionEnd p s
  | .areaCapture p => Sys2Proof.Machine.execAreaCapture p s
  | .stageTimerLowRead p stage => Sys2Proof.Machine.execStageTimerLowRead p stage s
  | .stageTimerHighRead p stage => Sys2Proof.Machine.execStageTimerHighRead p stage s
  | .flagClear p g v => Sys2Proof.Machine.execFlagClear p g v s
  | .enableWrite p t v => Sys2Proof.Machine.execEnableWrite p t v s
  | .countClearWrite p e c => Sys2Proof.Machine.execCountClearWrite p e c s
  | .identityFieldWrite p offset v => Sys2Proof.Machine.execIdentityFieldWrite p offset v s
  | .registerWrite p address v => Sys2Proof.Machine.execRegisterWrite p address v s
  | .claimCab p => Sys2Proof.Machine.execClaimCab p s
  | .releaseCab p => Sys2Proof.Machine.execReleaseCab p s
  | .setStandstill p => Sys2Proof.Machine.execSetStandstill p s
  | .issueOrder p => Sys2Proof.Machine.execIssueOrder p s
  | .writeDoorStatus p => Sys2Proof.Machine.execWriteDoorStatus p s
  | .localClose p => Sys2Proof.Machine.execLocalClose p s
  | .setLineTiming p => Sys2Proof.Machine.execSetLineTiming p s
  | .setDemand p => Sys2Proof.Machine.execSetDemand p s
  | .setSupplyBudget p => Sys2Proof.Machine.execSetSupplyBudget p s
  | .selectPosition p => Sys2Proof.Machine.execSelectPosition p s
  | .take p => Sys2Proof.Machine.execTake p s
  | .selectBuffer p => Sys2Proof.Machine.execSelectBuffer p s
  | .post p => Sys2Proof.Machine.execPost p s
  | .fetch p => Sys2Proof.Machine.execFetch p s
  | .returnBuffer p => Sys2Proof.Machine.execReturnBuffer p s
  | .setQuotas p => Sys2Proof.Machine.execSetQuotas p s
  | .nodeReset p => Sys2Proof.Machine.execNodeReset p s
  | .endReset p => Sys2Proof.Machine.execEndReset p s
  | .stable p => Sys2Proof.Machine.execStable p s
  | .wakeCommand p => Sys2Proof.Machine.execWakeCommand p s
  | .lockIdentity p => Sys2Proof.Machine.execLockIdentity p s

end Sys2Proof.Machine
end

