-- ==== Sys2Proof/Safety.lean ====
section
/-! DEFINITION. The words the statements use: what a command leaves unchanged, how a port command is admitted and
answered, what holds in every state the node can be in, block by block, and the tables of the register window. -/

namespace Sys2Proof.Machine

/-! ## What is left unchanged -/

/-- The blocks of the node. -/
inductive Block where
  | clock | moments | freeValues | endOf (e : EndId) | inauguration | cycle | door | tracking | grants | stages
  | messages | portOf (p : PortId) | power
deriving DecidableEq, Repr

/-- A block is the same in two states. -/
def SameBlock (s t : State) : Block → Prop
  | .clock => t.now = s.now
  | .moments => t.moments = s.moments
  | .freeValues => t.freeCount = s.freeCount
  | .endOf e => t.lineEnd e = s.lineEnd e
  | .inauguration => t.inaug = s.inaug
  | .cycle => t.cycle = s.cycle
  | .door => t.door = s.door
  | .tracking => t.track = s.track
  | .grants => t.grants = s.grants
  | .stages => t.stage = s.stage
  | .messages => t.msg = s.msg
  | .portOf p => t.port p = s.port p
  | .power => t.power = s.power

/-- Every block but those listed is unchanged, and so are the commands that wait. -/
def OnlyChanges (bs : List Block) (s t : State) : Prop :=
  t.pending = s.pending ∧ ∀ b, b ∉ bs → SameBlock s t b

/-- The blocks that a change of node role can reach: all but the clock, the moments, the free values and the power
state. -/
def roleBlocks : List Block :=
  [.endOf .end1, .endOf .end2, .inauguration, .cycle, .door, .tracking, .grants, .stages, .messages, .portOf .portA
  , .portOf .portB]

/-- A port is unchanged but for its event flags. -/
def OnlyFlags (x y : Port) : Prop := y = { x with flags := y.flags }

/-- Both ports are unchanged but for their event flags. -/
def OnlyRaises (s t : State) : Prop := ∀ p, OnlyFlags (s.port p) (t.port p)

/-- A cause's flag is set in both ports' copies. -/
def RaisedAt (c : Cause) (t : State) : Prop := ∀ p, t.flagSet p c = true

/-- A cause was raised once, and no other flag of either port changed. -/
def RaisedOnly (c : Cause) (s t : State) : Prop := ∀ p, t.port p = (s.port p).raise c

/-- Both event copies are as they were. -/
def NoEvent (s t : State) : Prop := ∀ p, (t.port p).flags = (s.port p).flags

/-! ## Port commands -/

/-- A port in ACTIVE at which an opcode can be written: no transaction is open (log 7), or one that writes, with its
address counter at the opcode address (R167, R168). -/
def PortOpen (s : State) (p : PortId) : Prop :=
  s.power.held = false ∧ s.power.state = .active ∧ (s.port p).takesWrite opcodeAddress = true

/-- A port in ACTIVE at which an opcode can be written, with the role a command asks for. -/
def Admitted (s : State) (p : PortId) (need : Need) : Prop := PortOpen s p ∧ s.admits p need = true

/-- A port after a command: the four items of R171, and the transaction that wrote its opcode. -/
def Answered (x y : Port) (result : CommandResult) (reason : Option Reason) (data : Nat) : Prop :=
  y.result = result ∧ y.reason = reason ∧ y.resultData = data ∧ y.commandCount = (x.commandCount + 1) % 256
    ∧ y.transaction = (x.reached opcodeAddress).transaction ∧ y.shiftOut = 0xFF

/-- What a command leaves of its port beside the outcome: role, operands, selections, latch and enables. -/
def SameSettings (x y : Port) : Prop :=
  y.role = x.role ∧ y.operands = x.operands ∧ y.areaSelect = x.areaSelect
    ∧ y.selectedPosition = x.selectedPosition ∧ y.selectedBuffer = x.selectedBuffer ∧ y.latch = x.latch
    ∧ y.causeEnables = x.causeEnables ∧ y.groupEnables = x.groupEnables

/-- A command ended DONE at a port, raised at most events, and changed the blocks listed and no other port. -/
def DoneAt (p : PortId) (bs : List Block) (s t : State) : Prop :=
  Answered (s.port p) (t.port p) .done none 0 ∧ SameSettings (s.port p) (t.port p)
    ∧ OnlyFlags (s.port p.other) (t.port p.other)
    ∧ OnlyChanges (.portOf .portA :: .portOf .portB :: bs) s t

/-- A command was refused at a port, and changed nothing beyond its outcome (R171). -/
def RefusedAt (p : PortId) (why : Reason) (s t : State) : Prop :=
  Answered (s.port p) (t.port p) .refused (some why) 0 ∧ SameSettings (s.port p) (t.port p) ∧ NoEvent s t
    ∧ OnlyChanges [.portOf p] s t

/-! ## The Ends -/

/-- A pair's counts are in range, and a HEALTHY pair has neither eight misses nor a recovery (R5, R8). -/
def PairOk (p : PairState) : Prop :=
  p.miss ≤ 8 ∧ p.recovery < 64 ∧ p.frameErrors ≤ 255 ∧ (p.health = .healthy → p.miss < 8 ∧ p.recovery = 0)

/-- A source holds a frame only behind a full slot (R14). -/
def SlotOk (q : SourceSlot) : Prop := q.slot = none → q.held = none

/-- The five slots (R14). -/
def SlotsOk (t : Slots) : Prop :=
  SlotOk t.inauguration ∧ SlotOk t.cycle ∧ SlotOk t.door ∧ SlotOk t.wake ∧ SlotOk t.keepalive

/-- An OPEN End holds no frame, sends nothing and runs no timer of its link (R2, R3, R7, R14, R15, R18, R19). -/
def OpenIsQuiet (l : LineEnd) : Prop :=
  l.link = .opened → l.slots = .empty ∧ l.throughQueue = [] ∧ l.sending = none ∧ l.twinWindow = none
    ∧ l.linkIdle = none ∧ l.keepalive = none

/-- The link state agrees with the health of the pairs (R2, R8). -/
def LinkFollowsHealth (l : LineEnd) : Prop :=
  (l.link = .up → l.bothHealthy = true) ∧ (l.link = .degraded → l.bothHealthy = false)
    ∧ (l.link = .joining → l.bothHealthy = true ∧ l.twinWindow = none)

/-- An End is as its rules keep it: counts in range, at most 6 frames passing through, slots in order, link state
and health in agreement, nothing going on while OPEN (table of 1.8). -/
def EndOk (l : LineEnd) : Prop :=
  l.strayCount ≤ 255 ∧ l.throughDrop ≤ 255 ∧ l.lastAccepted ≤ 255 ∧ l.txSequence ≤ 255
    ∧ l.throughQueue.length ≤ 6 ∧ PairOk l.pairA ∧ PairOk l.pairB ∧ SlotsOk l.slots ∧ OpenIsQuiet l
    ∧ LinkFollowsHealth l

/-- Both Ends are as their rules keep them; while the node sleeps each is JOINING or OPEN, with its Link Idle Timer
stopped (R24). -/
def EndsOk (s : State) : Prop :=
  EndOk s.end1 ∧ EndOk s.end2
    ∧ (s.asleep = true → ∀ e,
        ((s.lineEnd e).link = .joining ∨ (s.lineEnd e).link = .opened) ∧ (s.lineEnd e).linkIdle = none)

/-! ## Roles -/

/-- The head-ward End of a COUNTED or MEMBER node. -/
def State.headward (s : State) : Option EndId :=
  match s.inaug.role with
  | .unassigned => none
  | .counted r => some r.headward
  | .member a => some a.headward

/-- The own position of a COUNTED or MEMBER node. -/
def State.ownPosition (s : State) : Option Nat :=
  match s.inaug.role with
  | .unassigned => none
  | .counted r => some r.position
  | .member a => some a.position

/-- A head stands at position 1 with its head-ward End OPEN and its identity locked: MEMBER while HEADING, COUNTED
while CLAIMING (2.1, R25, R48). -/
def HeadOk (s : State) : Prop :=
  (s.heading = true → s.valid = true) ∧ (s.claiming = true → s.updateInProgress = true)
    ∧ (s.heading = true ∨ s.claiming = true →
        s.ownPosition = some 1 ∧ s.headward.map (fun e => (s.lineEnd e).link) = some .opened
          ∧ s.power.locked = true)

/-- The timers of a count, the silence timer and the head parts run in the roles their rules give them, and the node
is PROVED only while HEADING (R26, R31, R45, R62, R67, R116, R122). -/
def RoleTimersOk (s : State) : Prop :=
  (s.inaug.inaugurationTimer.isSome = true → s.claiming = true)
    ∧ (s.inaug.hopTimer.isSome = true → s.updateInProgress = true)
    ∧ (s.inaug.commitWait.isSome = true → s.updateInProgress = true ∧ s.claiming = false)
    ∧ (s.inaug.silence.isSome = true → s.valid = true ∧ s.heading = false)
    ∧ (s.cycle.cycleTimeout.isSome = true ∨ s.cycle.periodTimer.isSome = true
        ∨ s.cycle.refreshTimer.isSome = true → s.heading = true)
    ∧ (s.cycle.state ≠ .none ↔ s.heading = true)
    ∧ s.grants.inUse = s.heading
    ∧ (s.track.proved = true → s.heading = true) ∧ s.track.lifetime.isSome = s.track.proved

/-- The power state and the roles: a node in LOADING is neither head nor MEMBER, a node that sleeps is UNASSIGNED
and no head, Wake Settle runs in WAKING alone, and while the node is awake an End is OPEN exactly where its debounced
sense is open (R1, R24, R43, R179, R183, R185). -/
def PowerRolesOk (s : State) : Prop :=
  (s.power.held = true ∨ s.power.readTimer.isSome = true → s.loading = true)
    ∧ (s.power.wakeSettle.isSome = true → s.power.state = .waking)
    ∧ (s.loading = true → s.heading = false ∧ s.claiming = false ∧ s.valid = false)
    ∧ (s.asleep = true → s.inaug.role = .unassigned ∧ s.heading = false ∧ s.claiming = false)
    ∧ (s.asleep = false → ∀ e, (s.lineEnd e).sense = .opened ↔ (s.lineEnd e).link = .opened)

/-- A consist identity fits the four and two bytes a frame carries it in (table of 12.1). -/
def Identity.Fits (i : Identity) : Prop := i.head < 2 ^ 32 ∧ i.generation < 2 ^ 16

/-- The own vehicle number and the identity of the Active consist fit their fields (R33, R40, R44, R188). -/
def IdentityOk (s : State) : Prop :=
  s.power.record.vehicle < 2 ^ 32 ∧ ∀ a, s.active = some a → a.identity.Fits

/-- Head role, node role, their timers and the power state agree, and the identities fit their fields. -/
def RolesOk (s : State) : Prop := HeadOk s ∧ RoleTimersOk s ∧ PowerRolesOk s ∧ IdentityOk s

/-! ## Doors -/

/-- A side is RELEASED only at an attended MEMBER that did not report it locked out (R86); a CLOSING side has its
close timer running or is Overdue, and no other side has (R87). -/
def SideOk (s : State) (i : SideId) : Prop :=
  (s.sideState i = .released → s.valid = true ∧ s.door.attended = true ∧ s.door.status.lockedOut i = false)
    ∧ (s.sideState i = .closing → (s.door.side i).overdue = (s.door.side i).closeTimer.isNone)
    ∧ (s.sideState i ≠ .closing → (s.door.side i).closeTimer = none ∧ (s.door.side i).overdue = false)

/-- Both sides, the attendance timer of an attended node (R89), and the sides of a node that sleeps (R183). -/
def DoorsOk (s : State) : Prop :=
  (∀ i, SideOk s i) ∧ s.door.attendanceTimer.isSome = s.door.attended
    ∧ (s.asleep = true → ∀ i, s.sideState i = .withdrawn)

/-! ## Heating -/

/-- The stages that are ON are the lowest, up to the target; the target is the one the Ceiling and the Demand call
for; at most the stage above the on-count waits, in a rise toward the target, and a rise in progress has followed on the
last one that ended (R139 to R143). -/
def HeatingOk (s : State) : Prop :=
  s.power.record.stageCount ≤ 4 ∧ s.stage.target = s.newTarget ∧ s.onCount ≤ s.stage.target
    ∧ (∀ i, i < 4 → ((s.stage.stageAt i).state = .on ↔ i < s.onCount))
    ∧ (∀ i, i < 4 → (s.stage.stageAt i).state = .waitingOn → s.stage.rise.isSome = true ∧ i = s.onCount)
    ∧ (s.stage.rise.isSome = true → s.onCount < s.stage.target ∧ s.stage.ended = none)

/-! ## Grants -/

/-- While the Grant Engine is in use, the grants stay within the budget (R127); every class is one of the four. -/
def GrantsOk (s : State) : Prop :=
  (s.grants.inUse = true → grantSum s.grants.table ≤ s.grants.budget)
    ∧ (∀ g ∈ s.grants.table, g.effectiveClass ≤ 3) ∧ s.power.record.priority ≤ 3
    ∧ ∀ a, s.active = some a → ∀ r ∈ a.entries, r.priority ≤ 3

/-! ## Messages -/

/-- A buffer's state, by its number. -/
def State.bufferState (s : State) (n : Nat) : BufferState := (s.buffer n).state

/-- The queues of a port hold buffers of their kind, each once; no buffer of the port is INBOUND outside its queue,
and one is OUTBOUND outside its queue only while it is offered as a broadcast (R147, R156). -/
def QueuesOk (s : State) (p : PortId) : Prop :=
  (s.queues p).inbound.Nodup ∧ (s.queues p).outbound.Nodup
    ∧ (∀ n ∈ (s.queues p).inbound, n < Config.bufferCount) ∧ (∀ n ∈ (s.queues p).outbound, n < Config.bufferCount)
    ∧ (∀ n, n < Config.bufferCount → (n ∈ (s.queues p).inbound ↔ s.bufferState n = .inbound p))
    ∧ (∀ n, n < Config.bufferCount →
        (n ∈ (s.queues p).outbound ∨ s.msg.offer.map (·.kind) = some (.broadcast n) ∧ s.bufferState n = .outbound p
          ↔ s.bufferState n = .outbound p))
    ∧ (∀ n ∈ (s.queues p).outbound, s.msg.offer.map (·.kind) ≠ some (.broadcast n))

/-- The quotas: each from 8 to 88, together at most 96, and no port's count above its own (R148). -/
def QuotasOk (s : State) : Prop :=
  8 ≤ s.msg.queuesA.quota ∧ s.msg.queuesA.quota ≤ 88 ∧ 8 ≤ s.msg.queuesB.quota ∧ s.msg.queuesB.quota ≤ 88
    ∧ s.msg.queuesA.quota + s.msg.queuesB.quota ≤ 96 ∧ ∀ p, s.portCount p ≤ (s.queues p).quota

/-- The In-Flight Table and the storings: at most four entries, no Sequence and no buffer twice, and exactly the
IN_FLIGHT and RECEIVING buffers in them (R155, R156, R160). -/
def InFlightOk (s : State) : Prop :=
  s.msg.inFlight.length ≤ 4 ∧ (s.msg.inFlight.map (·.sequence)).Nodup ∧ (s.msg.inFlight.map (·.buffer)).Nodup
    ∧ (s.msg.storings.map (·.buffer)).Nodup
    ∧ (∀ n, n < Config.bufferCount →
        (n ∈ s.msg.inFlight.map (·.buffer) ↔ ∃ p, s.bufferState n = .inFlight p)
          ∧ (n ∈ s.msg.storings.map (·.buffer) ↔ ∃ p, s.bufferState n = .receiving p))
    ∧ (∀ e ∈ s.msg.inFlight, e.buffer < Config.bufferCount) ∧ (∀ e ∈ s.msg.storings, e.buffer < Config.bufferCount)

/-- The Message Unit is as its rules keep it: 96 buffers of 64 bytes, quotas, queues, tables, and at most 8 NOTEs
held or promised (R147, R148, R156, R158). -/
def PoolOk (s : State) : Prop :=
  s.msg.buffers.length = Config.bufferCount ∧ (∀ b ∈ s.msg.buffers, b.bytes.length = Config.bufferBytes)
    ∧ QuotasOk s ∧ (∀ p, QueuesOk s p) ∧ InFlightOk s ∧ s.notePlaces ≤ Config.noteQueueSize
    ∧ (∀ n, s.msg.offer.map (·.kind) = some (.broadcast n) →
        n < Config.bufferCount ∧ ∃ p, s.bufferState n = .outbound p)

/-! ## The register window: the tables of 12.4 as lists of items -/

/-- The items of an area in order, each with its width in bytes and its value (12.4). -/
abbrev Items := List (Nat × Nat)

/-- The bytes of items, the most significant byte of each first (12). -/
def Items.bytes (items : Items) : List Byte :=
  items.flatMap fun x => (List.range x.1).map fun k => byteOf (x.2 / 256 ^ (x.1 - 1 - k))

/-- A number by its bits, bit 0 first. -/
def bitsOf : List Bool → Nat
  | [] => 0
  | b :: rest => b.toNat + 2 * bitsOf rest

/-- The code of an item by its place in a list, from 0. -/
def placeOf {α : Type} [DecidableEq α] (order : List α) (x : α) : Nat := order.idxOf x

/-- The code of an item by its place in a list, from 1; 0 where there is none. -/
def placeOrNone {α : Type} [DecidableEq α] (order : List α) (x : Option α) : Nat :=
  (x.map fun y => placeOf order y + 1).getD 0

/-- Single bytes as items. -/
def bytesAsItems (bytes : List Byte) : Items := bytes.map fun b => (1, b.toNat)

/-- The items of an End in the End Status. -/
def LineEnd.items (l : LineEnd) : Items :=
  let pair := fun x : PairState => ([(1, placeOf [.healthy, .degraded] x.health), (1, x.miss), (1, x.recovery)] : Items)
  (1, placeOf [.opened, .joining, .up, .degraded, .down] l.link + 128 * bitsOf [decide (l.sense = .closed)])
    :: pair l.pairA ++ pair l.pairB
    ++ [(1, l.pairA.frameErrors), (1, l.pairB.frameErrors), (1, l.strayCount), (1, l.throughDrop), (1, l.lastAccepted)
      , (1, l.txSequence), (1, l.throughQueue.length)
      , (1, bitsOf [l.slots.inauguration.slot.isSome, l.slots.cycle.slot.isSome, l.slots.door.slot.isSome
          , l.slots.wake.slot.isSome, l.slots.keepalive.slot.isSome])]

/-- The items of the Claim Status. -/
def Inauguration.claimItems (i : Inauguration) : Items :=
  let role := match i.headRole with
    | .noClaim => 0
    | .claiming => 1
    | .heading => 2
    | .claimFailed _ => 3
  let reason := match i.headRole with
    | .claimFailed r => some r
    | .noClaim | .claiming | .heading => none
  [(1, role), (1, placeOrNone [.contest, .timeout, .notAtEnd, .tooLong, .displaced] reason), (1, i.attempt)
  , (1, bitsOf [i.truncated]), (2, i.generation)]

/-- The items of a Roster Entry (12.3). -/
def RosterEntry.items (r : RosterEntry) : Items :=
  [(1, r.position), (4, r.vehicle)
  , (1, bitsOf [r.cabFitted, decide (r.orientation = .reversed), r.ready] + 8 * (r.priority % 4)
      + 32 * (r.stageCount % 8))]
    ++ r.powers.toList.map fun power => (1, power)

/-- The items of the Consist Status and of the Consist Window of a port. -/
def State.consistItems (s : State) (p : PortId) : Items :=
  let ends := [EndId.end1, .end2]
  let role := match s.inaug.role with
    | .unassigned => 0
    | .counted _ => 1
    | .member _ => 2
  let active := match s.active with
    | some a =>
      [(4, a.identity.head), (2, a.identity.generation), (1, a.length), (1, a.position)
      , (1, placeOrNone [.normal, .reversed] (some a.orientation) + 4 * placeOrNone ends (some a.headward))
      , (2, a.lineSilence)]
    | none => [(4, 0), (2, 0), (1, 0), (1, 0), (1, 0), (2, 0)]
  let counted := match s.counted with
    | some r =>
      [(4, r.head), (1, r.attempt), (1, r.position)
      , (1, placeOrNone ends (some r.headward)
          + 4 * placeOrNone [.awaitingHop, .awaitingTally, .tallySent] (some r.stage))
      , (1, r.noted.getD 0)]
    | none => [(4, 0), (1, 0), (1, 0), (1, 0), (1, 0)]
  let causes := [LeaveCause.countReception, .dissolve, .commitRejected, .headWardLoss, .silenceExpiry, .identityChange
    , .commitWaitExpiry, .contest, .claimEnded, .nodeReset]
  let place := (s.port p).selectedPosition
  let entry := s.active.bind fun a => if place ≤ a.length then a.entries[place - 1]? else none
  (1, bitsOf [s.valid, s.updateInProgress] + 4 * role) :: active ++ counted
    ++ (1, placeOrNone causes s.inaug.lastCause) :: (entry.map (·.items)).getD (List.replicate 10 (1, 255))

/-- The items of the Cycle Status. -/
def Cycle.items (c : Cycle) : Items :=
  let roles := [CallRole.none, .forwarded, .tail, .short, .unplacedForwarded, .unplacedShort]
  [(1, placeOf [.none, .idleContinuous, .idleQuiet, .callOut] c.state), (2, c.number)
  , (1, placeOrNone [.quiet, .continuous] (some c.nextMode)), (1, c.failures)
  , (1, placeOrNone [.timeout, .unplaced, .short, .count] c.lastFailure)
  , (1, bitsOf [c.callRequested, c.statusRaised]), (1, placeOf roles c.lastCallRole)]
    ++ match c.lastSettle with
      | some l => [(2, l.cycleNumber), (1, l.nextMode.toNat), (1, l.proof.toNat), (1, l.grant)]
      | none => [(2, 0), (1, 0), (1, 0), (1, 0)]

/-- The items of the Line Timing. -/
def LineTiming.items (t : LineTiming) : Items :=
  [(1, t.cyclePeriod / 10), (1, t.quietRefresh / 50), (1, t.lineSilence / 50), (1, t.inaugurationTimeout / 50)
  , (1, bitsOf [t.continuousOnly])]

/-- The code of an order outcome (12.3). -/
def Outcome.number : Outcome → Nat
  | .none => 0
  | .applied => 1
  | .notAddressed => 2
  | .refusedStandstill => 3
  | .refusedLockedOut => 4
  | .refusedUnattended => 5
  | .refusedNotReady => 6
  | .pending => 7
  | .lost => 8
  | .carried code => code.toNat

/-- The items of the Door Status. -/
def Door.items (d : Door) : Items :=
  let side := placeOf [SideState.withdrawn, .released, .closing]
  [(1, side d.side1.state + 4 * side d.side2.state)
  , (1, bitsOf [decide (d.side1.state = .released), decide (d.side2.state = .released)
      , decide (d.side1.state = .closing), decide (d.side2.state = .closing)])
  , (1, bitsOf [d.side1.overdue, d.side2.overdue, !d.attended])
  , (1, 16 * bitsOf [d.status.closedLocked1, d.status.closedLocked2, d.status.lockedOut1, d.status.lockedOut2])
  , (1, d.lastOrderId), (1, d.lastOutcome.number), (1, bitsOf [d.headStandstill, d.trainDoorsOpen]), (1, d.orderCounter)]

/-- The items of the Order Status; a position outside the record shows 0. -/
def State.orderItems (s : State) : Items :=
  let t := s.track
  let record := match t.outstanding with
    | some r =>
      [(1, r.id), (1, placeOrNone [.release, .close, .withdraw] (some r.action))
      , (1, placeOrNone [.left, .right, .both] (some r.side)), (1, r.first), (1, r.last), (1, r.repeatsLeft)
      , (1, bitsOf [r.firstSent.isSome, r.complete]), (1, r.outcomes.length)]
    | none => List.replicate 8 (1, 0)
  let outcomes := (t.outstanding.map (·.outcomes)).getD []
  record ++ [(1, bitsOf [t.proved]), (2, s.leftMs t.lifetime), (2, t.lastProved)]
    ++ (List.range 32).map fun i => (1, (outcomes[i]?.map Outcome.number).getD 0)

/-- The items of the Grant Status; a position beyond the table's Length shows 0xFF, an unseeded Grant 255 (R134). -/
def GrantEngine.items (g : GrantEngine) : Items :=
  let entry := fun x : GrantEntry =>
    [(1, if x.seeded = true then x.grant else 255), (1, x.lastDemand), (1, x.lastApplied)
    , (1, x.effectiveClass % 4 + 16 * bitsOf [x.seeded, x.withheld])]
  [(2, g.budget), (1, bitsOf [g.inUse]), (1, g.table.length), (2, (g.table.map (·.grant)).sum)
  , (2, (g.room % 65536).toNat), (1, (g.table.filter (·.withheld)).length), (1, g.takenGrant.getD 255)]
    ++ (List.range 32).flatMap fun i => (g.table[i]?.map entry).getD (List.replicate 4 (1, 255))

/-- The items of the Stage Status at a port: each time left lies low byte first, its high byte the latched one where the
port holds the latch of that stage (R144). -/
def State.stageItems (s : State) (p : PortId) : Items :=
  let d := s.stage
  let powers := s.power.record.powers.toList
  [(1, d.ceiling), (1, bitsOf [d.fallback]), (1, d.demand), (1, d.target), (1, (powers.take d.target).sum), (1, s.onCount)
  , (1, s.appliedPower)]
    ++ [1, 2, 3, 4].flatMap fun stage =>
      let x := d.stageAt (stage - 1)
      let left := s.leftMs x.timer % 65536
      let latched := (s.port p).latch.filter fun l => decide (l.stage = stage)
      [(1, placeOf [.off, .waitingOn, .on, .resting] x.state), (1, powers.getD (stage - 1) 0), (1, left % 256)
      , (1, (latched.map (·.high.toNat)).getD (left / 256))]

/-- The items of a buffer in the Message Status: its state with its owner port, and its Post Identity. -/
def Buffer.items (b : Buffer) : Items :=
  let owner := placeOrNone [PortId.portA, .portB]
  let state := match b.state with
    | .free => 0
    | .held p => 1 + 16 * owner (some p)
    | .outbound p => 2 + 16 * owner (some p)
    | .inFlight p => 3 + 16 * owner (some p)
    | .inbound p => 4 + 16 * owner (some p)
    | .receiving p => 5 + 16 * owner (some p)
  [(1, state), (4, (b.postIdentity.map (·.head)).getD 0), (2, (b.postIdentity.map (·.generation)).getD 0)]

/-- The items of the Message Status (the places of the In-Flight entries: log 12). -/
def State.messageItems (s : State) : Items :=
  let m := s.msg
  let queues := fun p : PortId =>
    ([(1, (s.queues p).quota), (1, s.portCount p), (1, (s.queues p).outbound.length), (1, (s.queues p).inbound.length)
    , (1, (s.port p).selectedBuffer.getD 255)] : Items)
  let entry := fun e : InFlight => ([(1, e.sequence), (1, e.buffer), (1, e.destination), (2, s.leftMs e.deadline)] : Items)
  (1, (m.buffers.filter fun b => decide (b.state = .free)).length) :: queues .portA ++ queues .portB
    ++ [(1, placeOf [.portA, .portB] m.pointer), (1, m.sequence), (1, m.noteQueue.length)]
    ++ ((List.range 4).flatMap fun i => (m.inFlight[i]?.map entry).getD [(1, 0), (1, 255), (1, 0), (2, 0)])
    ++ m.buffers.flatMap Buffer.items

/-- The items of the Message Window of a port: its selected buffer while HELD by it, else 0xFF (R150). -/
def State.messageWindowItems (s : State) (p : PortId) : Items :=
  let held := (s.port p).selectedBuffer.filter fun n => decide (s.bufferState n = .held p)
  bytesAsItems ((held.map fun n => (s.buffer n).bytes).getD (List.replicate 64 0xFF))

/-- The items of the Identity Record, the check byte computed over the 24 before it (R188). -/
def IdentityRecord.items (r : IdentityRecord) : Items :=
  let fields : Items :=
    [(1, 0x26), (4, r.vehicle), (1, bitsOf [r.cabFitted] + 8 * (r.priority % 4) + 32 * (r.stageCount % 8))]
      ++ (r.powers.toList.map fun power => (1, power))
      ++ [(1, r.fallbackLimit), (1, r.attendance), (1, r.closeTimeout), (1, r.stagger), (1, r.stepDelay), (1, r.minOff)
        , (2, r.wakeSettle), (6, 0)]
  fields ++ [(1, (crc8 fields.bytes).toNat)]

/-- The items of an area by its select code; a code that names no area has none (R169). -/
def State.areaItems (s : State) (p : PortId) : Nat → Items
  | 1 => s.end1.items ++ s.end2.items
  | 2 => s.inaug.claimItems
  | 3 => s.consistItems p
  | 4 => s.cycle.items
  | 5 => s.cycle.timing.items
  | 6 => s.door.items
  | 7 => s.orderItems
  | 8 => s.grants.items
  | 9 => s.stageItems p
  | 10 => s.messageItems
  | 11 => s.messageWindowItems p
  | 12 => (if s.loading = true then IdentityRecord.blank else s.power.record).items
  | _ => []

/-- The items of the Power area, from address 0x38 on (the wake cause by log 22). -/
def State.powerItems (s : State) : Items :=
  let x := s.power
  let ends := fun e : EndId => placeOrNone [.end1, .end2] (some e)
  let wake := match x.wakeCause with
    | .none => 0
    | .line e pair => 16 + ends e + 4 * placeOf [.pairA, .pairB] pair
    | .sense e => 32 + ends e
    | .port p => 48 + placeOrNone [.portA, .portB] (some p)
  [(1, placeOf [.loading, .active, .stabled, .waking] x.state)
  , (1, placeOrNone [.loaded, .badCheck, .badField, .noAnswer, .notFitted] x.loadOutcome + 128 * bitsOf [x.sourceFitted])
  , (1, bitsOf [x.locked, s.ready]), (1, wake), (1, placeOf [.none, .done, .range, .locked, .state] x.lastIdentityWrite)]

/-- The items of the fixed part at a port, each a byte with its address; the opcode byte is left out (log 23). -/
def State.fixedItems (s : State) (p : PortId) : List (Nat × Nat) :=
  let x := s.port p
  let role := fun r : PortRole => placeOrNone [.door, .comfort, .messages] (some r)
  let reasons := [Reason.wrongRole, .notHead, .noConsist, .state, .range, .locked, .empty, .quota, .notHeld, .notReady]
  let groups := [Group.link, .consist, .cycle, .door, .heat, .message, .power]
  [(0x00, role s.portA.role + 4 * role s.portB.role), (0x01, x.areaSelect)]
    ++ (x.operands.toList.mapIdx fun i v => (0x08 + i, v.toNat))
    ++ [(0x10, placeOf [.none, .done, .refused] x.result), (0x11, placeOrNone reasons x.reason), (0x12, x.resultData)
      , (0x13, x.commandCount)]
    ++ (groups.mapIdx fun i g => (0x20 + i, (s.flagByte p g).toNat))
    ++ (groups.mapIdx fun i g => (0x28 + i, (x.causeEnables.get g).toNat))
    ++ [(0x2F, x.groupEnables.toNat), (0x30, bitsOf (groups.map (s.groupSummary p)))]
    ++ s.powerItems.mapIdx fun i y => (0x38 + i, y.2)

/-! ## Words of single rules -/

/-- The port and the role a command asks for (table of 10.3). Wake, which is judged in its own way (R184), is not
listed. -/
def commandNeed : Instr → Option (PortId × Need)
  | .claimCab p | .releaseCab p | .setStandstill p | .issueOrder p | .writeDoorStatus p | .localClose p
  | .setLineTiming p => some (p, some .door)
  | .setDemand p | .setSupplyBudget p => some (p, some .comfort)
  | .selectPosition p | .take p | .selectBuffer p | .post p | .fetch p | .returnBuffer p | .setQuotas p
  | .nodeReset p | .endReset p | .stable p | .lockIdentity p => some (p, none)
  | _ => none

/-- Every field of the head part of the Door Unit, with the Outstanding Order and the Proof, its Proof Lifetime timer
and the recorded Cycle Number of the last proof, as R107 resets them with R115 and R120. -/
def DoorHeadReset (t : State) : Prop :=
  t.door.headStandstill = false ∧ t.door.orderCounter = 0 ∧ t.door.trainDoorsOpen = false
    ∧ t.door.lastReleaseSent = none ∧ t.track.outstanding = none ∧ t.track.proved = false
    ∧ t.track.lifetime = none ∧ t.track.lastProved = 0

/-- LOADING has ended with an outcome and a record, and Load Complete is raised (R179). -/
def LoadingEnded (s t : State) (o : LoadOutcome) (r : IdentityRecord) (locked : Bool) : Prop :=
  t.power = { s.power with state := .active, readTimer := none, loadOutcome := some o, record := r, locked := locked }
    ∧ RaisedOnly .loadComplete s t ∧ (s.stage.fallback = true → t.stage.ceiling = r.fallbackLimit)
    ∧ OnlyChanges [.clock, .stages, .power, .portOf .portA, .portOf .portB] s t

/-- A wake cause took the node from STABLED to WAKING (R184, R185). -/
def WokenBy (c : WakeCause) (s t : State) : Prop :=
  t.power = { s.power with state := .waking, wakeCause := c, wakeSettle := some (s.now + s.power.record.wakeSettle * 32) }

/-- The frame the arbiter takes next at an End, in the order of R17. -/
def NextFrame (s : State) (e : EndId) (f : Frame) : Prop :=
  let l := s.lineEnd e
  l.slots.inauguration.slot = some f
    ∨ l.slots.inauguration.slot = none ∧ (l.slots.cycle.slot = some f
      ∨ l.slots.cycle.slot = none ∧ (l.slots.door.slot = some f
        ∨ l.slots.door.slot = none ∧ (l.slots.wake.slot = some f
          ∨ l.slots.wake.slot = none ∧ (l.slots.keepalive.slot = some f
            ∨ l.slots.keepalive.slot = none ∧ (l.throughQueue.head? = some f
              ∨ l.throughQueue = [] ∧ s.offeredTo e = some f)))))

/-- A copy that an End receives whole: no reset, awake, and not a copy that was lost (R5, R23, R184). -/
def CopyReaches (s : State) (e : EndId) (p : Pair) : Prop :=
  s.power.held = false ∧ s.asleep = false ∧ s.receiver e p ≠ .discarding

/-- A source's slot holds a frame at an End, in the slot alone (R14). -/
def InSlot (t : State) (e : EndId) (x : Source) (f : Frame) : Prop :=
  ((t.lineEnd e).slots.get x).slot = some f

/-- A source's slot at an End is empty, and the End is not OPEN: a frame placed there goes into the slot (R14). -/
def SlotFree (s : State) (e : EndId) (x : Source) : Prop :=
  (s.lineEnd e).link ≠ .opened ∧ (s.lineEnd e).slots.get x = .empty

end Sys2Proof.Machine
end

