-- ==== Sys2Proof/Certificates/Slice0/Obligations.lean ====
section
/-! DEFINITION. The statements about the node: its steps and invariants, its resets and power states, its ports, its
Ends, inauguration, the roll cycle, doors, heating and messages. -/

section Slice0Obligations

open Sys2Proof Sys2Proof.Machine

/-! ## Steps and invariants -/

/-- A step takes the command at the front of the queue, with the queue's rest; on an empty queue the block idles and
its clock advances by 1 µs (log 1: the idle step is the model's choice). -/
def Obligations.StepTakesTheCommandAtTheFront : Prop :=
  (∀ (c : Instr) (rest : List Instr) (s : State),
      s.pending = c :: rest → step s = exec c { s with pending := rest })
    ∧ ∀ s : State, s.pending = [] → step s = .next { s with now := s.now + 1 }

/-- Every command, in every state, is answered with a next state; it leaves the waiting commands alone and time
never runs back. -/
def Obligations.EveryCommandGoesOn : Prop :=
  ∀ (c : Instr) (s : State), ∃ t, exec c s = .next t ∧ t.pending = s.pending ∧ s.now ≤ t.now

/-- Every step keeps both Ends as their rules keep them. -/
def Obligations.EveryStepKeepsTheEnds : Prop :=
  ∀ s t : State, RolesOk s → EndsOk s → step s = .next t → EndsOk t

/-- Every step keeps the head role, the node role, their timers and the power state in agreement, and the own vehicle
number and the identity of the Active consist within the bytes that carry them. -/
def Obligations.EveryStepKeepsTheRoles : Prop :=
  ∀ s t : State, RolesOk s → step s = .next t → RolesOk t

/-- Every step keeps: no side is RELEASED but at an attended MEMBER that did not report it locked out. -/
def Obligations.EveryStepKeepsTheDoors : Prop :=
  ∀ s t : State, DoorsOk s → step s = .next t → DoorsOk t

/-- Every step keeps the heating stages in order under their target. -/
def Obligations.EveryStepKeepsTheHeating : Prop :=
  ∀ s t : State, RolesOk s → HeatingOk s → step s = .next t → HeatingOk t

/-- The applied heating power never exceeds the Ceiling, nor the Demand. -/
def Obligations.AppliedPowerStaysWithinTheCeiling : Prop :=
  ∀ s : State, HeatingOk s → s.appliedPower ≤ s.stage.ceiling ∧ s.appliedPower ≤ s.stage.demand

/-- Every step keeps the grants of an engine in use within the Supply Budget. -/
def Obligations.EveryStepKeepsTheGrants : Prop :=
  ∀ s t : State, RolesOk s → GrantsOk s → step s = .next t → GrantsOk t

/-- Every step keeps the message buffers, queues, quotas and tables in order. -/
def Obligations.EveryStepKeepsTheMessagePool : Prop :=
  ∀ s t : State, PoolOk s → step s = .next t → PoolOk t

/-- The node under reset meets every one of these invariants. -/
def Obligations.ResetMeetsEveryInvariant : Prop :=
  EndsOk .reset ∧ RolesOk .reset ∧ DoorsOk .reset ∧ HeatingOk .reset ∧ GrantsOk .reset ∧ PoolOk .reset

/-! ## Resets, loading, sleeping -/

/-- Power-on reset and the reset pin put every block to its reset values, with every output inactive and both
interrupt lines released; the pins, the clock and the waiting commands are outside the blocks (log 4). -/
def Obligations.ResetPutsEveryBlockToItsResetValues : Prop :=
  ∀ c ∈ [Instr.powerOnReset, .resetPin], ∀ s : State, ∃ t, exec c s = .next t
    ∧ t.power = .reset ∧ t.inaug = .reset ∧ t.cycle = .reset ∧ t.door = .reset ∧ t.track = .reset
    ∧ t.grants = .reset ∧ t.stage = .reset ∧ t.msg = .reset
    ∧ (∀ p, t.port p = .reset (t.port p).role)
    ∧ (∀ e, t.lineEnd e =
        { LineEnd.reset with
          rawSense := (s.lineEnd e).rawSense
          pairA := { PairState.reset with receiver := (t.lineEnd e).pairA.receiver }
          pairB := { PairState.reset with receiver := (t.lineEnd e).pairB.receiver } })
    ∧ (∀ i, t.releaseOut i = false ∧ t.closeOut i = false) ∧ t.provedPin = false ∧ t.onCount = 0
    ∧ (∀ p, t.irqLow p = false) ∧ t.now = s.now ∧ t.pending = s.pending

/-- R107: each of the three node-level resets sets the head part of the Door Unit as listed, with the Outstanding Order
empty and the Proof as chapter 06 lays down: UNPROVEN, its timer stopped, the Cycle Number of the last proof cleared. -/
def Obligations.EveryNodeLevelResetClearsTheHeadPartOfTheDoorUnit : Prop :=
  ∀ (s : State) (p : PortId),
    (∀ c ∈ [Instr.powerOnReset, .resetPin], ∃ t, exec c s = .next t ∧ DoorHeadReset t)
      ∧ (Admitted s p none → ∃ t, exec (.nodeReset p) s = .next t ∧ DoorHeadReset t)

/-- Node Reset keeps the Ends, the identity and the power state and puts every other block to its reset values: both
ports with their command areas, selections, latches, flags and enables, of which it then shows its own DONE and, at a
node that was COUNTED or MEMBER, the cause NODE_RESET with Consist Invalidated; a transaction in progress goes on (log
19). It acts on the stages as they stand: ON stages rest, WAITING_ON stages return to OFF, RESTING and OFF stages stay,
the rise ends and the last switch-on is kept; the target is then recomputed for a Demand of 0. It counts first stages of 0
PU, which then begin a rise of their own without a stagger (that they do is the model's choice: log 42). -/
def Obligations.NodeResetKeepsTheEndsAndTheIdentity : Prop :=
  ∀ (s : State) (p : PortId), Admitted s p none → ∃ t, exec (.nodeReset p) s = .next t
    ∧ t.power = s.power ∧ t.end1 = s.end1 ∧ t.end2 = s.end2 ∧ t.now = s.now ∧ t.pending = s.pending
    ∧ t.cycle = .reset ∧ t.door = .reset ∧ t.track = .reset ∧ t.grants = .reset ∧ t.msg = .reset
    ∧ t.inaug = { Inauguration.reset with
        lastCause := if s.inaug.role = .unassigned then none else some .nodeReset }
    ∧ (∀ q, t.port q =
        { role := (s.port q).role, operands := #v[0, 0, 0, 0, 0, 0]
          result := if q = p then .done else .none, reason := none, resultData := 0
          commandCount := if q = p then 1 else 0
          areaSelect := 0, selectedPosition := 1, selectedBuffer := none, latch := none
          flags := { GroupBytes.zero with consist := if s.inaug.role = .unassigned then 0 else 0x02 }
          causeEnables := .zero, groupEnables := 0
          transaction := if q = p then ((s.port p).reached 0x0E).transaction else (s.port q).transaction
          shiftOut := if q = p then 0xFF else (s.port q).shiftOut })
    ∧ t.stage.demand = 0 ∧ t.stage.ceiling = s.power.record.fallbackLimit ∧ t.stage.fallback = true
    ∧ t.stage.target = highestLevel s.power.record.powers.toList 0 s.power.record.stageCount
    ∧ (∀ i, i < 4 → (s.stage.stageAt i).state = .on → s.power.record.minOff ≠ 0 →
        t.stage.stageAt i = { state := .resting, timer := some (s.now + s.power.record.minOff * 1000000) })
    ∧ (∀ i, i < 4 → (s.stage.stageAt i).state = .resting → t.stage.stageAt i = s.stage.stageAt i)
    ∧ (let rested := fun x : Stage =>
        if x.state = .on ∧ s.power.record.minOff ≠ 0 then
          { state := .resting, timer := some (s.now + s.power.record.minOff * 1000000) }
        else if x.state = .on ∨ x.state = .waitingOn then { state := .off, timer := none }
        else x
      let first := rested (s.stage.stageAt 0)
      let moment := max s.now ((s.stage.lastOn.map (· + s.power.record.stepDelay * 100000)).getD 0)
      (∀ i, i < 4 → t.stage.target ≤ i → t.stage.stageAt i = rested (s.stage.stageAt i))
      ∧ (t.stage.target = 0 → t.stage.rise = none ∧ t.stage.lastOn = s.stage.lastOn)
      ∧ (0 < t.stage.target →
        (first.state = .off → moment ≤ s.now → t.stage.stageAt 0 = { state := .on, timer := none })
        ∧ (first.state = .off → s.now < moment → t.stage.lastOn = s.stage.lastOn
          ∧ t.stage.stageAt 0 = { state := .waitingOn, timer := some moment }
          ∧ t.stage.rise = some { began := s.now, stagger := 0, onMoment := moment })
        ∧ (first.state = .resting → t.stage.lastOn = s.stage.lastOn ∧ t.stage.stageAt 0 = first
          ∧ t.stage.rise = some { began := s.now, stagger := 0, onMoment := max moment (first.timer.getD 0) })
        ∧ t.stage = (State.applyTarget { t with stage :=
            { s.stage with
              demand := 0, ceiling := t.stage.ceiling, fallback := true, target := 0, rise := none, ended := none
              stages := s.stage.stages.map rested } } t.stage.target false).stage))

/-- The end of a reset reads the straps and enters LOADING with a read of 50 ms, or ACTIVE at once with NOT_FITTED
where no identity source is fitted; the sense debounce starts at each End whose raw level is closed. -/
def Obligations.ResetEndReadsTheStrapsAndBeginsLoading : Prop :=
  ∀ (role1 role0 : Bool) (s : State), s.power.held = true →
    (∃ t, exec (.resetEnd role1 role0 true) s = .next t
      ∧ t.power = { s.power with
          held := false, state := .loading, sourceFitted := true, loadOutcome := none
          readTimer := some (s.now + 50000) }
      ∧ (t.portA.role, t.portB.role) = strapRoles role1 role0
      ∧ (∀ e, t.lineEnd e = { s.lineEnd e with
          debounce := if (s.lineEnd e).rawSense = (s.lineEnd e).sense then none else some (s.now + 100000) })
      ∧ NoEvent s t
      ∧ OnlyChanges [.power, .portOf .portA, .portOf .portB, .endOf .end1, .endOf .end2] s t)
    ∧ ∃ t, exec (.resetEnd role1 role0 false) s = .next t
      ∧ t.power = { s.power with
          held := false, state := .active, sourceFitted := false, loadOutcome := some .notFitted
          readTimer := none, record := .blank, locked := false }
      ∧ (t.portA.role, t.portB.role) = strapRoles role1 role0
      ∧ RaisedAt .loadComplete t
      ∧ ∀ e, (t.lineEnd e).debounce =
          if (s.lineEnd e).rawSense = (s.lineEnd e).sense then none else some (s.now + 100000)

/-- LOADING ends with the outcome that the read gives: NO_ANSWER, BAD_CHECK, BAD_FIELD, or LOADED with the fields
read and the lock (the clock at an expiry is the model's: log 2). -/
def Obligations.LoadingEndsWithTheOutcomeOfTheRead : Prop :=
  ∀ (s : State) (d : Nat), s.power.held = false → s.power.state = .loading → s.power.readTimer = some d →
    s.valid = false →
    (∃ t, exec (.loadComplete none) s = .next t ∧ LoadingEnded s t .noAnswer .blank false)
    ∧ (∃ t, exec .identityReadTimeout s = .next t ∧ LoadingEnded s t .noAnswer .blank false
        ∧ t.now = max s.now d)
    ∧ ∀ bytes : List Byte, bytes.length = 25 →
        let r := IdentityRecord.ofBytes bytes
        let good := byteAt bytes 0 = 0x26 ∧ (bytes.drop 18).take 6 = [0, 0, 0, 0, 0, 0] ∧ r.vehicle ≠ 0
          ∧ r.inRange = true
        ∃ t, exec (.loadComplete (some bytes)) s = .next t ∧ t.now = s.now
          ∧ (crc8 (bytes.take 24) ≠ byteAt bytes 24 → LoadingEnded s t .badCheck .blank false)
          ∧ (crc8 (bytes.take 24) = byteAt bytes 24 → ¬good → LoadingEnded s t .badField .blank false)
          ∧ (crc8 (bytes.take 24) = byteAt bytes 24 → good → LoadingEnded s t .loaded r true)

/-- Stable puts an UNASSIGNED node with its sides WITHDRAWN and no stage ON to sleep, and is refused with STATE
otherwise; the end of Wake Settle makes it ACTIVE, with each End JOINING or OPEN by its debounced sense (the clock at an
expiry is the model's: log 2). -/
def Obligations.StableSleepsAndWakeSettleEnds : Prop :=
  (∀ (s : State) (p : PortId), Admitted s p none →
    let fit := s.inaug.role = .unassigned ∧ (∀ i, s.sideState i = .withdrawn) ∧ s.onCount = 0
    (fit → ∃ t, exec (.stable p) s = .next t
      ∧ Answered (s.port p) (t.port p) .done none 0
      ∧ t.power = { s.power with state := .stabled, wakeCause := .none }
      ∧ (∀ e, (t.lineEnd e).link = (if (s.lineEnd e).sense = .closed then .joining else .opened)
          ∧ (t.lineEnd e).slots = .empty ∧ (t.lineEnd e).throughQueue = [] ∧ (t.lineEnd e).sending = none
          ∧ (t.lineEnd e).twinWindow = none ∧ (t.lineEnd e).linkIdle = none ∧ (t.lineEnd e).keepalive = none
          ∧ (t.lineEnd e).lastAccepted = 0 ∧ (t.lineEnd e).bothHealthy = true
          ∧ (t.lineEnd e).txSequence = (s.lineEnd e).txSequence
          ∧ (t.lineEnd e).strayCount = (s.lineEnd e).strayCount
          ∧ (t.lineEnd e).throughDrop = (s.lineEnd e).throughDrop)
      ∧ t.stage.target = 0 ∧ t.stage.rise = none ∧ t.stage.ceiling = s.stage.ceiling
      ∧ t.stage.fallback = s.stage.fallback ∧ t.stage.demand = s.stage.demand
      ∧ (∀ i, i < 4 → (t.stage.stageAt i).state ≠ .waitingOn) ∧ (∀ q, (t.port q).latch = none)
      ∧ OnlyChanges [.endOf .end1, .endOf .end2, .stages, .power, .portOf .portA, .portOf .portB] s t)
    ∧ (¬fit → ∃ t, exec (.stable p) s = .next t ∧ RefusedAt p .state s t))
  ∧ ∀ (s : State) (d : Nat), s.power.held = false → s.power.wakeSettle = some d → ∃ t,
      exec .wakeSettleExpiry s = .next t ∧ t.now = max s.now d
      ∧ t.power = { s.power with state := .active, wakeSettle := none }
      ∧ RaisedAt .transitionComplete t
      ∧ (∀ e, (s.lineEnd e).sense = .opened → (t.lineEnd e).link = .opened)
      ∧ (∀ e, (s.lineEnd e).sense = .closed → (t.lineEnd e).link = .joining
          ∧ (t.lineEnd e).linkIdle = some (t.now + 200000) ∧ (t.lineEnd e).keepalive = some (t.now + 50000)
          ∧ (t.lineEnd e).lastAccepted = 0 ∧ (t.lineEnd e).bothHealthy = true)
      ∧ OnlyChanges [.clock, .endOf .end1, .endOf .end2, .cycle, .stages, .power, .portOf .portA, .portOf .portB] s t

/-- In STABLED the start of a copy, a change of a raw sense level and a Wake each take the node to WAKING with their
cause; a Wake in any other power state is refused with STATE. -/
def Obligations.EachWakeCauseWakesAStabledNode : Prop :=
  ∀ s : State, s.power.held = false →
    (s.power.state = .stabled →
      (∀ e p, ∃ t, exec (.copyStart e p) s = .next t ∧ WokenBy (.line e p) s t ∧ t.receiver e p = .discarding
        ∧ OnlyChanges [.endOf e, .power] s t)
      ∧ (∀ e level, (s.lineEnd e).rawSense ≠ level → ∃ t, exec (.rawSenseChange e level) s = .next t
        ∧ WokenBy (.sense e) s t ∧ OnlyChanges [.endOf e, .power] s t)
      ∧ ∀ p, (s.port p).takesWrite 0x0E = true → ∃ t, exec (.wakeCommand p) s = .next t ∧ WokenBy (.port p) s t
        ∧ Answered (s.port p) (t.port p) .done none 0 ∧ SameSettings (s.port p) (t.port p)
        ∧ OnlyChanges [.portOf p, .power] s t)
    ∧ (s.power.state ≠ .stabled → ∀ p, (s.port p).takesWrite 0x0E = true →
        ∃ t, exec (.wakeCommand p) s = .next t ∧ RefusedAt p .state s t)

/-- R182: Lock Identity locks the identity with the fields it holds, whatever its Vehicle Number; it is refused with
LOCKED where it is locked; the two hardware resets clear the lock, and nothing else that the rule names does; with a
Vehicle Number of 0 a locked node stays not Ready until then. -/
def Obligations.LockIdentityLocksOnce : Prop :=
  (∀ (s : State) (p : PortId), Admitted s p none →
    (s.power.locked = false → ∃ t, exec (.lockIdentity p) s = .next t
      ∧ t.power = { s.power with locked := true }
      ∧ DoneAt p [.power, .cycle, .endOf .end1, .endOf .end2] s t
      ∧ t.ready = decide (s.power.record.vehicle ≠ 0)
      ∧ ∀ k, hasBit (t.placedRecord k).nodeFlags 0 = decide (s.power.record.vehicle = 0))
    ∧ (s.power.locked = true → ∃ t, exec (.lockIdentity p) s = .next t ∧ RefusedAt p .locked s t))
  ∧ (∀ s : State, ∀ c ∈ [Instr.powerOnReset, .resetPin], ∃ t, exec c s = .next t ∧ t.power.locked = false)
  ∧ (∀ (s : State) (p : PortId),
      ∀ c ∈ [Instr.nodeReset p, .endReset p, .stable p, .wakeCommand p, .wakeSettleExpiry],
        ∃ t, exec c s = .next t ∧ t.power.locked = s.power.locked)
  ∧ ∀ (c : Instr) (s t : State), c ≠ .powerOnReset → c ≠ .resetPin → RolesOk s → s.loading = false →
      s.power.locked = true → s.power.record.vehicle = 0 → exec c s = .next t →
      t.ready = false ∧ t.power.record.vehicle = 0

/-! ## Ports -/

/-- Chip select falling begins a transaction with the direction and the address of its command byte and shifts out
the summary byte; chip select rising ends it, with its capture and its held bytes, and the data output is driven no
longer. -/
def Obligations.TransactionsBeginAndEnd : Prop :=
  (∀ (s : State) (p : PortId) (command : Option Byte), s.power.held = false → (s.port p).transaction = none →
    ∃ t, exec (.transactionStart p command) s = .next t
      ∧ t.port p = { s.port p with
          shiftOut := s.summaryByte p
          transaction := some
            { direction := match command with
                | none => .nothing
                | some b => if b.toNat < 128 then .write else .read
              counter := match command with
                | none => 0
                | some b => b.toNat % 128
              area := (s.port p).areaSelect, capture := none, heldBytes := [] } }
      ∧ s.dataOut p = none ∧ t.dataOut p = some (s.summaryByte p)
      ∧ OnlyChanges [.portOf p] s t)
  ∧ ∀ (s : State) (p : PortId), s.power.held = false → ∃ t, exec (.transactionEnd p) s = .next t
      ∧ t.port p = { s.port p with transaction := none } ∧ t.dataOut p = none ∧ OnlyChanges [.portOf p] s t

/-- The first read of a captured area copies the whole area; a low byte of a Stage Timer Remaining latches its high
byte, and the high byte of that stage is the latched one and releases the latch. In an open transaction that reads, a
high byte is read with the counter there, a low byte with the counter there or among the plain bytes before it (log 7);
elsewhere nothing is read. Each of the twelve areas has the items of the tables of 12.3 and 12.4, in their order, widths and
codes, and the length that 12.4 gives it; a code that names no area has no bytes. From address 0x40 on the window shows the
capture that is held, or the area in force as it stands, and 0xFF beyond its end; the fixed part shows its items at their
addresses, and 0xFF where it has none; while the node sleeps it shows the Power area alone. Codes that 12 gives by an item's
place are log 22, single bits that it does not code log 11, the places of In-Flight entries log 12, the rounding of a time
left log 9; of the opcode byte nothing is said (log 23). -/
def Obligations.ReadsCaptureAndLatch : Prop :=
  (∀ (s : State) (p : PortId) (x : Transaction), s.power.held = false → s.asleep = false →
    (s.port p).transaction = some x → x.direction = .read → x.capture = none → captured x.area = true →
    let bytes := s.areaBytes p x.area
    let offset := max x.counter 0x40 - 0x40
    offset < bytes.length → ∃ t, exec (.areaCapture p) s = .next t
      ∧ t.port p = { s.port p with
          transaction := some { x with capture := some bytes, counter := 0x40 + offset + 1 }
          shiftOut := bytes.getD offset 0xFF }
      ∧ OnlyChanges [.portOf p] s t)
  ∧ (∀ (s : State) (p : PortId) (code : Nat), s.areaBytes p code = (s.areaItems p code).bytes)
  ∧ (∀ (s : State) (p : PortId), s.msg.buffers.length = 96 → (∀ b ∈ s.msg.buffers, b.bytes.length = 64) →
    ∀ x ∈ [(1, 30), (2, 6), (3, 31), (4, 13), (5, 5), (6, 8), (7, 45), (8, 138), (9, 23), (10, 706), (11, 64), (12, 25)],
      (s.areaBytes p x.1).length = x.2)
  ∧ (∀ (s : State) (p : PortId), s.asleep = false →
    (∀ i, s.windowByte p (0x40 + i) =
        (((s.port p).transaction.bind (·.capture)).getD (s.areaBytes p (s.port p).area)).getD i 0xFF)
    ∧ (∀ x ∈ s.fixedItems p, s.windowByte p x.1 = byteOf x.2)
    ∧ ∀ address, address < 0x40 → address ≠ 0x0E → (∀ x ∈ s.fixedItems p, x.1 ≠ address) →
        s.windowByte p address = 0xFF)
  ∧ (∀ (s : State) (p : PortId), s.asleep = true → ∀ address, s.windowByte p address =
      if 0x38 ≤ address ∧ address ≤ 0x3C then s.powerItems.bytes.getD (address - 0x38) 0xFF else 0xFF)
  ∧ ∀ (s : State) (p : PortId) (k : Nat), s.power.held = false → s.asleep = false →
    (s.port p).area = 9 → 1 ≤ k → k ≤ 4 →
    let left := s.leftMs (s.stage.stageAt (k - 1)).timer % 65536
    let low := 0x40 + 7 + 4 * (k - 1) + 2
    let reads := fun first last : Nat =>
      ∀ x, (s.port p).transaction = some x → x.direction = .read ∧ first ≤ x.counter ∧ x.counter ≤ last
    let first := if k = 1 then 0 else low - 2
    (¬reads first low → exec (.stageTimerLowRead p k) s = .next s)
    ∧ (¬reads (low + 1) (low + 1) → exec (.stageTimerHighRead p k) s = .next s)
    ∧ (reads first low → ∃ t, exec (.stageTimerLowRead p k) s = .next t
      ∧ (t.port p).shiftOut = byteOf left
      ∧ (t.port p).latch = some { stage := k, high := byteOf (left / 256) }
      ∧ OnlyChanges [.portOf p] s t)
    ∧ (reads (low + 1) (low + 1) →
      ∃ t, exec (.stageTimerHighRead p k) s = .next t ∧ OnlyChanges [.portOf p] s t
      ∧ (∀ high, (s.port p).latch = some { stage := k, high := high } →
          (t.port p).shiftOut = high ∧ (t.port p).latch = none)
      ∧ ((∀ l, (s.port p).latch = some l → l.stage ≠ k) →
          (t.port p).shiftOut = byteOf (left / 256) ∧ (t.port p).latch = (s.port p).latch))

/-- A write of ones clears flags of one group at one port; a write to an enable byte stores it; a write of any value
to a count of the End Status clears it. A group summary is set exactly while a cause of its group has flag and enable
set in the port's copy, and the interrupt line is low exactly while a summary is set with its group enable; the summary
byte shows the summaries with the Loading flag, and 0xFF while the node sleeps. -/
def Obligations.WritesClearFlagsAndCountsAndStoreEnables : Prop :=
  (∀ (s : State) (p : PortId), s.power.held = false → s.asleep = false →
    (∀ g v, (s.port p).takesWrite (0x20 + groupIndex g) = true → ∃ t, exec (.flagClear p g v) s = .next t
      ∧ t.port p = { (s.port p).reached (0x20 + groupIndex g) with
          flags := (s.port p).flags.set g ((s.port p).flags.get g &&& ~~~v), shiftOut := 0xFF }
      ∧ OnlyChanges [.portOf p] s t)
    ∧ (∀ g v, (s.port p).takesWrite (0x28 + groupIndex g) = true → ∃ t,
      exec (.enableWrite p (.causes g) v) s = .next t
      ∧ t.port p = { (s.port p).reached (0x28 + groupIndex g) with
          causeEnables := (s.port p).causeEnables.set g (v &&& groupPlaces g), shiftOut := 0xFF }
      ∧ OnlyChanges [.portOf p] s t)
    ∧ (∀ v, (s.port p).takesWrite 0x2F = true → ∃ t, exec (.enableWrite p .groups v) s = .next t
      ∧ t.port p = { (s.port p).reached 0x2F with groupEnables := v &&& 0x7F, shiftOut := 0xFF }
      ∧ OnlyChanges [.portOf p] s t)
    ∧ ∀ e c, (s.port p).area = 1 → (s.port p).takesWrite (0x40 + countOffset e c) = true → ∃ t,
      exec (.countClearWrite p e c) s = .next t
      ∧ t.lineEnd e = (match c with
          | .frameErrorA => { s.lineEnd e with pairA := { (s.lineEnd e).pairA with frameErrors := 0 } }
          | .frameErrorB => { s.lineEnd e with pairB := { (s.lineEnd e).pairB with frameErrors := 0 } }
          | .stray => { s.lineEnd e with strayCount := 0 }
          | .throughDrop => { s.lineEnd e with throughDrop := 0 })
      ∧ SameSettings (s.port p) (t.port p) ∧ NoEvent s t
      ∧ OnlyChanges [.portOf p, .endOf e] s t)
  ∧ ∀ (s : State) (p : PortId),
    (∀ g, (s.groupSummary p g = true ↔ ∃ i, i < 8 ∧ hasBit (s.flagByte p g) i = true
          ∧ hasBit ((s.port p).causeEnables.get g) i = true)
        ∧ hasBit (s.summaries p) (groupIndex g) = s.groupSummary p g
        ∧ (s.asleep = false → hasBit (s.summaryByte p) (groupIndex g) = s.groupSummary p g))
    ∧ (s.irqLow p = true ↔ ∃ g, s.groupSummary p g = true ∧ hasBit (s.port p).groupEnables (groupIndex g) = true)
    ∧ (s.asleep = false → hasBit (s.summaryByte p) 7 = s.loading) ∧ (s.asleep = true → s.summaryByte p = 0xFF)

/-- A write that completes an identity field is judged STATE, LOCKED, RANGE or DONE in that order, and only DONE
changes the field; a one-byte field takes the byte written, a field of several bytes the bytes held with it, and a byte
of such a field is held until then. A Vehicle Number that changes takes a MEMBER out of its consist without an alert. -/
def Obligations.IdentityFieldWritesAreJudgedInOrder : Prop :=
  ∀ (s : State) (p : PortId) (offset : Nat) (v : Byte), s.power.held = false → s.asleep = false →
    (s.port p).takesWrite (0x40 + offset) = true → (s.port p).area = 12 →
    (offset ∈ identityFieldEnds →
      let held := fun i : Nat => ((s.port p).heldBytes.find? fun x => x.1 == i).map (·.2)
      let n := fieldValue (s.port p).heldBytes s.freeCount offset v
      (offset ≠ 4 → offset ≠ 17 → n = v.toNat)
      ∧ (offset = 4 → ∀ a, held 1 = some a → ∀ b, held 2 = some b → ∀ c, held 3 = some c →
          n = ((a.toNat * 256 + b.toNat) * 256 + c.toNat) * 256 + v.toNat)
      ∧ (offset = 17 → ∀ a, held 16 = some a → n = a.toNat * 256 + v.toNat)
      ∧ ∃ t, exec (.identityFieldWrite p offset v) s = .next t
        ∧ (s.loading = true → t.power = { s.power with lastIdentityWrite := .state })
        ∧ (s.loading = false → s.power.locked = true → t.power = { s.power with lastIdentityWrite := .locked })
        ∧ (s.loading = false → s.power.locked = false → fieldInRange offset n = false →
            t.power = { s.power with lastIdentityWrite := .range })
        ∧ (s.loading = false → s.power.locked = false → fieldInRange offset n = true →
            t.power = { s.power with
              lastIdentityWrite := .done, record := s.power.record.setField offset n }
            ∧ (offset = 10 → t.stage.ceiling = if s.stage.fallback then n else s.stage.ceiling)
            ∧ (offset = 4 → s.heading = false → ∀ a, s.active = some a →
                (n ≠ s.power.record.vehicle → t.inaug.role = .unassigned ∧ t.inaug.lastCause = some .identityChange
                  ∧ t.inaug.silence = none ∧ RaisedAt .consistInvalidated t ∧ t.stage.fallback = true
                  ∧ (∀ i, t.sideState i ≠ .released) ∧ t.end1 = s.end1 ∧ t.end2 = s.end2)
                ∧ (n = s.power.record.vehicle → OnlyChanges [.portOf p, .power, .freeValues] s t))
            ∧ (offset ≠ 4 ∨ s.valid = false → t.inaug = s.inaug))
        ∧ OnlyChanges (.power :: .freeValues :: roleBlocks) s t
        ∧ (t.power.lastIdentityWrite ≠ .done → NoEvent s t ∧ OnlyChanges [.portOf p, .power, .freeValues] s t))
    ∧ (offset ∈ [1, 2, 3, 16] → ∃ t, exec (.registerWrite p (0x40 + offset) v) s = .next t
        ∧ t.port p = { s.port p with
            shiftOut := 0xFF
            transaction := (s.port p).transaction.map fun x =>
              { x with counter := 0x40 + offset + 1
                       heldBytes := (offset, v) :: x.heldBytes.filter fun y => y.1 != offset } }
        ∧ OnlyChanges [.portOf p] s t)

/-- A byte written at the opcode address takes the command it names, an opcode that names none is refused with RANGE,
the Area Select and the operand bytes store what is written, and any other byte below 0x20 writes nothing. Through the
Message Window a Body byte reaches the buffer that the port holds and has selected, and every other byte writes nothing.
A byte reaches the address at the counter of an open transaction that writes, and no other (log 7: with none open it is a
transaction of its own). -/
def Obligations.RegisterWritesReachTheCommandArea : Prop :=
  ∀ (s : State) (p : PortId),
    (∀ x ∈ [((0x01 : Byte), Instr.claimCab p), (0x02, .releaseCab p), (0x03, .setStandstill p),
        (0x04, .issueOrder p), (0x05, .writeDoorStatus p), (0x06, .localClose p), (0x07, .setLineTiming p),
        (0x08, .setDemand p), (0x09, .setSupplyBudget p), (0x0A, .selectPosition p), (0x0B, .take p),
        (0x0C, .selectBuffer p), (0x0D, .post p), (0x0E, .fetch p), (0x0F, .returnBuffer p),
        (0x10, .setQuotas p), (0x11, .nodeReset p), (0x12, .endReset p), (0x13, .stable p),
        (0x14, .wakeCommand p), (0x15, .lockIdentity p)],
      exec (.registerWrite p 0x0E x.1) s = exec x.2 s)
    ∧ (∀ address, ((s.port p).takesWrite address = true ↔ ∀ x, (s.port p).transaction = some x →
          x.direction = .write ∧ x.counter = address)
        ∧ ∀ v : Byte, (s.port p).takesWrite address = false → exec (.registerWrite p address v) s = .next s)
    ∧ (s.power.held = false → s.asleep = false →
      (∀ v : Byte, v = 0 ∨ 0x15 < v.toNat → (s.port p).takesWrite 0x0E = true →
        ∃ t, exec (.registerWrite p 0x0E v) s = .next t ∧ RefusedAt p .range s t)
      ∧ (∀ v : Byte, (s.port p).takesWrite 0x01 = true → ∃ t, exec (.registerWrite p 0x01 v) s = .next t
        ∧ t.port p = { (s.port p).reached 0x01 with areaSelect := v.toNat, shiftOut := 0xFF }
        ∧ OnlyChanges [.portOf p] s t)
      ∧ (∀ (i : Nat) (v : Byte), i < 6 → (s.port p).takesWrite (0x08 + i) = true → ∃ t,
        exec (.registerWrite p (0x08 + i) v) s = .next t
        ∧ (∀ j, j < 6 → t.operand p (j + 1) = if j = i then v else s.operand p (j + 1))
        ∧ t.port p = { (s.port p).reached (0x08 + i) with operands := (t.port p).operands, shiftOut := 0xFF }
        ∧ OnlyChanges [.portOf p] s t)
      ∧ (∀ (address : Nat) (v : Byte), address < 0x20 → address ≠ 0x01 → ¬(0x08 ≤ address ∧ address ≤ 0x0E) →
        (s.port p).takesWrite address = true → ∃ t, exec (.registerWrite p address v) s = .next t
          ∧ t.port p = { (s.port p).reached address with shiftOut := 0xFF } ∧ OnlyChanges [.portOf p] s t)
      ∧ ∀ (i : Nat) (v : Byte), (s.port p).area = 11 → (s.port p).takesWrite (0x40 + i) = true → ∃ t,
        exec (.registerWrite p (0x40 + i) v) s = .next t
        ∧ t.port p = { (s.port p).reached (0x40 + i) with shiftOut := 0xFF }
        ∧ (8 ≤ i → i < 64 → ∀ n, s.heldSelection p = some n →
            t.buffer n = { s.buffer n with bytes := (s.buffer n).bytes.set i v }
            ∧ (∀ m, m ≠ n → t.buffer m = s.buffer m) ∧ t.msg = { s.msg with buffers := t.msg.buffers }
            ∧ OnlyChanges [.messages, .portOf p] s t)
        ∧ (s.heldSelection p = none ∨ i < 8 ∨ 64 ≤ i → OnlyChanges [.portOf p] s t))

/-- A command that the port's role does not admit is refused with WRONG_ROLE, one written in LOADING with STATE, and
either changes nothing but the four items of its outcome; in STABLED and WAKING it is ignored. -/
def Obligations.CommandsAreRefusedByRoleAndInLoading : Prop :=
  ∀ (c : Instr) (p : PortId) (need : Need) (s : State), commandNeed c = some (p, need) →
    s.power.held = false → (s.port p).takesWrite 0x0E = true →
    (s.asleep = false → s.admits p need = false →
      ∃ t, exec c s = .next t ∧ RefusedAt p .wrongRole s t)
    ∧ (s.loading = true → s.admits p need = true → ∃ t, exec c s = .next t ∧ RefusedAt p .state s t)
    ∧ (s.asleep = true → ∃ t, exec c s = .next t
        ∧ t.port p = { s.port p with transaction := (t.port p).transaction, shiftOut := 0xFF }
        ∧ OnlyChanges [.portOf p] s t)

/-- Select Position takes a position from 1 to 32 and Select Buffer a buffer that the port holds; every other operand
is refused, RANGE before NOT_HELD. -/
def Obligations.SelectionsNameAPositionAndAHeldBuffer : Prop :=
  ∀ (s : State) (p : PortId), Admitted s p none →
    let n := s.operandNum p 1
    (1 ≤ n ∧ n ≤ 32 → ∃ t, exec (.selectPosition p) s = .next t
      ∧ t.port p = { s.port p with
          selectedPosition := n, result := .done, reason := none, resultData := 0
          commandCount := ((s.port p).commandCount + 1) % 256
          transaction := (t.port p).transaction, shiftOut := 0xFF }
      ∧ OnlyChanges [.portOf p] s t)
    ∧ (¬(1 ≤ n ∧ n ≤ 32) → ∃ t, exec (.selectPosition p) s = .next t ∧ RefusedAt p .range s t)
    ∧ (n ≤ 95 → s.bufferState n = .held p → ∃ t, exec (.selectBuffer p) s = .next t
      ∧ t.port p = { s.port p with
          selectedBuffer := some n, result := .done, reason := none, resultData := 0
          commandCount := ((s.port p).commandCount + 1) % 256
          transaction := (t.port p).transaction, shiftOut := 0xFF }
      ∧ OnlyChanges [.portOf p] s t)
    ∧ (95 < n → ∃ t, exec (.selectBuffer p) s = .next t ∧ RefusedAt p .range s t)
    ∧ (n ≤ 95 → s.bufferState n ≠ .held p → ∃ t, exec (.selectBuffer p) s = .next t ∧ RefusedAt p .notHeld s t)

/-! ## The Ends -/

/-- A raw sense level that differs from the debounced state starts the Sense Debounce of 100 ms, and one that agrees
with it stops the timer; at the expiry the debounced state takes the raw level, Coupling Changed is raised, and an
awake End goes to OPEN, or from OPEN to JOINING, and reports the change (the clock at an expiry is the model's: log 2). -/
def Obligations.SenseIsDebouncedFor100Milliseconds : Prop :=
  (∀ (s : State) (e : EndId) (level : Sense), s.power.held = false → (s.lineEnd e).rawSense ≠ level →
    ∃ t, exec (.rawSenseChange e level) s = .next t
      ∧ t.lineEnd e = { s.lineEnd e with
          rawSense := level
          debounce := if level = (s.lineEnd e).sense then none else some (s.now + 100000) }
      ∧ (s.power.state ≠ .stabled → t.power = s.power) ∧ OnlyChanges [.endOf e, .power] s t)
  ∧ ∀ (s : State) (e : EndId) (d : Nat), s.power.held = false → (s.lineEnd e).debounce = some d →
    ∃ t, exec (.senseDebounceExpiry e) s = .next t ∧ t.now = max s.now d
      ∧ (t.lineEnd e).sense = (s.lineEnd e).rawSense ∧ (t.lineEnd e).debounce = none
      ∧ RaisedAt (.couplingChanged e) t ∧ OnlyChanges (.clock :: roleBlocks) s t
      ∧ (s.asleep = true → (t.lineEnd e).link = (s.lineEnd e).link
          ∧ RaisedOnly (.couplingChanged e) s t
          ∧ OnlyChanges [.clock, .endOf e, .portOf .portA, .portOf .portB] s t)
      ∧ (s.asleep = false →
          let u := (({ s with now := max s.now d }).modEnd e fun l =>
            { l with sense := l.rawSense, debounce := none }).raise (.couplingChanged e)
          t = (u.linkBySense e).reportEnd e (s.lineEnd e).link)
      ∧ (s.asleep = false → (s.lineEnd e).rawSense = .opened → (t.lineEnd e).link = .opened
          ∧ (t.lineEnd e).sending = none ∧ (t.lineEnd e).twinWindow = none ∧ (t.lineEnd e).linkIdle = none
          ∧ (t.lineEnd e).keepalive = none)
      ∧ (s.asleep = false → (s.lineEnd e).rawSense = .closed → (s.lineEnd e).link = .opened →
          (t.lineEnd e).link = .joining ∧ (t.lineEnd e).lastAccepted = 0
          ∧ (t.lineEnd e).pairA.health = .healthy ∧ (t.lineEnd e).pairA.miss = 0
          ∧ (t.lineEnd e).pairB.health = .healthy ∧ (t.lineEnd e).pairB.miss = 0
          ∧ (t.lineEnd e).linkIdle = some (t.now + 200000) ∧ (t.lineEnd e).keepalive = some (t.now + 50000))

/-- A start of a copy, an idle line, a bad copy, a stray and a lost copy change the counts of their pair or End as
their rules say, and nothing else of the node. That the end of a copy alone, with no start before it, wakes no STABLED
node is the model's choice (log 6): the start is the wake cause. -/
def Obligations.BadStrayAndLostCopiesOnlyCount : Prop :=
  ∀ (s : State) (e : EndId) (p : Pair), s.power.held = false →
    let l := s.lineEnd e
    let counted := { l.pair p with frameErrors := min 255 ((l.pair p).frameErrors + 1) }
    (s.asleep = false → ∃ t, exec (.copyStart e p) s = .next t ∧ OnlyChanges [.endOf e] s t
      ∧ t.lineEnd e = l.modPair p fun _ =>
          { (if (l.pair p).receiver = .assembling then counted else l.pair p) with receiver := .assembling })
    ∧ (∃ t, exec (.lineIdleAbort e p) s = .next t ∧ OnlyChanges [.endOf e] s t
      ∧ t.lineEnd e = l.modPair p fun _ =>
          { (if (l.pair p).receiver = .assembling ∧ s.asleep = false then counted else l.pair p) with
            receiver := .idle })
    ∧ ∀ bytes : List Byte,
      (CopyReaches s e p → checkCopy bytes = none →
        ∃ t, exec (.copyReceived e p bytes) s = .next t ∧ OnlyChanges [.endOf e] s t
          ∧ t.lineEnd e = l.modPair p fun _ => { counted with receiver := .idle })
      ∧ (∀ c, CopyReaches s e p → checkCopy bytes = some c → l.link = .opened →
        ∃ t, exec (.copyReceived e p bytes) s = .next t ∧ OnlyChanges [.endOf e] s t
          ∧ t.lineEnd e = { l.modPair p (fun x => { x with receiver := .idle }) with
              strayCount := min 255 (l.strayCount + 1) })
      ∧ (¬CopyReaches s e p → ∃ t, exec (.copyReceived e p bytes) s = .next t ∧ OnlyChanges [.endOf e] s t
          ∧ t.lineEnd e = l.modPair p fun x => { x with receiver := .idle })

/-- The first copy of a frame closes the window before it with a miss of the pair still awaited, is accepted, credits
its pair, opens a Twin Window of 2 ms for the other pair, makes the End usable, reports a change of the End, and then
hands the frame on; an IDLE is consumed there and has no effect. -/
def Obligations.TheFirstCopyOfAFrameIsHandedOn : Prop :=
  (∀ (s : State) (e : EndId) (p : Pair) (bytes : List Byte) (c : IntactCopy), CopyReaches s e p →
    checkCopy bytes = some c → (s.lineEnd e).link ≠ .opened → c.sequence ≠ (s.lineEnd e).lastAccepted →
    let u := (((s.setReceiver e p .idle).hearCopy e).acceptCopy e p c.sequence).reportEnd e (s.lineEnd e).link
    let before := fun q : Pair =>
      if q = p then { (s.lineEnd e).pair q with receiver := .idle } else (s.lineEnd e).pair q
    let closed := fun q : Pair =>
      if (s.lineEnd e).twinWindow.map (·.awaited) = some q then (before q).missed else before q
    ∃ t, exec (.copyReceived e p bytes) s = .next t ∧ t = u.handOn e c.frame
      ∧ (t.lineEnd e).lastAccepted = c.sequence
      ∧ (t.lineEnd e).twinWindow = some { awaited := p.other, deadline := s.now + 2000 }
      ∧ (t.lineEnd e).linkIdle = some (s.now + 200000) ∧ (t.lineEnd e).link.usable = true
      ∧ (t.lineEnd e).pair p = (closed p).credit ∧ (t.lineEnd e).pair p.other = closed p.other
      ∧ (t.lineEnd e).link = (if ((closed p).credit).health = .healthy ∧ (closed p.other).health = .healthy then .up
          else .degraded)
      ∧ ((t.lineEnd e).pair p).miss = 0 ∧ (u.lineEnd e).link = (t.lineEnd e).link
      ∧ OnlyChanges (.moments :: roleBlocks) s t
      ∧ (u.usable e = s.usable e → (u.inaug, u.cycle, u.door, u.track, u.grants, u.stage)
          = (s.inaug, s.cycle, s.door, s.track, s.grants, s.stage)))
  ∧ ∀ (s : State) (e : EndId) (f : Frame), f.kind = .idle → s.handOn e f = s

/-- A twin is credited where a Twin Window is open for its pair and changes no accepted sequence; a Twin Window that
runs out makes the awaited pair miss (the clock at an expiry is the model's: log 2). -/
def Obligations.TwinsAreCreditedAndMissedTwinsCount : Prop :=
  (∀ (s : State) (e : EndId) (p : Pair) (bytes : List Byte) (c : IntactCopy), CopyReaches s e p →
    checkCopy bytes = some c → (s.lineEnd e).link ≠ .opened → c.sequence = (s.lineEnd e).lastAccepted →
    let x := { (s.lineEnd e).pair p with receiver := .idle }
    let awaited := (s.lineEnd e).twinWindow.map (·.awaited) = some p
    ∃ t, exec (.copyReceived e p bytes) s = .next t
      ∧ (t.lineEnd e).lastAccepted = (s.lineEnd e).lastAccepted
      ∧ (t.lineEnd e).linkIdle = some (s.now + 200000) ∧ (t.lineEnd e).link.usable = true
      ∧ (awaited → (t.lineEnd e).pair p = x.credit ∧ (t.lineEnd e).twinWindow = none)
      ∧ (¬awaited → (t.lineEnd e).pair p = x ∧ (t.lineEnd e).twinWindow = (s.lineEnd e).twinWindow)
      ∧ (t.lineEnd e).pair p.other = (s.lineEnd e).pair p.other
      ∧ OnlyChanges roleBlocks s t
      ∧ (s.usable e = true → OnlyChanges [.endOf e, .portOf .portA, .portOf .portB] s t))
  ∧ ∀ (s : State) (e : EndId) (w : TwinWindow), s.power.held = false → (s.lineEnd e).twinWindow = some w →
    ∃ t, exec (.twinWindowExpiry e) s = .next t ∧ t.now = max s.now w.deadline
      ∧ (t.lineEnd e).twinWindow = none
      ∧ (t.lineEnd e).pair w.awaited = ((s.lineEnd e).pair w.awaited).missed
      ∧ (t.lineEnd e).pair w.awaited.other = (s.lineEnd e).pair w.awaited.other
      ∧ (t.lineEnd e).slots = (s.lineEnd e).slots ∧ (t.lineEnd e).throughQueue = (s.lineEnd e).throughQueue
      ∧ OnlyRaises s t ∧ OnlyChanges [.clock, .endOf e, .portOf .portA, .portOf .portB] s t

/-- The Link Idle Timer's expiry takes an End to DOWN, raises Link Down and reports the change; at an UNASSIGNED node it
empties and counts the Through Queue and leaves the rest of the End and of the inauguration alone. The keepalive timer's
expiry puts an IDLE in its slot, and the end of a transmission frees the transmitter and restarts that timer at 50 ms
(the clock at an expiry is the model's: log 2). -/
def Obligations.LinkTimersTakeAnEndDownAndKeepItAlive : Prop :=
  (∀ (s : State) (e : EndId) (d : Nat), s.power.held = false → (s.lineEnd e).linkIdle = some d →
    (s.lineEnd e).link = .joining ∨ (s.lineEnd e).link.usable = true →
    ∃ t, exec (.linkIdleExpiry e) s = .next t ∧ t.now = max s.now d ∧ (t.lineEnd e).link = .down
      ∧ t = (({ s with now := max s.now d }).enterDown e).reportEnd e (s.lineEnd e).link
      ∧ (t.lineEnd e).linkIdle = none ∧ RaisedAt .linkDown t ∧ OnlyChanges (.clock :: roleBlocks) s t
      ∧ (s.inaug.role = .unassigned → t.inaug = s.inaug ∧ t.lineEnd e.other = s.lineEnd e.other
          ∧ t.lineEnd e = { s.lineEnd e with
              link := .down, linkIdle := none, throughQueue := []
              throughDrop := min 255 ((s.lineEnd e).throughDrop + (s.lineEnd e).throughQueue.length) }))
  ∧ ∀ (s : State) (e : EndId), s.power.held = false → s.asleep = false →
    (∀ d, (s.lineEnd e).keepalive = some d → ∃ t, exec (.keepaliveExpiry e) s = .next t ∧ t.now = max s.now d
      ∧ (t.lineEnd e).keepalive = none
      ∧ (t.lineEnd e).slots.keepalive =
          { (s.lineEnd e).slots.keepalive with
            slot := some ((s.lineEnd e).slots.keepalive.slot.getD { kind := .idle, payload := [] }) }
      ∧ t.lineEnd e = { s.lineEnd e with slots := (t.lineEnd e).slots, keepalive := none }
      ∧ OnlyChanges [.clock, .endOf e] s t)
    ∧ ∀ bytes, (s.lineEnd e).sending = some bytes → ∃ t, exec (.transmitComplete e) s = .next t
      ∧ t.lineEnd e = { s.lineEnd e with sending := none, keepalive := some (s.now + 50000) }
      ∧ OnlyChanges [.endOf e] s t

/-- The arbiter takes, at an End that is not OPEN and whose transmitter is free, the next frame in its order, and the
transmitter numbers it with the next transmit sequence and sends it with its CRC. The frame leaves its slot, where a held
frame moves in, its queue, or its offer, which ends with the last End that takes it. A source's frame goes into its slot,
or is held while the slot is full, in place of one already held; at an OPEN End it is discarded. An End that stops being
usable takes a waiting offer and discards it at that moment, before the node acts on the change (at an End that enters DOWN
or JOINING that order is the model's: log 30): a broadcast that waits there alone completes SENT, the deadline of a unicast
starts where the node keeps its consist, as a member does that loses its tail-ward End, or has none, and a NOTE is lost. The
leaving of a head's own CALL records its moment and starts the Cycle Timeout, the period timer and the refresh timer; that
of a head's own ORDER sets First Sent where it is still clear, and that of a RELEASE sets Last Release Sent and takes the
proof back; every other leaving leaves the head parts alone (how the model tells a head's own frame: log 16; a node that is
not HEADING records no leaving: log 38). -/
def Obligations.TheArbiterSendsTheNextFrameInOrder : Prop :=
  (∀ (s : State) (e : EndId), s.power.held = false → s.asleep = false →
    (∀ f, (s.lineEnd e).link ≠ .opened → (s.lineEnd e).sending = none → NextFrame s e f →
      ∃ t, exec (.arbiterTake e) s = .next t
        ∧ (t.lineEnd e).txSequence = nextWrap 255 (s.lineEnd e).txSequence
        ∧ (t.lineEnd e).sending = some (f.wire (nextWrap 255 (s.lineEnd e).txSequence))
        ∧ t.power = s.power ∧ t.inaug = s.inaug ∧ t.grants = s.grants ∧ t.stage = s.stage
        ∧ t.lineEnd e.other = s.lineEnd e.other
        ∧ OnlyChanges [.endOf e, .moments, .cycle, .door, .tracking, .messages, .portOf .portA, .portOf .portB] s t
        ∧ (∀ x, (s.lineEnd e).slots.first = some (x, f) →
            t.lineEnd e = { s.lineEnd e with
              slots := (s.lineEnd e).slots.set x { slot := ((s.lineEnd e).slots.get x).held, held := none }
              txSequence := (t.lineEnd e).txSequence, sending := (t.lineEnd e).sending }
            ∧ t.msg = s.msg
            ∧ (let m : Moment := { time := s.now, order := s.moments + 1 }
              let o := OrderFrame.ofPayload f.payload
              let ownCall := fun a : ActiveConsist => x = .cycle ∧ f.kind = .call
                ∧ identityAt f.payload 0 = a.identity ∧ num16 f.payload 6 = s.cycle.number
              let ownOrder := fun a : ActiveConsist => x = .door ∧ f.kind = .order ∧ o.identity.head = a.identity.head
              (∀ a, s.active = some a → s.heading = true → e = a.headward.other →
                (ownCall a → t.moments = s.moments + 1 ∧ (t.door, t.track) = (s.door, s.track) ∧ NoEvent s t
                  ∧ t.cycle = { s.cycle with
                      lastCallLeft := some m
                      cycleTimeout := if a.length = 1 then none else some (s.now + (10 + a.length) * 1000)
                      periodTimer := some (s.now + s.cycle.timing.cyclePeriod * 1000)
                      refreshTimer := some (s.now + s.cycle.timing.quietRefresh * 1000) })
                ∧ (ownOrder a → t.moments = s.moments + 1 ∧ t.cycle = s.cycle
                  ∧ t.track.outstanding = s.track.outstanding.map (fun r =>
                      if r.id = o.id ∧ o.identity = a.identity ∧ r.firstSent = none then { r with firstSent := some m }
                      else r)
                  ∧ t.track.lastProved = s.track.lastProved
                  ∧ (o.action = 1 → t.door = { s.door with lastReleaseSent := some m }
                    ∧ t.track.proved = false ∧ t.track.lifetime = none)
                  ∧ (o.action ≠ 1 → t.door = s.door ∧ NoEvent s t
                    ∧ (t.track.proved, t.track.lifetime) = (s.track.proved, s.track.lifetime))))
              ∧ (s.heading = false
                  ∨ (∀ a, s.active = some a → e ≠ a.headward.other ∨ ¬ownCall a ∧ ¬ownOrder a) →
                (t.cycle, t.door, t.track) = (s.cycle, s.door, s.track) ∧ t.moments = s.moments ∧ NoEvent s t)))
        ∧ ((s.lineEnd e).slots.first = none →
            t.lineEnd e = { s.lineEnd e with
              throughQueue := (s.lineEnd e).throughQueue.drop 1
              txSequence := (t.lineEnd e).txSequence, sending := (t.lineEnd e).sending }
            ∧ (t.cycle, t.door, t.track) = (s.cycle, s.door, s.track) ∧ NoEvent s t
            ∧ ((s.lineEnd e).throughQueue ≠ [] → t.msg = s.msg)
            ∧ ((s.lineEnd e).throughQueue = [] → t.offeredTo e = none ∧ t.offeredTo e.other = s.offeredTo e.other
              ∧ ∀ o, s.msg.offer = some o →
                t.msg.offer = (if o.waitsAt e.other then some (o.takenAt e) else none)
                ∧ (∀ n, o.kind = .unicast n → t.msg = { s.msg with
                    offer := t.msg.offer
                    inFlight := s.msg.inFlight.map fun x =>
                      if x.buffer = n then { x with deadline := some (s.now + 250000) } else x })
                ∧ (o.kind = .note ∨ o.waitsAt e.other = true → t.msg.buffers = s.msg.buffers)
                ∧ ∀ n, o.kind = .broadcast n → o.waitsAt e.other = false → n < s.msg.buffers.length →
                    ∀ p, (s.buffer n).state.owner = some p → t.bufferState n = .inbound p
                      ∧ (t.buffer n).bytes = (s.buffer n).bytes.set 7 5
                      ∧ t.queues p = { s.queues p with inbound := (s.queues p).inbound ++ [n] })))
    ∧ ((s.lineEnd e).link = .opened ∨ (s.lineEnd e).sending ≠ none → exec (.arbiterTake e) s = .next s))
  ∧ ∀ (s : State) (e : EndId) (x : Source) (f : Frame),
    let old := (s.lineEnd e).slots.get x
    ((s.lineEnd e).link = .opened → s.place e x f = s)
    ∧ ((s.lineEnd e).link ≠ .opened → OnlyChanges [.endOf e] s (s.place e x f)
      ∧ (s.place e x f).lineEnd e = { s.lineEnd e with
          slots := (s.lineEnd e).slots.set x
            (if old.slot = none then { slot := some f, held := old.held }
             else { slot := old.slot, held := some f }) })
  ∧ ∀ (s : State) (e : EndId) (old : LinkState) (o : Offer), (s.lineEnd e).link ≠ old → s.usable e = false →
    s.msg.offer = some o → o.waitsAt e = true →
    let t := s.reportEnd e old
    t.offeredTo e = none
    ∧ (o.waitsAt e.other = false → t.msg.offer = none)
    ∧ (∀ n p, o.kind = .broadcast n → o.waitsAt e.other = false → n < s.msg.buffers.length →
        (∀ x ∈ s.msg.inFlight, x.buffer ≠ n) → (s.buffer n).state.owner = some p →
        t.bufferState n = .inbound p ∧ (t.buffer n).bytes = (s.buffer n).bytes.set 7 5)
    ∧ (∀ n, o.kind = .unicast n →
        s.inaug.role = .unassigned ∨ (∃ a, s.active = some a ∧ s.heading = false ∧ e = a.headward.other) →
        t.msg = { s.msg with
          offer := if o.waitsAt e.other then some (o.takenAt e) else none
          inFlight := s.msg.inFlight.map fun x =>
            if x.buffer = n then { x with deadline := some (s.now + 250000) } else x })

/-- End Reset of a named End stops its transmission, cancels its window, discards the copies in assembly uncounted, empties
its Through Queue, slots and held frames, clears its counts and sequences, makes its pairs HEALTHY and sets its link state
from the debounced sense, which it leaves alone. The change is reported as any other: at the head-ward End it takes a member
out of its consist, at the tail-ward End it makes a head begin a re-inauguration, whose frames alone then stand in the
slots. An operand that names no End is refused with RANGE (the model's choice: log 40). -/
def Obligations.EndResetStartsOneEndAfresh : Prop :=
  ∀ (s : State) (p : PortId), Admitted s p none →
    (∀ e, s.operandNum p 1 = (match e with | .end1 => 1 | .end2 => 2) → ∃ t, exec (.endReset p) s = .next t
      ∧ Answered (s.port p) (t.port p) .done none 0
      ∧ (t.lineEnd e).link = (if (s.lineEnd e).sense = .closed then .joining else .opened)
      ∧ (t.lineEnd e).sense = (s.lineEnd e).sense ∧ (t.lineEnd e).debounce = (s.lineEnd e).debounce
      ∧ (t.lineEnd e).sending = none ∧ (t.lineEnd e).twinWindow = none ∧ (t.lineEnd e).strayCount = 0
      ∧ (t.lineEnd e).lastAccepted = 0 ∧ (t.lineEnd e).txSequence = 0
      ∧ (∀ q, ((t.lineEnd e).pair q).health = .healthy ∧ ((t.lineEnd e).pair q).miss = 0
          ∧ ((t.lineEnd e).pair q).recovery = 0 ∧ ((t.lineEnd e).pair q).frameErrors = 0)
      ∧ (t.lineEnd e).linkIdle = (if (s.lineEnd e).sense = .closed then some (s.now + 200000) else none)
      ∧ (t.lineEnd e).keepalive = (if (s.lineEnd e).sense = .closed then some (s.now + 50000) else none)
      ∧ (t.lineEnd e).throughQueue = [] ∧ (t.lineEnd e).throughDrop = 0
      ∧ (∀ x, x ≠ .inauguration → (t.lineEnd e).slots.get x = .empty) ∧ (t.lineEnd e).slots.inauguration.held = none
      ∧ (∀ q, t.receiver e q = if s.receiver e q = .assembling then .discarding else s.receiver e q)
      ∧ (∀ a, s.active = some a → s.heading = false → e = a.headward → s.usable e = true →
          t.inaug.role = .unassigned ∧ t.inaug.lastCause = some .headWardLoss ∧ (t.lineEnd e).slots = .empty)
      ∧ (∀ a, s.active = some a → s.heading = false → e = a.headward.other →
          t.inaug = s.inaug ∧ (t.lineEnd e).slots = .empty
          ∧ (s.usable e = true → s.usable a.headward = true → SlotFree s a.headward .wake →
            (s.lineEnd a.headward).throughQueue = [] → InSlot t a.headward .wake { kind := .wake, payload := [2] }))
      ∧ (∀ a, s.active = some a → s.heading = true → e = a.headward.other → s.usable e = true →
          s.claimHeadward = some a.headward → (s.lineEnd e).sense = .closed →
          t.claiming = true ∧ t.inaug.attempt = 1
          ∧ InSlot t e .inauguration (CountFrame.frame
              { head := s.power.record.vehicle, attempt := 1, next := 2
                timeout := s.cycle.timing.inaugurationTimeout }))
      ∧ OnlyChanges roleBlocks s t ∧ (t.lineEnd e.other).link = (s.lineEnd e.other).link
      ∧ (s.inaug.role = .unassigned → t.inaug = s.inaug ∧ t.lineEnd e.other = s.lineEnd e.other
          ∧ (t.lineEnd e).slots = .empty ∧ (t.lineEnd e).throughQueue = [] ∧ (t.lineEnd e).throughDrop = 0))
    ∧ (s.operandNum p 1 ≠ 1 → s.operandNum p 1 ≠ 2 →
        ∃ t, exec (.endReset p) s = .next t ∧ RefusedAt p .range s t)

/-! ## Inauguration -/

/-- Claim Cab is refused with NOT_READY or STATE, fails with NOT_AT_END between two closed Ends, makes a lone head
where its tail-ward End is OPEN, and otherwise begins attempt 1: COUNTED at position 1, CLAIMING, a COUNT placed
toward the tail, the Inauguration Timer running, and the Hop Timer where the neighbour has yet to show itself. -/
def Obligations.ClaimCabBeginsAnAttempt : Prop :=
  ∀ (s : State) (p : PortId), Admitted s p (some .door) →
    ((s.ready = false ∨ s.power.record.cabFitted = false) →
      ∃ t, exec (.claimCab p) s = .next t ∧ RefusedAt p .notReady s t)
    ∧ (s.ready = true → s.power.record.cabFitted = true →
      ((s.claiming = true ∨ s.heading = true) → ∃ t, exec (.claimCab p) s = .next t ∧ RefusedAt p .state s t)
      ∧ (s.claiming = false → s.heading = false →
        (s.end1.sense = .closed → s.end2.sense = .closed → ∃ t, exec (.claimCab p) s = .next t
          ∧ t.inaug = { s.inaug with headRole := .claimFailed .notAtEnd } ∧ RaisedAt .claimResult t
          ∧ t.track = { s.track with outstanding := none } ∧ DoneAt p [.inauguration, .tracking] s t)
        ∧ ∀ head, (head = .end1 ∧ s.end1.sense = .opened
              ∨ head = .end2 ∧ s.end1.sense = .closed ∧ s.end2.sense = .opened) →
          let tail := head.other
          ∃ t, exec (.claimCab p) s = .next t ∧ Answered (s.port p) (t.port p) .done none 0
            ∧ OnlyChanges roleBlocks s t
            ∧ ((s.lineEnd tail).link = .opened → t.heading = true
                ∧ (t.active.map fun a => (a.position, a.length, a.headward)) = some (1, 1, head)
                ∧ RaisedAt .claimResult t ∧ RaisedAt .consistCommitted t)
            ∧ ((s.lineEnd tail).link ≠ .opened → t.inaug.headRole = .claiming ∧ t.inaug.attempt = 1
                ∧ t.inaug.role = .counted
                    { head := s.power.record.vehicle, attempt := 1, position := 1, headward := head
                      timeout := s.cycle.timing.inaugurationTimeout
                      stage := if (s.lineEnd tail).link.usable then .awaitingTally else .awaitingHop
                      noted := none }
                ∧ t.inaug.inaugurationTimer = some (s.now + s.cycle.timing.inaugurationTimeout * 1000)
                ∧ t.inaug.hopTimer = (if (s.lineEnd tail).link.usable then none else some (s.now + 100000))
                ∧ t.inaug.generation = s.inaug.generation
                ∧ (SlotFree s tail .inauguration → InSlot t tail .inauguration (CountFrame.frame
                    { head := s.power.record.vehicle, attempt := 1, next := 2
                      timeout := s.cycle.timing.inaugurationTimeout })))))

/-- Release Cab dissolves the consist of a HEADING node, drops the attempt of a CLAIMING one, clears a failed claim,
and is refused with STATE where no claim is held (log 32: the Line Silence field of a Dissolve). -/
def Obligations.ReleaseCabGivesTheClaimUp : Prop :=
  ∀ (s : State) (p : PortId), Admitted s p (some .door) →
    (s.inaug.headRole = .noClaim → ∃ t, exec (.releaseCab p) s = .next t ∧ RefusedAt p .state s t)
    ∧ (∀ a, s.heading = true → s.active = some a → ∃ t, exec (.releaseCab p) s = .next t
        ∧ Answered (s.port p) (t.port p) .done none 0 ∧ OnlyChanges roleBlocks s t
        ∧ t.inaug.role = .unassigned ∧ t.inaug.headRole = .noClaim ∧ t.inaug.lastCause = some .dissolve
        ∧ t.inaug.generation = s.inaug.generation ∧ RaisedAt .consistInvalidated t
        ∧ (SlotFree s a.tailward .inauguration → InSlot t a.tailward .inauguration
            (dissolveFrame { head := s.power.record.vehicle, generation := a.identity.generation })))
    ∧ (∀ r, s.claiming = true → s.counted = some r → ∃ t, exec (.releaseCab p) s = .next t
        ∧ Answered (s.port p) (t.port p) .done none 0 ∧ OnlyChanges roleBlocks s t
        ∧ t.inaug.role = .unassigned ∧ t.inaug.headRole = .noClaim ∧ t.inaug.lastCause = some .dissolve
        ∧ t.inaug.inaugurationTimer = none ∧ t.inaug.hopTimer = none
        ∧ (SlotFree s r.tailward .inauguration → InSlot t r.tailward .inauguration
            (dissolveFrame { head := s.power.record.vehicle, generation := 0 })))
    ∧ ∀ x, s.inaug.headRole = .claimFailed x → ∃ t, exec (.releaseCab p) s = .next t
        ∧ t.inaug = { s.inaug with headRole := .noClaim } ∧ t.track = { s.track with outstanding := none }
        ∧ DoneAt p [.inauguration, .tracking] s t

/-- A node that is no head and takes a valid COUNT becomes COUNTED at its Next Position with the End of arrival as its
head-ward End, waits for the COMMIT twice the Count Timeout, and answers by its tail-ward End: the COUNT goes on one
position higher, with the Hop Timer where the neighbour has yet to show itself, or the tail's TALLY with its own entry goes
back, or at position 33 a TALLY flagged TOO_LONG. A COUNT of another head on the tail-ward End of a COUNTED node, and any
COUNT at a head, is a contest. A COUNT whose fields are out of range has no effect. -/
def Obligations.ACountIsTakenAndAnswered : Prop :=
  ∀ (s : State) (e : EndId) (f : Frame), f.kind = .count →
    let c := CountFrame.ofPayload f.payload
    let t := s.handOn e f
    let tail := (s.lineEnd e.other).link
    (c.valid = false → t = s)
    ∧ (c.valid = true → s.claiming = false → s.heading = false →
      (∀ r, s.counted = some r → r.head = c.head ∨ e ≠ r.headward.other) →
      t.updateInProgress = true
      ∧ (∀ r, t.counted = some r → r.head = c.head ∧ r.attempt = c.attempt ∧ r.position = c.next
          ∧ r.headward = e ∧ r.timeout = c.timeout
          ∧ r.stage = (if c.next = 33 ∨ tail = .opened then .tallySent
              else if tail.usable then .awaitingTally else .awaitingHop)
          ∧ r.noted = (if c.next ≠ 33 ∧ tail = .opened then some c.next else none)
          ∧ t.inaug.hopTimer = (if r.stage = .awaitingHop then some (s.now + 100000) else none)
          ∧ (c.next = 33 → SlotFree s e .inauguration →
              InSlot t e .inauguration (tallyFrame c.head c.attempt 0 2 []))
          ∧ (c.next = 33 → (t.lineEnd e.other).slots.inauguration = (s.lineEnd e.other).slots.inauguration)
          ∧ (c.next ≠ 33 → tail = .opened → SlotFree s e .inauguration →
              InSlot t e .inauguration
                (tallyFrame c.head c.attempt c.next 0 (t.rosterEntry c.next e).bytes))
          ∧ (c.next ≠ 33 → SlotFree s e.other .inauguration →
              InSlot t e.other .inauguration
                (CountFrame.frame { head := c.head, attempt := c.attempt, next := c.next + 1, timeout := c.timeout })))
      ∧ t.inaug.commitWait = some (s.now + 2 * c.timeout * 1000)
      ∧ (s.valid = true → RaisedAt .consistInvalidated t ∧ t.inaug.lastCause = some .countReception)
      ∧ (∀ i, t.sideState i ≠ .released) ∧ t.msg.inFlight = []
      ∧ t.stage.ceiling = s.stage.ceiling ∧ t.stage.fallback = s.stage.fallback ∧ OnlyChanges roleBlocks s t)
    ∧ (c.valid = true → s.claiming = false → s.heading = false → ∀ r, s.counted = some r → r.head ≠ c.head →
      e = r.headward.other →
      t.inaug = { s.inaug with
          role := .unassigned, inaugurationTimer := none, hopTimer := none, commitWait := none
          lastCause := some .contest }
      ∧ RaisedAt .consistInvalidated t
      ∧ (SlotFree s r.headward .inauguration →
          InSlot t r.headward .inauguration (tallyFrame r.head r.attempt 0 4 []))
      ∧ (SlotFree s e .inauguration → InSlot t e .inauguration (tallyFrame c.head c.attempt 0 4 []))
      ∧ OnlyChanges [.inauguration, .endOf .end1, .endOf .end2, .cycle, .grants, .stages, .portOf .portA, .portOf .portB] s t)
    ∧ (c.valid = true → s.claiming = true ∨ s.heading = true →
      t.inaug.headRole = .claimFailed .contest ∧ RaisedAt .claimResult t ∧ t.track.outstanding = none
      ∧ t.inaug.role = .unassigned ∧ t.inaug.generation = s.inaug.generation
      ∧ (s.inaug.role ≠ .unassigned → t.inaug.lastCause = some .contest ∧ RaisedAt .consistInvalidated t
          ∧ t.inaug.inaugurationTimer = none ∧ t.inaug.hopTimer = none)
      ∧ (SlotFree s e .inauguration → InSlot t e .inauguration (tallyFrame c.head c.attempt 0 4 []))
      ∧ (SlotFree s e.other .inauguration → InSlot t e.other .inauguration
          (tallyFrame s.power.record.vehicle s.inaug.attempt 0 4 []))
      ∧ OnlyChanges roleBlocks s t)

/-- A TALLY flagged TOO_LONG or CONTEST is passed on unchanged, whatever the Tally Stage; after TOO_LONG the node stays
COUNTED with its Hop Timer stopped, after CONTEST it is UNASSIGNED. Which flag of several counts is the model's choice
(log 13: CONTEST, then TOO_LONG). -/
def Obligations.AFlaggedTallyIsPassedOnUnchanged : Prop :=
  ∀ (s : State) (r : CountRecord) (f : Frame), f.kind = .tally → s.claiming = false → s.counted = some r →
    num32 f.payload 0 = r.head → num8 f.payload 4 = r.attempt →
    let t := s.handOn r.headward.other f
    (TallyFlag.ofByte (byteAt f.payload 6) = .tooLong →
      t.inaug = { s.inaug with role := .counted { r with stage := .tallySent }, hopTimer := none }
      ∧ OnlyChanges [.inauguration, .endOf r.headward] s t
      ∧ t.lineEnd r.headward = (s.place r.headward .inauguration f).lineEnd r.headward
      ∧ (SlotFree s r.headward .inauguration → InSlot t r.headward .inauguration f))
    ∧ (TallyFlag.ofByte (byteAt f.payload 6) = .contest →
      t.inaug = { s.inaug with
        role := .unassigned, inaugurationTimer := none, hopTimer := none, commitWait := none
        lastCause := some .contest }
      ∧ OnlyChanges [.inauguration, .endOf r.headward, .cycle, .grants, .stages, .portOf .portA, .portOf .portB] s t
      ∧ t.lineEnd r.headward = (s.place r.headward .inauguration f).lineEnd r.headward
      ∧ (SlotFree s r.headward .inauguration → InSlot t r.headward .inauguration f))

/-- A COMMIT that passes every check of R43 makes the node MEMBER of the consist it carries, at the counted position and
orientation, starts the silence timer, raises Consist Committed and goes on unchanged; every other COMMIT goes on unchanged too, and
leaves a counted node and a member UNASSIGNED with a Topology WAKE toward the head, and any other node as it was. On the way there an unflagged or TRUNCATED TALLY that a node awaits goes on
with the node's entry before the others, and at the claiming node a TALLY of the attempt ends the claim with CONTEST or
TOO_LONG (log 13: in that order; log 32: the Line Silence field of a Dissolve) or is committed; one that fails its checks is
discarded (log 26: a Length of 0 is noted as none; log 33: an abandoned attempt 1). At the commit the head's cycle starts
with its first CALL due at once; that the CALL is originated by a step of its own, and the commit's step leaves it due, is
log 5. -/
def Obligations.ACommitThatFitsMakesAMember : Prop :=
  (∀ (s : State) (r : CountRecord) (f : Frame), f.kind = .commit → s.claiming = false → s.heading = false →
    s.counted = some r → s.loading = false → num32 f.payload 0 = r.head → 1 ≤ r.position →
    let length := num8 f.payload 8
    let entries := commitEntries f.payload
    length ≤ 32 → r.position ≤ length → entries.map (·.position) = (List.range length).map (· + 1) →
    let t := s.handOn r.headward f
    let own := entries[r.position - 1]?
    let fits := own.map (fun x => (x.vehicle, x.orientation))
      = some (s.power.record.vehicle, orientationOf r.headward) ∧ (∀ n, r.noted = some n → n = length)
    (fits → t.active = some
        { identity := identityAt f.payload 0, length := length, entries := entries, position := r.position
          orientation := orientationOf r.headward, headward := r.headward, lineSilence := num16 f.payload 6 }
      ∧ t.inaug.silence = some (s.now + num16 f.payload 6 * 1000) ∧ t.inaug.commitWait = none
      ∧ t.inaug.hopTimer = none ∧ RaisedAt .consistCommitted t
      ∧ t.door = { s.door with trainDoorsOpen := false, lastReleaseSent := none }
      ∧ t.track = { s.track with proved := false, lifetime := none, lastProved := 0 }
      ∧ OnlyChanges [.inauguration, .cycle, .door, .tracking, .grants, .endOf r.headward.other, .portOf .portA
          , .portOf .portB] s t
      ∧ (SlotFree s r.headward.other .inauguration → InSlot t r.headward.other .inauguration f))
    ∧ (¬fits → t.inaug.role = .unassigned ∧ t.inaug.lastCause = some .commitRejected
      ∧ RaisedAt .consistInvalidated t
      ∧ OnlyChanges [.inauguration, .cycle, .grants, .stages, .endOf .end1, .endOf .end2, .portOf .portA, .portOf .portB] s t
      ∧ (SlotFree s r.headward.other .inauguration → InSlot t r.headward.other .inauguration f)))
  ∧ (∀ (s : State) (e : EndId) (f : Frame), f.kind = .commit → num8 f.payload 8 ≠ 0 →
    let t := s.handOn e f
    let accepted := fun r : CountRecord =>
      e = r.headward ∧ num32 f.payload 0 = r.head ∧ s.loading = false ∧ num8 f.payload 8 ≤ 32
      ∧ r.position ≤ num8 f.payload 8
      ∧ (commitEntries f.payload).map (·.position) = (List.range (num8 f.payload 8)).map (· + 1)
      ∧ ((commitEntries f.payload)[r.position - 1]?).map (fun x => (x.vehicle, x.orientation))
        = some (s.power.record.vehicle, orientationOf r.headward)
      ∧ ∀ n, r.noted = some n → n = num8 f.payload 8
    let rejected := fun headward : EndId =>
      t.inaug.role = .unassigned ∧ t.inaug.lastCause = some .commitRejected ∧ RaisedAt .consistInvalidated t
      ∧ t.inaug.hopTimer = none ∧ t.inaug.commitWait = none ∧ t.inaug.inaugurationTimer = none
      ∧ (SlotFree s e.other .inauguration → InSlot t e.other .inauguration f)
      ∧ (s.usable headward = true → SlotFree s headward .wake → (s.lineEnd headward).throughQueue = [] →
          InSlot t headward .wake { kind := .wake, payload := [2] })
    (s.claiming = true ∨ s.heading = true ∧ s.counted = none ∨ s.inaug.role = .unassigned →
      t = s.place e.other .inauguration f)
    ∧ (∀ r, s.counted = some r → s.claiming = false → s.heading = false → ¬accepted r → rejected r.headward
        ∧ OnlyChanges [.inauguration, .cycle, .grants, .stages, .endOf .end1, .endOf .end2, .portOf .portA
            , .portOf .portB] s t)
    ∧ ∀ a, s.active = some a → s.claiming = false → s.heading = false → rejected a.headward
        ∧ t.inaug.silence = none ∧ (∀ i, t.sideState i ≠ .released) ∧ t.stage.fallback = true
        ∧ OnlyChanges roleBlocks s t)
  ∧ (∀ (s : State) (e : EndId) (f : Frame), f.kind = .tally → s.claiming = false →
    (∀ r, s.counted = some r → e ≠ r.headward.other ∨ num32 f.payload 0 ≠ r.head ∨ num8 f.payload 4 ≠ r.attempt) →
      s.handOn e f = s)
  ∧ (∀ (s : State) (r : CountRecord) (f : Frame), f.kind = .tally → s.claiming = false → s.counted = some r →
    num32 f.payload 0 = r.head → num8 f.payload 4 = r.attempt →
    hasBit (byteAt f.payload 6) 1 = false → hasBit (byteAt f.payload 6) 2 = false →
    let t := s.handOn r.headward.other f
    let awaited := r.stage = .awaitingTally
      ∧ (tallyEntries f.payload).head?.map (·.position) = some (r.position + 1)
    let length := num8 f.payload 5
    (¬awaited → t = s)
    ∧ (awaited →
      t.inaug = { s.inaug with
        role := .counted { r with stage := .tallySent, noted := if length = 0 then none else some length } }
      ∧ (SlotFree s r.headward .inauguration → InSlot t r.headward .inauguration
          { kind := .tally
            payload := f.payload.take 7 ++ (s.rosterEntry r.position r.headward).bytes ++ f.payload.drop 7 })
      ∧ OnlyChanges [.inauguration, .endOf r.headward] s t))
  ∧ ∀ (s : State) (r : CountRecord) (e : EndId) (f : Frame), f.kind = .tally → s.claiming = true →
    s.counted = some r →
    let t := s.handOn e f
    let taken := e = r.headward.other ∧ num32 f.payload 0 = s.power.record.vehicle
      ∧ num8 f.payload 4 = s.inaug.attempt
    let contest := hasBit (byteAt f.payload 6) 2
    let tooLong := hasBit (byteAt f.payload 6) 1
    let length := num8 f.payload 5
    let entries := tallyEntries f.payload
    let fits := 2 ≤ length ∧ length ≤ 32 ∧ entries.map (·.position) = (List.range (length - 1)).map (· + 2)
    let ended := fun (cause : LeaveCause) (why : ClaimFailure) =>
      { s.inaug with
        role := .unassigned, headRole := .claimFailed why, lastCause := some cause
        inaugurationTimer := none, hopTimer := none, commitWait := none }
    (¬taken → t = s)
    ∧ (taken → contest = true → t.inaug = ended .contest .contest ∧ RaisedAt .claimResult t
      ∧ t.track = { s.track with outstanding := none } ∧ t.lineEnd e = s.lineEnd e)
    ∧ (taken → contest = false → tooLong = true → t.inaug = ended .claimEnded .tooLong ∧ RaisedAt .claimResult t
      ∧ t.track = { s.track with outstanding := none }
      ∧ (SlotFree s e .inauguration → InSlot t e .inauguration
          (dissolveFrame { head := s.power.record.vehicle, generation := 0 })))
    ∧ (taken → contest = false → tooLong = false → ¬fits → t = s)
    ∧ (taken → contest = false → tooLong = false → fits →
      let a : ActiveConsist :=
        { identity := { head := s.power.record.vehicle, generation := nextWrap 65535 s.inaug.generation }
          length := length, entries := s.rosterEntry 1 r.headward :: entries, position := 1
          orientation := orientationOf r.headward, headward := r.headward
          lineSilence := s.cycle.timing.lineSilence }
      t.inaug = { s.inaug with
          role := .member a, headRole := .heading, generation := a.identity.generation
          truncated := hasBit (byteAt f.payload 6) 0
          inaugurationTimer := none, hopTimer := none, commitWait := none }
      ∧ RaisedAt .consistCommitted t ∧ RaisedAt .claimResult t
      ∧ t.cycle.state = .idleContinuous ∧ t.cycle.number = 0 ∧ t.cycle.failures = 0
      ∧ t.cycle.callRequested = false ∧ t.cycle.periodTimer = none
      ∧ t.grants.inUse = true ∧ t.grants.room = 0 ∧ t.grants.budget = s.grants.budget
      ∧ t.grants.table = a.entries.map (fun x =>
          { grant := 0, lastDemand := 0, lastApplied := 0, effectiveClass := x.priority, seeded := false
            withheld := false })
      ∧ t.door = { s.door with trainDoorsOpen := false, lastReleaseSent := none }
      ∧ t.track = { outstanding := none, proved := false, lifetime := none, lastProved := 0 }
      ∧ (SlotFree s e .inauguration → InSlot t e .inauguration
          (commitFrame a.identity a.lineSilence length a.entries))
      ∧ OnlyChanges [.inauguration, .cycle, .door, .tracking, .grants, .endOf e, .portOf .portA, .portOf .portB] s t)

/-- R47: a Dissolve on the head-ward End of a COUNTED or MEMBER node of its head takes the node out; one that is not
taken changes nothing at the node; both go on unchanged on the End opposite. -/
def Obligations.ADissolveTakesItsNodesOut : Prop :=
  ∀ (s : State) (e : EndId) (f : Frame), f.kind = .commit → num8 f.payload 8 = 0 →
    let t := s.handOn e f
    let taken := s.claiming = false ∧ s.heading = false
      ∧ ((∃ r, s.counted = some r ∧ e = r.headward ∧ r.head = num32 f.payload 0)
        ∨ ∃ a, s.active = some a ∧ e = a.headward ∧ a.identity.head = num32 f.payload 0)
    (taken → t.inaug.role = .unassigned ∧ t.inaug.lastCause = some .dissolve
      ∧ t.inaug.hopTimer = none ∧ t.inaug.commitWait = none ∧ t.inaug.inaugurationTimer = none
      ∧ (s.valid = true → t.inaug.silence = none) ∧ RaisedAt .consistInvalidated t
      ∧ t.lineEnd e = s.lineEnd e ∧ t.lineEnd e.other = (s.place e.other .inauguration f).lineEnd e.other
      ∧ OnlyChanges roleBlocks s t)
    ∧ (¬taken → t = s.place e.other .inauguration f)
    ∧ (SlotFree s e.other .inauguration → InSlot t e.other .inauguration f)

/-- The Hop Timer's expiry makes a counting node the tail of a truncated count and a claiming node a lone head with
truncation; the Inauguration Timer's expiry at attempt 1 or 2 advances the attempt number by 1 and begins the next attempt
with the Ends judged afresh: between two closed Ends the claim fails with NOT_AT_END, at an OPEN tail-ward End the node is a
lone head, and otherwise its COUNT carries the next attempt number; after the third attempt the claim fails with TIMEOUT (the
clock at an expiry is the model's: log 2; that the attempt number keeps its value once the claim has ended is read from the
rules: log 14). Changes of an End act on a count as well: a COUNTED node leaves it on losing its head-ward End, and a change
at its tail-ward End ends the wait for the neighbour or for the TALLY, with a Topology WAKE; a claiming node fails with
NOT_AT_END when its head-ward End leaves OPEN, and a change at its tail-ward End ends the Hop Timer's wait or begins the claim
again (log 32: the Line Silence field of a Dissolve). -/
def Obligations.ClaimTimersTruncateRepeatAndFail : Prop :=
  (∀ (s : State) (d : Nat), s.power.held = false →
    (s.inaug.hopTimer = some d →
      (∀ r, s.counted = some r → s.claiming = false → ∃ t, exec .hopTimerExpiry s = .next t
        ∧ t.inaug = { s.inaug with
            role := .counted { r with stage := .tallySent, noted := some r.position }, hopTimer := none }
        ∧ (SlotFree s r.headward .inauguration → InSlot t r.headward .inauguration
            (tallyFrame r.head r.attempt r.position 1 (s.rosterEntry r.position r.headward).bytes))
        ∧ OnlyChanges [.clock, .inauguration, .endOf r.headward] s t)
      ∧ (∀ r, s.counted = some r → s.claiming = true → ∃ t, exec .hopTimerExpiry s = .next t
        ∧ t.heading = true ∧ t.inaug.truncated = true ∧ t.inaug.inaugurationTimer = none
        ∧ t.inaug.generation = nextWrap 65535 s.inaug.generation
        ∧ t.active.map (·.length) = some 1 ∧ RaisedAt .claimResult t
        ∧ OnlyChanges (.clock :: roleBlocks) s t))
    ∧ (s.inaug.inaugurationTimer = some d → s.claiming = true →
      (s.inaug.attempt < 3 →
        (s.end1.sense = .closed → s.end2.sense = .closed → s.updateInProgress = true → ∃ t,
          exec .inaugurationTimerExpiry s = .next t
          ∧ t.inaug = { s.inaug with
              attempt := s.inaug.attempt + 1
              role := .unassigned, headRole := .claimFailed .notAtEnd, lastCause := some .claimEnded
              inaugurationTimer := none, hopTimer := none, commitWait := none }
          ∧ t.track.outstanding = none ∧ RaisedAt .claimResult t ∧ OnlyChanges
            [.clock, .inauguration, .cycle, .tracking, .grants, .stages, .portOf .portA, .portOf .portB] s t)
        ∧ ∀ head, (head = .end1 ∧ s.end1.sense = .opened
              ∨ head = .end2 ∧ s.end1.sense = .closed ∧ s.end2.sense = .opened) →
          let tail := head.other
          ∃ t, exec .inaugurationTimerExpiry s = .next t ∧ t.inaug.attempt = s.inaug.attempt + 1
            ∧ t.headward = some head ∧ t.ownPosition = some 1 ∧ OnlyChanges (.clock :: roleBlocks) s t
            ∧ ((s.lineEnd tail).link = .opened → t.heading = true ∧ t.inaug.truncated = false
                ∧ t.active.map (·.length) = some 1 ∧ t.inaug.generation = nextWrap 65535 s.inaug.generation
                ∧ t.inaug.inaugurationTimer = none ∧ RaisedAt .claimResult t ∧ RaisedAt .consistCommitted t)
            ∧ ((s.lineEnd tail).link ≠ .opened → t.inaug.headRole = .claiming
                ∧ t.inaug.inaugurationTimer = some (max s.now d + s.cycle.timing.inaugurationTimeout * 1000)
                ∧ t.inaug.hopTimer =
                    (if (s.lineEnd tail).link.usable then none else some (max s.now d + 100000))
                ∧ t.inaug.generation = s.inaug.generation
                ∧ (SlotFree s tail .inauguration → InSlot t tail .inauguration (CountFrame.frame
                    { head := s.power.record.vehicle, attempt := s.inaug.attempt + 1, next := 2
                      timeout := s.cycle.timing.inaugurationTimeout }))))
      ∧ (3 ≤ s.inaug.attempt → s.updateInProgress = true → ∃ t, exec .inaugurationTimerExpiry s = .next t
        ∧ t.inaug.headRole = .claimFailed .timeout ∧ t.inaug.role = .unassigned ∧ t.inaug.attempt = s.inaug.attempt
        ∧ t.inaug.inaugurationTimer = none ∧ t.inaug.hopTimer = none ∧ t.track.outstanding = none
        ∧ RaisedAt .claimResult t ∧ OnlyChanges
          [.clock, .inauguration, .cycle, .tracking, .grants, .stages, .portOf .portA, .portOf .portB] s t)))
  ∧ (∀ (s : State) (r : CountRecord) (old : LinkState), s.counted = some r → s.claiming = false →
    (old.usable = true → s.usable r.headward = false →
      let t := s.reportEnd r.headward old
      t.inaug = { s.inaug with
          role := .unassigned, inaugurationTimer := none, hopTimer := none, commitWait := none
          lastCause := some .headWardLoss }
      ∧ RaisedAt .consistInvalidated t
      ∧ OnlyChanges [.inauguration, .cycle, .grants, .stages, .messages, .portOf .portA, .portOf .portB] s t)
    ∧ (let e := r.headward.other
      let new := (s.lineEnd e).link
      let t := s.reportEnd e old
      let gained := old.usable = false ∧ new.usable = true
      let lost := old.usable = true ∧ new.usable = false
      let opened := old ≠ .opened ∧ new = .opened
      let tally := fun flag : Byte =>
        tallyFrame r.head r.attempt r.position flag (s.rosterEntry r.position r.headward).bytes
      let answered := { s.inaug with
        role := .counted { r with stage := .tallySent, noted := some r.position }, hopTimer := none }
      (r.stage = .awaitingHop → gained →
        t.inaug = { s.inaug with role := .counted { r with stage := .awaitingTally }, hopTimer := none })
      ∧ (r.stage = .awaitingHop → opened → t.inaug = answered
        ∧ (SlotFree s r.headward .inauguration → InSlot t r.headward .inauguration (tally 0)))
      ∧ (r.stage = .awaitingTally → lost → t.inaug = answered
        ∧ (SlotFree s r.headward .inauguration → InSlot t r.headward .inauguration
            (tally (if new = .opened then 0 else 1))))
      ∧ (r.stage = .tallySent → t.inaug = s.inaug
        ∧ (t.lineEnd r.headward).slots.inauguration = (s.lineEnd r.headward).slots.inauguration)
      ∧ (gained ∨ lost ∨ opened → s.usable r.headward = true → SlotFree s r.headward .wake →
          (s.lineEnd r.headward).throughQueue = [] → InSlot t r.headward .wake { kind := .wake, payload := [2] })
      ∧ (¬(gained ∨ lost ∨ opened) → OnlyChanges [.messages] s t)
      ∧ OnlyChanges [.inauguration, .endOf r.headward, .messages] s t))
  ∧ ∀ (s : State) (r : CountRecord) (old : LinkState), s.counted = some r → s.claiming = true →
    (old = .opened → (s.lineEnd r.headward).link ≠ .opened →
      let t := s.reportEnd r.headward old
      t.inaug = { s.inaug with
          role := .unassigned, headRole := .claimFailed .notAtEnd, lastCause := some .claimEnded
          inaugurationTimer := none, hopTimer := none, commitWait := none }
      ∧ RaisedAt .claimResult t ∧ t.track = { s.track with outstanding := none }
      ∧ (SlotFree s r.headward.other .inauguration → InSlot t r.headward.other .inauguration
          (dissolveFrame { head := s.power.record.vehicle, generation := 0 })))
    ∧ (let e := r.headward.other
      let new := (s.lineEnd e).link
      let t := s.reportEnd e old
      let gained := old.usable = false ∧ new.usable = true
      let lost := old.usable = true ∧ new.usable = false
      let opened := old ≠ .opened ∧ new = .opened
      let hop := s.inaug.hopTimer.isSome = true
      (hop → gained →
        t.inaug = { s.inaug with role := .counted { r with stage := .awaitingTally }, hopTimer := none }
        ∧ OnlyChanges [.inauguration, .messages] s t)
      ∧ (hop → opened → t.heading = true ∧ t.inaug.truncated = false ∧ t.active.map (·.length) = some 1
        ∧ t.inaug.generation = nextWrap 65535 s.inaug.generation ∧ RaisedAt .claimResult t)
      ∧ (¬hop → (gained ∨ lost ∨ opened) → s.claimHeadward = some r.headward →
        t.inaug.attempt = 1 ∧ t.headward = some r.headward ∧ t.ownPosition = some 1
        ∧ (new = .opened → t.heading = true ∧ t.active.map (·.length) = some 1)
        ∧ (new ≠ .opened → t.claiming = true ∧ t.inaug.generation = s.inaug.generation
          ∧ t.inaug.inaugurationTimer = some (s.now + s.cycle.timing.inaugurationTimeout * 1000)
          ∧ (∀ q, t.flagSet q .claimResult = s.flagSet q .claimResult)
          ∧ (SlotFree s e .inauguration → InSlot t e .inauguration (CountFrame.frame
              { head := s.power.record.vehicle, attempt := 1, next := 2
                timeout := s.cycle.timing.inaugurationTimeout }))))
      ∧ (¬(gained ∨ lost ∨ opened) → OnlyChanges [.messages] s t)
      ∧ OnlyChanges roleBlocks s t)

/-- The commit-wait timer's expiry leaves a count without an alert; the silence timer's expiry leaves the consist and
alerts the head with a Topology WAKE on the usable head-ward End (the clock at an expiry is the model's: log 2). Changes of
an End act on a consist as well: a member leaves it without an alert on losing its head-ward End, and alerts the head of a
change at its tail-ward End; a head is displaced when its head-ward End leaves OPEN, and begins a re-inauguration when its
tail-ward End becomes usable or not usable (log 32: the Line Silence field of a Dissolve). -/
def Obligations.CommitWaitAndSilenceEndInUnassigned : Prop :=
  (∀ (s : State) (d : Nat), s.power.held = false →
    (∀ r, s.inaug.commitWait = some d → s.counted = some r → ∃ t, exec .commitWaitExpiry s = .next t
      ∧ t.now = max s.now d
      ∧ t.inaug = { s.inaug with
          role := .unassigned, inaugurationTimer := none, hopTimer := none, commitWait := none
          lastCause := some .commitWaitExpiry }
      ∧ RaisedAt .consistInvalidated t
      ∧ OnlyChanges [.clock, .inauguration, .cycle, .grants, .stages, .portOf .portA, .portOf .portB] s t)
    ∧ ∀ a, s.inaug.silence = some d → s.active = some a → ∃ t, exec .silenceExpiry s = .next t
      ∧ t.now = max s.now d ∧ t.inaug.role = .unassigned ∧ t.inaug.lastCause = some .silenceExpiry
      ∧ t.inaug.silence = none ∧ RaisedAt .consistInvalidated t ∧ (∀ i, t.sideState i ≠ .released)
      ∧ t.stage.fallback = true ∧ OnlyChanges (.clock :: roleBlocks) s t
      ∧ (s.heading = false → SlotFree s a.headward .wake → s.usable a.headward = true →
          (s.lineEnd a.headward).throughQueue = [] →
          InSlot t a.headward .wake { kind := .wake, payload := [2] }))
  ∧ (∀ (s : State) (a : ActiveConsist) (old : LinkState), s.active = some a → s.heading = false →
    (old.usable = true → s.usable a.headward = false →
      let t := s.reportEnd a.headward old
      t.inaug = { s.inaug with
          role := .unassigned, silence := none, inaugurationTimer := none, hopTimer := none, commitWait := none
          lastCause := some .headWardLoss }
      ∧ RaisedAt .consistInvalidated t ∧ (∀ i, t.sideState i ≠ .released) ∧ t.stage.fallback = true
      ∧ t.msg.inFlight = []
      ∧ OnlyChanges [.inauguration, .cycle, .door, .grants, .stages, .messages, .portOf .portA, .portOf .portB] s t)
    ∧ (let new := (s.lineEnd a.headward.other).link
      let t := s.reportEnd a.headward.other old
      let changed := old.usable ≠ new.usable ∨ old ≠ .opened ∧ new = .opened
      OnlyChanges [.endOf a.headward, .messages] s t
      ∧ (changed → s.usable a.headward = true → SlotFree s a.headward .wake →
          (s.lineEnd a.headward).throughQueue = [] → InSlot t a.headward .wake { kind := .wake, payload := [2] })
      ∧ (¬changed ∨ s.usable a.headward = false → OnlyChanges [.messages] s t)))
  ∧ ∀ (s : State) (a : ActiveConsist) (old : LinkState), s.active = some a → s.heading = true →
    (old = .opened → (s.lineEnd a.headward).link ≠ .opened →
      let t := s.reportEnd a.headward old
      t.inaug.role = .unassigned ∧ t.inaug.headRole = .claimFailed .displaced ∧ t.inaug.lastCause = some .dissolve
      ∧ t.cycle.state = .none ∧ t.track.outstanding = none ∧ t.track.proved = false
      ∧ RaisedAt .claimResult t ∧ RaisedAt .consistInvalidated t ∧ OnlyChanges roleBlocks s t
      ∧ (SlotFree s a.headward.other .inauguration → InSlot t a.headward.other .inauguration
          (dissolveFrame { head := s.power.record.vehicle, generation := a.identity.generation })))
    ∧ (let new := (s.lineEnd a.headward.other).link
      let t := s.reportEnd a.headward.other old
      (old.usable ≠ new.usable → s.claimHeadward = some a.headward → new ≠ .opened →
        t.claiming = true ∧ t.inaug.attempt = 1 ∧ t.inaug.generation = s.inaug.generation
        ∧ t.inaug.lastCause = some .countReception ∧ t.cycle.state = .none ∧ t.track.proved = false
        ∧ t.track.outstanding = s.track.outstanding ∧ RaisedAt .consistInvalidated t ∧ OnlyChanges roleBlocks s t)
      ∧ (old.usable = new.usable → OnlyChanges [.messages] s t))

/-! ## The roll cycle -/

/-- A due CALL that no ORDER holds back is originated, by a step of its own (log 5): it takes the next Cycle Number and carries the head's record first; at a head of
Length 1 the CALL is evaluated at once as a RETURN; otherwise nothing is originated. A RETURN passes through a node that is
no head, whoever heads its consist; where the End beyond is not usable, as it is at a node that has just left HEADING, the
RETURN ends there and only the Through Drop Count of that End shows it (the discarding of R49 and R67: log 37). At a head it is
taken while its CALL is out and it fits that CALL, and discarded otherwise. A successful one is
handed to the Door Unit and the Grant Engine and answered by a SETTLE under the pace that R78 chooses; a failing one is
counted with its cause, and takes the proof back and is answered by a SETTLE of the grants as they stand, or ends the
consist. -/
def Obligations.ADueCallIsOriginated : Prop :=
  (∀ (s : State) (a : ActiveConsist), s.power.held = false → s.asleep = false → s.active = some a →
    let number := nextWrap 65535 s.cycle.number
    (s.callDue a = true → s.orderWaits a = false →
      (a.length ≠ 1 → ∃ t, exec .callOriginate s = .next t
        ∧ t.cycle.number = number ∧ t.cycle.state = .callOut ∧ t.cycle.statusRaised = false
        ∧ t.cycle.lastAppended = some (t.placedRecord 1)
        ∧ (s.door.headStandstill = true → t.cycle.callRequested = false ∧ t.door = s.door)
        ∧ (s.door.headStandstill = false → ∀ i, t.sideState i ≠ .released)
        ∧ (SlotFree s a.tailward .cycle → InSlot t a.tailward .cycle
            { kind := .call
              payload := a.identity.bytes ++ be16 number ++ (if s.door.headStandstill then 1 else 0)
                :: be16 a.lineSilence ++ (t.placedRecord 1).bytes })
        ∧ OnlyRaises s t
        ∧ OnlyChanges [.cycle, .door, .endOf a.tailward, .portOf .portA, .portOf .portB] s t)
      ∧ (a.length = 1 → ∃ t, exec .callOriginate s = .next t
        ∧ t.cycle.number = number ∧ t.cycle.failures = 0 ∧ t.cycle.cycleTimeout = none
        ∧ t.cycle.periodTimer = some (s.now + s.cycle.timing.cyclePeriod * 1000)
        ∧ t.cycle.refreshTimer = some (s.now + s.cycle.timing.quietRefresh * 1000)
        ∧ (t.cycle.state = .idleContinuous ∨ t.cycle.state = .idleQuiet)
        ∧ t.cycle.lastSettle.map (·.cycleNumber) = some number
        ∧ OnlyChanges [.moments, .cycle, .door, .tracking, .grants, .stages, .endOf a.tailward, .portOf .portA
            , .portOf .portB] s t))
    ∧ (s.callDue a = false ∨ s.orderWaits a = true → exec .callOriginate s = .next s))
  ∧ (∀ (s : State) (e : EndId) (f : Frame), f.kind = .ret → s.heading = false →
      s.handOn e f = s.passThrough e.other f
      ∧ (s.usable e.other = false → s.handOn e f = s.modEnd e.other (·.countDrops 1)))
  ∧ ∀ (s : State) (a : ActiveConsist) (e : EndId) (f : Frame), f.kind = .ret → s.heading = true → s.active = some a →
    let t := s.handOn e f
    let taken := s.cycle.state = .callOut ∧ e = a.headward.other ∧ identityAt f.payload 0 = a.identity
      ∧ num16 f.payload 6 = s.cycle.number
    let records := returnRecords f.payload
    let positions : List Nat := records.map (·.position.toNat)
    let cause : Option CycleFailure :=
      if 0 ∈ positions then some .unplaced
      else if hasBit (byteAt f.payload 11) 0 = true then some .short
      else if positions ≠ (List.range a.length).map (· + 1) then some .count
      else none
    let settled := t.cycle.lastSettle.map (fun l => (l.cycleNumber, l.nextMode, l.proof))
        = some (s.cycle.number, t.cycle.nextMode.code, if t.track.proved then 1 else 0)
      ∧ t.cycle.state = (if t.cycle.nextMode = .continuous then .idleContinuous else .idleQuiet)
      ∧ (SlotFree s e .cycle → InSlot t e .cycle
          { kind := .settle
            payload := a.identity.bytes ++ be16 s.cycle.number ++ t.cycle.nextMode.code
              :: (if t.track.proved then 1 else 0)
              :: t.grants.table.map fun g => byteOf (if g.seeded then g.grant else 255) })
    (¬taken → t = s)
    ∧ (taken → cause = none →
      t.cycle.failures = 0 ∧ t.cycle.lastFailure = s.cycle.lastFailure ∧ t.cycle.cycleTimeout = none
      ∧ t.track = (s.doorReturn a records).track ∧ t.door = (s.doorReturn a records).door
      ∧ (t.grants.table, t.grants.room) = ((s.grantReturn a records).grants.table, (s.grantReturn a records).grants.room)
      ∧ (t.cycle.nextMode = .continuous ↔ s.door.headStandstill = false ∨ (∃ r ∈ records, r.doorOpen = true)
          ∨ t.track.outstanding.map (·.complete) = some false ∨ (∃ g ∈ t.grants.table, g.withheld = true)
          ∨ (∀ g ∈ t.grants.table, g.seeded = false) ∨ s.cycle.timing.continuousOnly = true)
      ∧ settled ∧ t.inaug = s.inaug)
    ∧ (taken → ∀ c, cause = some c →
      let counted := t.cycle.failures = min 3 (s.cycle.failures + 1) ∧ t.cycle.lastFailure = some c
        ∧ t.grants.table = s.grants.table ∧ t.track.outstanding = s.track.outstanding
      RaisedAt .cycleFailure t ∧ t.track.proved = false ∧ t.track.lifetime = none ∧ t.cycle.cycleTimeout = none
      ∧ (c ≠ .unplaced → s.cycle.failures < 2 →
          counted ∧ t.cycle.nextMode = .continuous ∧ settled ∧ t.inaug = s.inaug ∧ t.door = s.door)
      ∧ (c = .unplaced ∨ 2 ≤ s.cycle.failures → ∀ h, s.claimHeadward = some h → (s.lineEnd h.other).link ≠ .opened →
          counted ∧ t.claiming = true ∧ t.inaug.attempt = 1 ∧ t.inaug.lastCause = some .countReception ∧ t.cycle.state = .none
          ∧ (t.lineEnd e).slots.cycle = (s.lineEnd e).slots.cycle.withdraw (ownCycleFrame a.identity)))
    ∧ OnlyChanges (.moments :: roleBlocks) s t

/-- A CALL of the current consist on the head-ward End restarts the silence timer; where its Standstill is clear each
RELEASED side becomes CLOSING with its close timer started, with Side State Changed, and every other side stays; then it
gets the node's placed record, and goes on, or comes back from the tail or, SHORT, from a tail-ward End that is not usable;
every other CALL gets an Unplaced record. A CALL that carries 32 records gets none and comes back SHORT from where it
arrived. -/
def Obligations.ACallCollectsTheNodesRecord : Prop :=
  let closesReleased := fun s t : State =>
    t.door = { s.door with side1 := t.door.side1, side2 := t.door.side2 }
    ∧ (∀ i, t.door.side i =
        if s.sideState i = .released then
          { state := .closing, closeTimer := some (s.now + s.power.record.closeTimeout * 1000000), overdue := false }
        else s.door.side i)
    ∧ ((∃ i, s.sideState i = .released) → RaisedOnly .sideStateChanged s t)
    ∧ ((∀ i, s.sideState i ≠ .released) → NoEvent s t)
  (∀ (s : State) (e : EndId) (f : Frame), f.kind = .call → callRecordCount f.payload < 32 →
    let t := s.handOn e f
    (∀ a, s.active = some a → s.heading = false → e = a.headward → identityAt f.payload 0 = a.identity →
      let silence := num16 f.payload 9
      let p := f.payload ++ (t.placedRecord a.position).bytes
      t.cycle.lastAppended = some (t.placedRecord a.position) ∧ t.cycle.statusRaised = false
      ∧ t.inaug.silence = some (s.now
          + (if 500 ≤ silence ∧ silence ≤ 10000 then silence else a.lineSilence) * 1000)
      ∧ (hasBit (byteAt f.payload 8) 0 = false → closesReleased s t)
      ∧ (hasBit (byteAt f.payload 8) 0 = true → t.door = s.door)
      ∧ OnlyChanges [.inauguration, .cycle, .door, .endOf .end1, .endOf .end2, .portOf .portA, .portOf .portB] s t
      ∧ (a.position = a.length → t.cycle.lastCallRole = .tail
          ∧ (SlotFree s e .cycle → InSlot t e .cycle (returnOfCall p false)))
      ∧ (a.position ≠ a.length → s.usable e.other = false → t.cycle.lastCallRole = .short
          ∧ (SlotFree s e .cycle → InSlot t e .cycle (returnOfCall p true)))
      ∧ (a.position ≠ a.length → s.usable e.other = true → t.cycle.lastCallRole = .forwarded
          ∧ (SlotFree s e.other .cycle → InSlot t e.other .cycle { kind := .call, payload := p })))
    ∧ ((∀ a, s.active = some a → e ≠ a.headward ∨ identityAt f.payload 0 ≠ a.identity) →
      let p := f.payload ++ s.unplacedRecord.bytes
      OnlyChanges [.cycle, .endOf .end1, .endOf .end2] s t
      ∧ t.cycle = { s.cycle with lastCallRole := t.cycle.lastCallRole }
      ∧ (s.usable e.other = true → t.cycle.lastCallRole = .unplacedForwarded
          ∧ (SlotFree s e.other .cycle → InSlot t e.other .cycle { kind := .call, payload := p }))
      ∧ (s.usable e.other = false → t.cycle.lastCallRole = .unplacedShort
          ∧ (SlotFree s e .cycle → InSlot t e .cycle (returnOfCall p true)))))
  ∧ ∀ (s : State) (e : EndId) (f : Frame), f.kind = .call → 32 ≤ callRecordCount f.payload →
    let t := s.handOn e f
    t.cycle.lastCallRole = .short ∧ (SlotFree s e .cycle → InSlot t e .cycle (returnOfCall f.payload true))
    ∧ t.cycle.lastAppended = s.cycle.lastAppended
    ∧ (∀ a, s.active = some a → s.heading = false → e = a.headward → identityAt f.payload 0 = a.identity →
      let silence := num16 f.payload 9
      t.inaug.silence = some (s.now
          + (if 500 ≤ silence ∧ silence ≤ 10000 then silence else a.lineSilence) * 1000)
      ∧ (hasBit (byteAt f.payload 8) 0 = false → closesReleased s t)
      ∧ (hasBit (byteAt f.payload 8) 0 = true → t.door = s.door)
      ∧ OnlyChanges [.inauguration, .cycle, .door, .endOf .end1, .endOf .end2, .portOf .portA, .portOf .portB] s t)
    ∧ ((∀ a, s.active = some a → e ≠ a.headward ∨ identityAt f.payload 0 ≠ a.identity) →
      t.cycle = { s.cycle with lastCallRole := .short } ∧ OnlyChanges [.cycle, .endOf e] s t)

/-- The Cycle Timeout's expiry while CALL_OUT is a failure with the cause TIMEOUT that sets the proof UNPROVEN;
where it does not end the consist the head becomes IDLE_CONTINUOUS and sends no SETTLE, and the next CALL is due under
the Continuous rule. The Cycle Timeout is at most 42 ms and the Cycle Period at least 20 ms. (The clock at an expiry is
the model's: log 2.) -/
def Obligations.ACycleTimeoutFailsTheCycle : Prop :=
  (∀ (s : State) (d : Nat), s.power.held = false → s.cycle.cycleTimeout = some d → s.cycle.state = .callOut →
    ∃ t, exec .cycleTimeoutExpiry s = .next t ∧ t.now = max s.now d
      ∧ t.track.proved = false ∧ t.track.lifetime = none
      ∧ RaisedAt .cycleFailure t
      ∧ (s.cycle.failures < 2 → t.cycle.failures = s.cycle.failures + 1 ∧ t.cycle.lastFailure = some .timeout
          ∧ t.cycle.state = .idleContinuous ∧ t.cycle.number = s.cycle.number
          ∧ t.cycle.periodTimer = s.cycle.periodTimer ∧ OnlyRaises s t
          ∧ (∀ a, s.active = some a → s.heading = true →
              t.callDue a = (s.cycle.periodTimer.isNone && !s.settleWaits a))
          ∧ OnlyChanges [.clock, .cycle, .tracking, .portOf .portA, .portOf .portB] s t))
  ∧ (∀ (s : State) (d : Nat) (a : ActiveConsist) (h : EndId), s.power.held = false →
      s.cycle.cycleTimeout = some d → s.cycle.state = .callOut → 2 ≤ s.cycle.failures → s.heading = true →
      s.active = some a → s.claimHeadward = some h → (s.lineEnd h.other).link ≠ .opened →
      ∃ t, exec .cycleTimeoutExpiry s = .next t ∧ t.claiming = true ∧ t.inaug.attempt = 1
        ∧ t.updateInProgress = true ∧ t.cycle.state = .none
        ∧ t.cycle.failures = min 3 (s.cycle.failures + 1) ∧ t.cycle.lastFailure = some .timeout
        ∧ OnlyChanges (.clock :: roleBlocks) s t)
  ∧ (∀ length, length ≤ 32 → cycleTimeoutMs length ≤ 42)
  ∧ ∀ x : LineTiming, x.inRange = true → 20 ≤ x.cyclePeriod

/-- The expiries of the period timer and of the refresh timer stop the timer and change nothing else; they make the
next CALL due where the pacing rules wait for them (the clock at an expiry is the model's: log 2). A WAKE at a head begins a
re-inauguration where it carries the Topology flag, and asks for a CALL where it carries the Status flag alone; at every
other node it passes on, merged with the WAKEs of the node's own that wait for that End, which are removed: into the Through
Queue, or dropped and counted where that is full, with Through Overflow, or where the End is not usable. A WAKE that the node
produces sets its flags in the youngest WAKE of the Through Queue, and is placed as a frame of its own where none waits there. -/
def Obligations.PaceTimersRunOut : Prop :=
  (∀ (s : State) (d : Nat), s.power.held = false →
    (s.cycle.periodTimer = some d → ∃ t, exec .periodTimerExpiry s = .next t ∧ t.now = max s.now d
      ∧ t.cycle = { s.cycle with periodTimer := none } ∧ OnlyChanges [.clock, .cycle] s t
      ∧ ∀ a, s.heading = true → s.cycle.state = .idleContinuous → s.settleWaits a = false → t.callDue a = true)
    ∧ (s.cycle.refreshTimer = some d → ∃ t, exec .refreshTimerExpiry s = .next t ∧ t.now = max s.now d
      ∧ t.cycle = { s.cycle with refreshTimer := none } ∧ OnlyChanges [.clock, .cycle] s t
      ∧ ∀ a, s.heading = true → s.cycle.state = .idleQuiet → s.cycle.periodTimer = none → t.callDue a = true))
  ∧ (∀ (s : State) (e : EndId) (f : Frame), f.kind = .wake → s.heading = true → s.valid = true →
    let t := s.handOn e f
    let topology := hasBit (byteAt f.payload 0) 1
    let status := hasBit (byteAt f.payload 0) 0
    (topology = true → ∀ h, s.claimHeadward = some h → (s.lineEnd h.other).link ≠ .opened →
      t.claiming = true ∧ t.inaug.attempt = 1 ∧ t.inaug.generation = s.inaug.generation ∧ t.cycle.state = .none
      ∧ t.track.proved = false ∧ OnlyChanges roleBlocks s t)
    ∧ (topology = false → status = true → t = { s with cycle := { s.cycle with callRequested := true } })
    ∧ (topology = false → status = false → t = s))
  ∧ (∀ (s : State) (e : EndId) (flags : Byte),
    let queue := (s.lineEnd e).throughQueue
    let t := s.produceWake e flags
    ((∀ f ∈ queue, f.kind ≠ .wake) → t = s.place e .wake { kind := .wake, payload := [flags] })
    ∧ ∀ i f, queue[i]? = some f → f.kind = .wake → (∀ g ∈ queue.drop (i + 1), g.kind ≠ .wake) →
        t.lineEnd e = { s.lineEnd e with
          throughQueue := queue.set i { f with payload := [byteAt f.payload 0 ||| flags] } }
        ∧ OnlyChanges [.endOf e] s t)
  ∧ ∀ (s : State) (e : EndId) (f : Frame), f.kind = .wake → s.heading = false →
    let t := s.handOn e f
    let own := (s.lineEnd e.other).slots.wake
    let flags := fun g : Option Frame => (g.map fun x => byteAt x.payload 0).getD 0
    let merged := { f with payload := [byteAt f.payload 0 ||| flags own.slot ||| flags own.held] }
    (own = .empty → t = s.passThrough e.other f)
    ∧ (own ≠ .empty → s.usable e.other = true → (s.lineEnd e.other).throughQueue.length < 6 →
      t.lineEnd e.other = { s.lineEnd e.other with
        slots := (s.lineEnd e.other).slots.set .wake .empty
        throughQueue := (s.lineEnd e.other).throughQueue ++ [merged] } ∧ NoEvent s t)
    ∧ (own ≠ .empty → s.usable e.other = true → 6 ≤ (s.lineEnd e.other).throughQueue.length →
      t.lineEnd e.other = { s.lineEnd e.other with
        slots := (s.lineEnd e.other).slots.set .wake .empty
        throughDrop := min 255 ((s.lineEnd e.other).throughDrop + 1) } ∧ RaisedOnly .throughOverflow s t)
    ∧ (own ≠ .empty → s.usable e.other = false →
      t.lineEnd e.other = { s.lineEnd e.other with
        slots := (s.lineEnd e.other).slots.set .wake .empty
        throughDrop := min 255 ((s.lineEnd e.other).throughDrop + 1) } ∧ NoEvent s t)
    ∧ OnlyChanges [.endOf e.other, .portOf .portA, .portOf .portB] s t

/-- Set Line Timing takes all five settings together where they keep their ranges and limits, and is refused with
RANGE otherwise; at a head the Line Silence comes into force at once, and setting Continuous Only asks for a CALL. -/
def Obligations.SetLineTimingTakesAllFiveTogether : Prop :=
  ∀ (s : State) (p : PortId), Admitted s p (some .door) →
    let x : LineTiming :=
      { cyclePeriod := s.operandNum p 1 * 10, quietRefresh := s.operandNum p 2 * 50
        lineSilence := s.operandNum p 3 * 50, inaugurationTimeout := s.operandNum p 4 * 50
        continuousOnly := hasBit (s.operand p 5) 0 }
    let fits := 20 ≤ x.cyclePeriod ∧ x.cyclePeriod ≤ 1000 ∧ 200 ≤ x.quietRefresh ∧ x.quietRefresh ≤ 5000
      ∧ 500 ≤ x.lineSilence ∧ x.lineSilence ≤ 10000 ∧ 200 ≤ x.inaugurationTimeout
      ∧ x.inaugurationTimeout ≤ 5000 ∧ 2 * x.quietRefresh ≤ x.lineSilence ∧ 4 * x.cyclePeriod ≤ x.lineSilence
    (¬fits → ∃ t, exec (.setLineTiming p) s = .next t ∧ RefusedAt p .range s t)
    ∧ (fits → ∃ t, exec (.setLineTiming p) s = .next t ∧ t.cycle.timing = x
      ∧ DoneAt p [.cycle, .inauguration] s t ∧ NoEvent s t
      ∧ t.cycle = { s.cycle with
          timing := x
          callRequested := s.cycle.callRequested
            || (s.heading && x.continuousOnly && !s.cycle.timing.continuousOnly) }
      ∧ (s.heading = false → t.inaug = s.inaug)
      ∧ (s.heading = true → t.active = s.active.map fun a => { a with lineSilence := x.lineSilence }))

/-! ## Doors -/

/-- Set Standstill stores its flag; at a head it asks for a CALL, and where it clears the standstill of a train that
may be open it issues the automatic CLOSE, of both sides and positions 1 to 32: it takes the next Order Id, becomes the
Outstanding Order, closes the head's own sides that are RELEASED, or WITHDRAWN and not Closed-Locked, with their close timers
started, and places its ORDER, with Standstill clear, on the tail-ward End. That the flag is bit 0 of operand 1 is the model's
reading (log 25). -/
def Obligations.SetStandstillMayCloseTheTrain : Prop :=
  ∀ (s : State) (p : PortId), Admitted s p (some .door) →
    let v := hasBit (s.operand p 1) 0
    let mayBeOpen := s.door.trainDoorsOpen = true ∨ s.sideState .side1 ≠ .withdrawn ∨ s.sideState .side2 ≠ .withdrawn
    ∃ t, exec (.setStandstill p) s = .next t ∧ Answered (s.port p) (t.port p) .done none 0
      ∧ t.door.headStandstill = v
      ∧ (s.heading = false → t.door = { s.door with headStandstill := v } ∧ NoEvent s t
          ∧ DoneAt p [.door] s t)
      ∧ (s.heading = true → t.cycle.callRequested = true)
      ∧ OnlyChanges [.moments, .cycle, .door, .tracking, .endOf .end1, .endOf .end2, .portOf .portA, .portOf .portB] s t
      ∧ (∀ a, s.heading = true → s.active = some a →
          ((v = false ∧ s.door.headStandstill = true ∧ mayBeOpen) → a.position = 1 →
            t.door.orderCounter = nextWrap 255 s.door.orderCounter
            ∧ t.door.lastOrderId = t.door.orderCounter ∧ t.door.lastOutcome = .applied
            ∧ (let closes := fun i : SideId =>
                s.sideState i = .released ∨ s.sideState i = .withdrawn ∧ s.door.status.closedLocked i = false
              (∀ i, closes i → t.door.side i =
                { state := .closing, closeTimer := some (s.now + s.power.record.closeTimeout * 1000000), overdue := false })
              ∧ (∀ i, ¬closes i → t.door.side i = s.door.side i)
              ∧ ((∃ i, closes i) → RaisedAt .sideStateChanged t))
            ∧ RaisedAt .orderReceived t
            ∧ (SlotFree s a.tailward .door → InSlot t a.tailward .door (OrderFrame.frame
                { identity := a.identity, id := t.door.orderCounter, action := 2, side := 3, first := 1, last := 32
                  flags := 0 }))
            ∧ (t.track.outstanding.map fun r => (r.id, r.action, r.side, r.first, r.last))
                = some (t.door.orderCounter, .close, .both, 1, 32))
          ∧ (¬(v = false ∧ s.door.headStandstill = true ∧ mayBeOpen) →
            t.door = { s.door with headStandstill := v } ∧ t.track = s.track))

/-- Issue Order is refused with NOT_HEAD, RANGE or STATE in that order; otherwise it takes the next Order Id, replaces
the Outstanding Order, applies the order to the head's own sides under the checks of a RELEASE, places the ORDER on the
tail-ward End, where an OPEN End counts the placing as its leaving, and asks for a CALL; an order whose window holds no
position of the consist is complete at once. A successful RETURN whose CALL left after that ORDER fills the Outcome List by its echoes; entries still PENDING then cause
one of three repeats, or become LOST; without any the order is complete. -/
def Obligations.IssueOrderAppliesAndPlacesTheOrder : Prop :=
  (∀ (s : State) (p : PortId), Admitted s p (some .door) →
    let action := s.operandNum p 1
    let side := s.operandNum p 2
    let fits := 1 ≤ action ∧ action ≤ 3 ∧ 1 ≤ side ∧ side ≤ 3 ∧ ¬(action = 1 ∧ side = 3)
      ∧ 1 ≤ s.operandNum p 3 ∧ s.operandNum p 3 ≤ s.operandNum p 4 ∧ s.operandNum p 4 ≤ 32
    (s.heading = false → ∃ t, exec (.issueOrder p) s = .next t ∧ RefusedAt p .notHead s t)
    ∧ (s.heading = true → ¬fits → ∃ t, exec (.issueOrder p) s = .next t ∧ RefusedAt p .range s t)
    ∧ ∀ (x : DoorAction) (y : TrainSide), s.heading = true → fits → x.code = s.operand p 1 → y.code = s.operand p 2 →
      (x = .release → s.door.headStandstill = false →
        ∃ t, exec (.issueOrder p) s = .next t ∧ RefusedAt p .state s t)
      ∧ ∀ a, s.active = some a → (x = .release → s.door.headStandstill = true) →
        let id := nextWrap 255 s.door.orderCounter
        let o : DoorOrder :=
          { id := id, action := x, side := y, first := s.operandNum p 3, last := s.operandNum p 4
            standstill := s.door.headStandstill }
        let addressed := decide (s.operandNum p 3 ≤ a.position ∧ a.position ≤ s.operandNum p 4)
        ∃ t, exec (.issueOrder p) s = .next t ∧ Answered (s.port p) (t.port p) .done none 0
          ∧ t.door.orderCounter = id ∧ t.door.lastOrderId = id ∧ t.door.lastOutcome = s.orderOutcome a o
          ∧ (addressed = false → t.door.lastOutcome = .notAddressed)
          ∧ (addressed = true → x ≠ .release → t.door.lastOutcome = .applied)
          ∧ (addressed = true → x = .release → ∀ i, mapSides a.orientation y = [i] →
              t.door.lastOutcome = if s.ready = false then .refusedNotReady
                else if s.door.attended = false then .refusedUnattended
                else if s.door.status.lockedOut i = true then .refusedLockedOut
                else .applied)
          ∧ (∀ i, t.sideState i =
              if addressed = true ∧ i ∈ mapSides a.orientation y then
                match x with
                | .release => if t.door.lastOutcome = .applied then .released else s.sideState i
                | .close =>
                  if s.sideState i = .released ∨ s.sideState i = .withdrawn ∧ s.door.status.closedLocked i = false then
                    .closing
                  else s.sideState i
                | .withdraw => if s.sideState i = .released then .withdrawn else s.sideState i
              else s.sideState i)
          ∧ RaisedAt .orderReceived t ∧ t.cycle.callRequested = true
          ∧ (x = .release → t.track.proved = false ∧ t.track.lifetime = none)
          ∧ (t.track.outstanding.map fun r =>
              (r.id, r.action, r.side, r.first, r.last, r.repeatsLeft, r.outcomes))
            = some (id, x, y, o.first, o.last, 3,
                (List.range a.length).map fun i =>
                  if o.first ≤ i + 1 ∧ i + 1 ≤ o.last then .pending else .notAddressed)
          ∧ (let m : Moment := { time := s.now, order := s.moments + 1 }
            let leaves := (s.lineEnd a.tailward).link = .opened
            (a.identity.Fits → t.track.outstanding.map (·.firstSent) = some (if leaves then some m else none))
            ∧ t.door.lastReleaseSent = (if leaves ∧ x = .release then some m else s.door.lastReleaseSent)
            ∧ t.track.outstanding.map (·.complete) = some (decide (a.length < o.first))
            ∧ (a.length < o.first → RaisedAt .orderComplete t))
          ∧ (SlotFree s a.tailward .door → InSlot t a.tailward .door (OrderFrame.frame
              { identity := a.identity, id := id, action := s.operand p 1, side := s.operand p 2
                first := o.first, last := o.last, flags := if s.door.headStandstill then 1 else 0 }))
          ∧ OnlyChanges [.moments, .cycle, .door, .tracking, .endOf a.tailward, .portOf .portA, .portOf .portB] s t)
  ∧ ∀ (s : State) (a : ActiveConsist) (records : List CycleRecord) (r : OutstandingOrder),
    s.track.outstanding = some r →
    let t := s.doorReturn a records
    let counts := ∃ m, r.firstSent = some m ∧ ∃ c, s.cycle.lastCallLeft = some c ∧ m.order < c.order
    let filled := r.outcomes.mapIdx fun i o =>
      match records[i]? with
      | some x => if o = .pending ∧ x.echo.toNat = r.id then Outcome.ofCode x.outcome else o
      | none => o
    t.door.trainDoorsOpen = records.any (·.doorOpen) ∧ t.door.orderCounter = s.door.orderCounter
    ∧ t.door.side1 = s.door.side1 ∧ t.door.side2 = s.door.side2 ∧ t.door.lastOrderId = s.door.lastOrderId
    ∧ (r.complete = true ∨ ¬counts → t.track.outstanding = some r)
    ∧ (r.complete = false → counts → .pending ∉ filled →
      t.track.outstanding = some { r with outcomes := filled, complete := true } ∧ RaisedAt .orderComplete t)
    ∧ (r.complete = false → counts → .pending ∈ filled → r.repeatsLeft = 0 →
      t.track.outstanding = some { r with
        outcomes := filled.map (fun o => if o = .pending then .lost else o), complete := true }
      ∧ RaisedAt .orderComplete t)
    ∧ (r.complete = false → counts → .pending ∈ filled → r.repeatsLeft ≠ 0 →
      t.track.outstanding = some { r with outcomes := filled, repeatsLeft := r.repeatsLeft - 1 }
      ∧ (SlotFree s a.tailward .door → InSlot t a.tailward .door (OrderFrame.frame
          { identity := a.identity, id := r.id, action := r.action.code, side := r.side.code
            first := r.first, last := r.last, flags := if s.door.headStandstill then 1 else 0 })))
    ∧ OnlyChanges [.moments, .door, .tracking, .endOf a.tailward, .portOf .portA, .portOf .portB] s t

/-- An ORDER of the current consist on the head-ward End goes on unchanged and restarts the silence timer; a well
formed one with a new id is taken: NOT_ADDRESSED outside its window, and inside it the first failing check of a
RELEASE gives the outcome, while a RELEASE that passes releases the side its train side maps to. An ORDER of another
identity, on the tail-ward End, or at a node that is no MEMBER is forwarded on the End opposite, without use. -/
def Obligations.AnOrderIsTakenOnce : Prop :=
  (∀ (s : State) (e : EndId) (f : Frame), f.kind = .order →
    (∀ a, s.active = some a → e ≠ a.headward ∨ identityAt f.payload 0 ≠ a.identity) →
    s.handOn e f = s.place e.other .door f)
  ∧ ∀ (s : State) (a : ActiveConsist) (f : Frame), f.kind = .order → s.active = some a → s.heading = false →
    identityAt f.payload 0 = a.identity →
    let t := s.handOn a.headward f
    let order := (OrderFrame.ofPayload f.payload).order
    (SlotFree s a.tailward .door → InSlot t a.tailward .door f)
    ∧ t.inaug = { s.inaug with silence := some (s.now + a.lineSilence * 1000) }
    ∧ OnlyChanges [.inauguration, .cycle, .door, .endOf .end1, .endOf .end2, .portOf .portA, .portOf .portB] s t
    ∧ ((order = none ∨ ∃ o, order = some o ∧ o.id = s.door.lastOrderId) → t.door = s.door ∧ NoEvent s t)
    ∧ ∀ o, order = some o → o.id ≠ s.door.lastOrderId →
      t.door.lastOrderId = o.id ∧ RaisedAt .orderReceived t
      ∧ (o.addresses a.position = false → t.door.lastOutcome = .notAddressed ∧ t.door.side1 = s.door.side1
          ∧ t.door.side2 = s.door.side2)
      ∧ (o.addresses a.position = true → o.action ≠ .release → t.door.lastOutcome = .applied
          ∧ ∀ i ∈ mapSides a.orientation o.side, t.sideState i ≠ .released)
      ∧ ∀ i, o.addresses a.position = true → o.action = .release → mapSides a.orientation o.side = [i] →
        let outcome := if s.ready = false then Machine.Outcome.refusedNotReady
          else if o.standstill = false then .refusedStandstill
          else if s.door.attended = false then .refusedUnattended
          else if s.door.status.lockedOut i = true then .refusedLockedOut
          else .applied
        t.door.lastOutcome = outcome
        ∧ (outcome = .applied → t.sideState i = .released)
        ∧ (outcome ≠ .applied → t.door.side1 = s.door.side1 ∧ t.door.side2 = s.door.side2)

/-- Write Door Status replaces the status, makes the node attended for the Attendance Period, ends a closing that it
reports locked and withdraws a release that it reports locked out; Local Close closes each side it names, and is
refused with RANGE where it names none. -/
def Obligations.DoorStatusAndLocalCloseActOnTheSides : Prop :=
  ∀ (s : State) (p : PortId), Admitted s p (some .door) →
    (let v := s.operand p 1
      ∃ t, exec (.writeDoorStatus p) s = .next t ∧ DoneAt p [.door, .cycle, .endOf .end1, .endOf .end2] s t
      ∧ t.door.status =
          { closedLocked1 := v.getLsbD 4, closedLocked2 := v.getLsbD 5
            lockedOut1 := v.getLsbD 6, lockedOut2 := v.getLsbD 7 }
      ∧ t.door.attended = true
      ∧ t.door.attendanceTimer = some (s.now + s.power.record.attendance * 10 * 1000)
      ∧ (∀ i, t.sideState i =
          if s.sideState i = .closing ∧ t.door.status.closedLocked i = true then .withdrawn
          else if s.sideState i = .released ∧ t.door.status.lockedOut i = true then .withdrawn
          else s.sideState i)
      ∧ t.door.lastOrderId = s.door.lastOrderId ∧ t.door.lastOutcome = s.door.lastOutcome)
    ∧ ((closeSides (s.operandNum p 1)).isEmpty = true →
        ∃ t, exec (.localClose p) s = .next t ∧ RefusedAt p .range s t)
    ∧ (s.operandNum p 1 = 1 ∨ s.operandNum p 1 = 2 ∨ s.operandNum p 1 = 3 →
        ∃ t, exec (.localClose p) s = .next t ∧ DoneAt p [.door, .cycle, .endOf .end1, .endOf .end2] s t
        ∧ (∀ i, t.sideState i =
            if (i = .side1 ∧ s.operandNum p 1 ≠ 2 ∨ i = .side2 ∧ s.operandNum p 1 ≠ 1)
              ∧ (s.sideState i = .released ∨ s.sideState i = .withdrawn ∧ s.door.status.closedLocked i = false)
            then .closing else s.sideState i)
        ∧ t.door.lastOrderId = s.door.lastOrderId ∧ t.door.lastOutcome = s.door.lastOutcome)

/-- The close timer's expiry makes a closing side Overdue once and leaves it closing; the attendance timer's expiry
makes the node UNATTENDED and withdraws its releases; the Proof Lifetime timer's expiry makes the Proof UNPROVEN (the
clock at an expiry is the model's: log 2). The Proof is evaluated last at each successful RETURN: PROVED, for the Proof
Lifetime, where the CALL left after the last RELEASE and every record shows a Ready, attended node with both sides
Closed-Locked and neither Released nor Closing; UNPROVEN otherwise. -/
def Obligations.DoorTimersLapse : Prop :=
  (∀ (s : State) (d : Nat), s.power.held = false →
    (∀ i, (s.door.side i).closeTimer = some d → ∃ t, exec (.closeTimerExpiry i) s = .next t ∧ t.now = max s.now d
      ∧ t.door.side i = { s.door.side i with closeTimer := none, overdue := true }
      ∧ t.sideState i = s.sideState i ∧ RaisedOnly .closeOverdue s t
      ∧ OnlyChanges [.clock, .door, .portOf .portA, .portOf .portB] s t)
    ∧ (s.door.attendanceTimer = some d → ∃ t, exec .attendanceTimerExpiry s = .next t ∧ t.now = max s.now d
      ∧ t.door.attended = false ∧ t.door.attendanceTimer = none
      ∧ (∀ i, t.sideState i = if s.sideState i = .released then .withdrawn else s.sideState i)
      ∧ RaisedAt .attendanceLapsed t ∧ OnlyRaises s t
      ∧ OnlyChanges [.clock, .door, .cycle, .endOf .end1, .endOf .end2, .portOf .portA, .portOf .portB] s t)
    ∧ (s.track.lifetime = some d → ∃ t, exec .proofLifetimeExpiry s = .next t ∧ t.now = max s.now d
      ∧ t.track = { s.track with proved := false, lifetime := none } ∧ t.provedPin = false
      ∧ (s.track.proved = true → RaisedOnly .proofChanged s t)
      ∧ OnlyChanges [.clock, .tracking, .portOf .portA, .portOf .portB] s t))
  ∧ (∀ (s : State) (a : ActiveConsist) (records : List CycleRecord), s.doorReturn a records =
      ((s.modDoor fun d => { d with trainDoorsOpen := records.any (·.doorOpen) }).readEchoes a records).evaluateProof
        a.length records)
  ∧ ∀ (s : State) (length : Nat) (records : List CycleRecord),
    let t := s.evaluateProof length records
    let closed := fun r : CycleRecord =>
      hasBit r.nodeFlags 0 = false ∧ hasBit r.nodeFlags 1 = false
        ∧ hasBit r.doorFlags 4 = true ∧ hasBit r.doorFlags 5 = true
        ∧ hasBit r.doorFlags 0 = false ∧ hasBit r.doorFlags 1 = false
        ∧ hasBit r.doorFlags 2 = false ∧ hasBit r.doorFlags 3 = false
    let proves := (∀ m, s.door.lastReleaseSent = some m → ∃ c, s.cycle.lastCallLeft = some c ∧ m.order < c.order)
      ∧ ∀ r ∈ records, closed r
    (proves → t.track = { s.track with
        proved := true, lifetime := some (s.now + (s.cycle.timing.quietRefresh + (10 + length)) * 1000)
        lastProved := s.cycle.number }
      ∧ t.provedPin = true)
    ∧ (¬proves → t.track = { s.track with proved := false, lifetime := none } ∧ t.provedPin = false)
    ∧ (s.track.proved = t.track.proved → NoEvent s t) ∧ (s.track.proved ≠ t.track.proved → RaisedOnly .proofChanged s t)
    ∧ OnlyChanges [.tracking, .portOf .portA, .portOf .portB] s t

/-- R99: Train Doors Open is what the last successful RETURN's records show; a failing RETURN and an order leave it, a
commit, a head's or one accepted, a leaving of HEADING and the node-level resets clear it, and the Door Status shows it. -/
def Obligations.TrainDoorsOpenFollowsTheLastCompleteRoll : Prop :=
  (∀ (s : State) (a : ActiveConsist) (short : Bool) (records : List CycleRecord),
    (judgeReturn a.length short records = none →
      (s.evaluateReturn a short records).door.trainDoorsOpen = records.any (·.doorOpen))
    ∧ ∀ c, judgeReturn a.length short records = some c → c ≠ .unplaced → s.cycle.failures < 2 →
      (s.evaluateReturn a short records).door.trainDoorsOpen = s.door.trainDoorsOpen)
  ∧ (∀ (s : State) (a : ActiveConsist) (action : DoorAction) (side : TrainSide) (first last : Nat),
      (s.issue a action side first last).door.trainDoorsOpen = s.door.trainDoorsOpen)
  ∧ (∀ (s : State) (r : CountRecord) (n : Nat) (others : List RosterEntry) (b : Bool),
      (s.commit r n others b).door.trainDoorsOpen = false)
  ∧ (∀ (s : State) (r : CountRecord) (f : Frame), (s.acceptCommit r f).door.trainDoorsOpen = false)
  ∧ (∀ (s : State) (a : ActiveConsist) (next : NodeRole) (cause : LeaveCause), s.heading = true →
      (s.leaveMember a next cause).door.trainDoorsOpen = false)
  ∧ (∀ (s : State) (p : PortId),
      (∀ c ∈ [Instr.powerOnReset, .resetPin], ∃ t, exec c s = .next t ∧ t.door.trainDoorsOpen = false)
      ∧ (Admitted s p none → ∃ t, exec (.nodeReset p) s = .next t ∧ t.door.trainDoorsOpen = false))
  ∧ ∀ (s : State) (p : PortId), hasBit (byteAt (s.areaBytes p 6) 6) 1 = s.door.trainDoorsOpen

/-! ## Heating -/

/-- Set Demand takes 0 to 254 and works toward the target that the Ceiling and the new Demand call for; above 254 it is
refused with RANGE. A change of the record that a member would append, as this one makes, raises one Status WAKE for its
head-ward End until the record is appended again, merged into a WAKE that waits, in the Through Queue into the youngest; at a head it asks for one CALL. -/
def Obligations.SetDemandMovesTheTarget : Prop :=
  (∀ (s : State) (p : PortId), Admitted s p (some .comfort) →
    let v := s.operandNum p 1
    (254 < v → ∃ t, exec (.setDemand p) s = .next t ∧ RefusedAt p .range s t)
    ∧ (v ≤ 254 → ∃ t, exec (.setDemand p) s = .next t
      ∧ t.stage.demand = v ∧ t.stage.ceiling = s.stage.ceiling ∧ t.stage.fallback = s.stage.fallback
      ∧ (v ≠ s.stage.demand → t.stage.target
          = highestLevel s.power.record.powers.toList (min s.stage.ceiling v) s.power.record.stageCount)
      ∧ (v = s.stage.demand → t.stage = s.stage)
      ∧ (∀ a, s.active = some a → ∀ r, s.cycle.lastAppended = some r → s.cycle.statusRaised = false →
          v ≠ s.stage.demand → r.demand ≠ byteOf v → t.cycle.statusRaised = true
          ∧ (s.heading = true → t.cycle.callRequested = true)
          ∧ (s.heading = false → SlotFree s a.headward .wake → (s.lineEnd a.headward).throughQueue = [] →
              InSlot t a.headward .wake { kind := .wake, payload := [1] }))
      ∧ DoneAt p [.stages, .cycle, .endOf .end1, .endOf .end2] s t ∧ NoEvent s t))
  ∧ ∀ (s : State) (a : ActiveConsist), s.active = some a →
    let t := s.sourceChanged
    let differs := ∃ r, s.cycle.lastAppended = some r ∧ s.placedRecord a.position ≠ r
    let wakes := (s.lineEnd a.headward).throughQueue.filter fun f => decide (f.kind = .wake)
    (s.cycle.statusRaised = true ∨ ¬differs → t = s)
    ∧ (s.cycle.statusRaised = false → differs → s.heading = true →
      t = { s with cycle := { s.cycle with statusRaised := true, callRequested := true } })
    ∧ (s.cycle.statusRaised = false → differs → s.heading = false →
      t.cycle = { s.cycle with statusRaised := true } ∧ OnlyChanges [.cycle, .endOf a.headward] s t
      ∧ (wakes = [] → SlotFree s a.headward .wake → InSlot t a.headward .wake { kind := .wake, payload := [1] })
      ∧ (wakes = [] → ∀ f, (s.lineEnd a.headward).slots.wake.slot = some f →
          (t.lineEnd a.headward).slots.wake =
            { (s.lineEnd a.headward).slots.wake with slot := some { f with payload := [byteAt f.payload 0 ||| 1] } })
      ∧ ∀ i f, (s.lineEnd a.headward).throughQueue[i]? = some f → f.kind = .wake →
          (∀ g ∈ (s.lineEnd a.headward).throughQueue.drop (i + 1), g.kind ≠ .wake) →
          t.lineEnd a.headward = { s.lineEnd a.headward with
            throughQueue :=
              (s.lineEnd a.headward).throughQueue.set i { f with payload := [byteAt f.payload 0 ||| 1] } })

/-- Set Supply Budget takes 0 to 16,000; out of use it changes the budget alone, in use it sheds a table whose sum
exceeds it, lowest Effective Class first and in a class the highest position first, each to the highest level that fits,
and leaves one that does not, and a head asks for a CALL; above 16,000 it is refused with RANGE. A successful
RETURN updates each entry from its record, seeds a table that is unseeded, lowers to the demand level, and raises within
the Room that the budget leaves over what is granted or still drawn, until no entry can be raised further. The RETURN that
seeds leaves each entry at its seeding level, or at its demand level where that is lower, where these together keep within the
budget, and raises none while the power still drawn exceeds it; where they exceed the budget it sheds them in the same order
and to the same levels, with Shed Performed, and raises none. -/
def Obligations.SetSupplyBudgetShedsAtOnce : Prop :=
  (∀ (s : State) (p : PortId), Admitted s p (some .comfort) →
    let v := s.operandNum p 1 * 256 + s.operandNum p 2
    (16000 < v → ∃ t, exec (.setSupplyBudget p) s = .next t ∧ RefusedAt p .range s t)
    ∧ (v ≤ 16000 → ∃ t, exec (.setSupplyBudget p) s = .next t ∧ t.grants.budget = v
      ∧ DoneAt p [.grants, .cycle] s t
      ∧ (s.grants.inUse = false ∨ grantSum s.grants.table ≤ v →
          t.grants = { s.grants with budget := v } ∧ NoEvent s t)
      ∧ (s.grants.inUse = true → v < grantSum s.grants.table → ∀ a, s.active = some a →
          (∀ g ∈ s.grants.table, g.effectiveClass ≤ 3) →
          grantSum t.grants.table ≤ v ∧ t.grants.table.length = s.grants.table.length
          ∧ RaisedAt .shedPerformed t
          ∧ ∀ (i : Nat) (x y : GrantEntry), s.grants.table[i]? = some x → t.grants.table[i]? = some y →
              y.grant ≤ x.grant ∧ y = { x with grant := y.grant }
              ∧ ∀ z : RosterEntry, a.entries[i]? = some z →
                let before := fun (j : Nat) (g : GrantEntry) =>
                  g.effectiveClass < x.effectiveClass ∨ g.effectiveClass = x.effectiveClass ∧ i < j
                let sumWith := fun mine : Nat => (s.grants.table.mapIdx fun j g =>
                  if j = i then mine
                  else if before j g then (t.grants.table[j]?.map (·.grant)).getD 0 else g.grant).sum
                (sumWith x.grant ≤ v → y.grant = x.grant)
                ∧ (v < sumWith x.grant → (y.grant = 0 ∨ y.grant ∈ z.levels ∧ sumWith y.grant ≤ v)
                  ∧ ∀ l ∈ z.levels, y.grant < l → l ≤ x.grant → v < sumWith l))
      ∧ t.cycle = { s.cycle with callRequested := s.cycle.callRequested || s.heading }))
  ∧ ∀ (s : State) (a : ActiveConsist) (records : List CycleRecord),
    (∀ g ∈ s.grants.table, g.effectiveClass ≤ 3) → (∀ x ∈ a.entries, x.priority ≤ 3) →
    s.grants.table.length ≤ a.entries.length → s.grants.table.length ≤ records.length →
    let t := s.grantReturn a records
    let budget := s.grants.budget
    let first := ∀ g ∈ s.grants.table, g.seeded = false
    let within := fun (x : RosterEntry) (limit : Nat) =>
      ((x.levels.filter fun l => l ≤ limit).foldl max 0)
    let bases := s.grants.table.mapIdx fun i _ =>
      match a.entries[i]?, records[i]? with
      | some x, some r => min (within x (min 254 r.applied.toNat)) (within x (min 254 r.demand.toNat))
      | _, _ => 0
    t.grants.table.length = s.grants.table.length ∧ t.grants.budget = budget
    ∧ t.grants.room = (budget : Int) - ((t.grants.table.map fun g => max g.grant g.lastApplied).sum : Nat)
    ∧ (first ∨ grantSum s.grants.table ≤ budget → grantSum t.grants.table ≤ budget)
    ∧ (∀ (i : Nat) (y : GrantEntry), t.grants.table[i]? = some y → ∀ g : GrantEntry, s.grants.table[i]? = some g →
      ∀ r : CycleRecord, records[i]? = some r → ∀ x : RosterEntry, a.entries[i]? = some x →
        let demand := within x y.lastDemand
        let lowered := min (if first then within x y.lastApplied else g.grant) demand
        y.lastDemand = min 254 r.demand.toNat ∧ y.lastApplied = min 254 r.applied.toNat
        ∧ y.effectiveClass = (if r.doorOpen = true then 3 else x.priority)
        ∧ (y.seeded = true ↔ first ∨ g.seeded = true)
        ∧ (y.withheld = true ↔ y.grant < demand) ∧ y.grant ≤ demand
        ∧ (first ∨ g.grant ∈ x.levels → y.grant ∈ x.levels)
        ∧ (¬first → lowered ≤ y.grant)
        ∧ ∀ l ∈ x.levels, y.grant < l → l ≤ demand →
            t.grants.room < ((max l y.lastApplied - max y.grant y.lastApplied : Nat) : Int))
    ∧ (first → bases.sum ≤ budget → NoEvent s t
      ∧ ∀ (i : Nat) (y : GrantEntry) (base : Nat), t.grants.table[i]? = some y → bases[i]? = some base →
        base ≤ y.grant ∧ (budget < (t.grants.table.map (·.lastApplied)).sum → y.grant = base))
    ∧ (first → budget < bases.sum → RaisedAt .shedPerformed t
      ∧ ∀ (i : Nat) (y : GrantEntry) (base : Nat), t.grants.table[i]? = some y → bases[i]? = some base →
        ∀ x : RosterEntry, a.entries[i]? = some x →
          let classAt := fun j => (t.grants.table[j]?.map (·.effectiveClass)).getD 0
          let sumWith := fun mine : Nat => (bases.mapIdx fun j b =>
            if j = i then mine
            else if classAt j < y.effectiveClass ∨ classAt j = y.effectiveClass ∧ i < j then
              (t.grants.table[j]?.map (·.grant)).getD 0
            else b).sum
          (sumWith base ≤ budget → y.grant = base)
          ∧ (budget < sumWith base → (y.grant = 0 ∨ y.grant ∈ x.levels ∧ sumWith y.grant ≤ budget)
            ∧ ∀ l ∈ x.levels, y.grant < l → l ≤ base → budget < sumWith l))
    ∧ (¬first → NoEvent s t) ∧ OnlyRaises s t ∧ OnlyChanges [.grants, .portOf .portA, .portOf .portB] s t

/-- A stage that waited to its on-moment comes on, and the stage above it becomes the next of the rise by the step and
rest parts, or the rise ends; a resting stage that ends its Min Off becomes OFF, and where it is the next stage of a rise
it waits for its on-moment or comes on (the clock at an expiry is the model's: log 2). A target above the on-count begins
a rise where none is in progress, with the next stage's on-moment the latest of stagger, step and rest, and only lets the
stages follow where one is. Where the Demand or the Ceiling rises at the very moment at which a rise has reached its target,
that rise goes on with the step and rest parts, so that the end of a wait and a rise of the Demand or the Ceiling that come
together leave the same Stage Drive in either order (log 39); a write of the Stage Count or a Stage Power begins a new rise
there. A target at or below the on-count switches the stages above it off and ends the rise. -/
def Obligations.AStageTimerBringsAStageOnOrOff : Prop :=
  (∀ (s : State) (k d : Nat), s.power.held = false → 1 ≤ k → k ≤ 4 →
    (s.stage.stageAt (k - 1)).timer = some d →
    let now := max s.now d
    ((s.stage.stageAt (k - 1)).state = .waitingOn → ∃ t, exec (.stageTimerExpiry k) s = .next t
      ∧ t.now = now ∧ t.stage.stageAt (k - 1) = { state := .on, timer := none }
      ∧ t.stageOut k = true ∧ t.stage.target = s.stage.target ∧ t.stage.ceiling = s.stage.ceiling
      ∧ (∀ r, s.stage.rise = some r → s.onCount = k - 1 →
          let next := s.stage.stageAt k
          let rest := if next.state = .resting then next.timer.getD 0 else 0
          let moment := max (now + s.power.record.stepDelay * 100000) rest
          (s.stage.target ≤ k → t.stage.rise = none ∧ t.stage.lastOn = some now
            ∧ t.stage.ended = some { r with onMoment := now } ∧ ∀ j, j < 4 → j ≠ k - 1 → t.stage.stageAt j = s.stage.stageAt j)
          ∧ (k < s.stage.target → k < 4 → now < moment →
            t.stage.rise = some { r with onMoment := moment } ∧ t.stage.lastOn = some now
            ∧ (next.state = .off → t.stage.stageAt k = { state := .waitingOn, timer := some moment })
            ∧ (next.state = .resting → t.stage.stageAt k = next)
            ∧ ∀ j, j < 4 → j ≠ k - 1 → j ≠ k → t.stage.stageAt j = s.stage.stageAt j))
      ∧ NoEvent s t ∧ OnlyChanges [.clock, .stages, .cycle, .endOf .end1, .endOf .end2] s t)
    ∧ ((s.stage.stageAt (k - 1)).state = .resting → (s.stage.rise = none ∨ k - 1 ≠ s.onCount) →
      ∃ t, exec (.stageTimerExpiry k) s = .next t ∧ t.now = now
      ∧ t.stage.stageAt (k - 1) = { state := .off, timer := none }
      ∧ (∀ j, j < 4 → j ≠ k - 1 → t.stage.stageAt j = s.stage.stageAt j)
      ∧ NoEvent s t ∧ OnlyChanges [.clock, .stages] s t)
    ∧ ((s.stage.stageAt (k - 1)).state = .resting → ∀ r, s.stage.rise = some r → k - 1 = s.onCount →
      ∃ t, exec (.stageTimerExpiry k) s = .next t ∧ t.now = now ∧ t.stage.target = s.stage.target
      ∧ (now < r.onMoment → t.stage.stageAt (k - 1) = { state := .waitingOn, timer := some r.onMoment }
          ∧ t.stage.rise = s.stage.rise)
      ∧ (r.onMoment ≤ now → t.stage.stageAt (k - 1) = { state := .on, timer := none } ∧ t.stageOut k = true)
      ∧ NoEvent s t ∧ OnlyChanges [.clock, .stages, .cycle, .endOf .end1, .endOf .end2] s t))
  ∧ (∀ (s : State) (risen : Bool), s.recomputeTarget risen = (s.applyTarget (if s.asleep = true then 0
      else highestLevel s.power.record.powers.toList (min s.stage.ceiling s.stage.demand) s.stageCount)
      risen).sourceChanged)
  ∧ (∀ (s : State) (ceiling : Nat) (fallback : Bool), s.setCeiling ceiling fallback = State.recomputeTarget
      { s with stage := { s.stage with ceiling := ceiling, fallback := fallback } } (decide (s.stage.ceiling < ceiling)))
  ∧ (∀ (s : State) (v : Nat), s.setDemand v = if v = s.stage.demand then s else State.recomputeTarget
      (State.sourceChanged { s with stage := { s.stage with demand := v } }) (decide (s.stage.demand < v)))
  ∧ (∀ s : State, s.identityToStages = if s.stage.fallback = true then
      s.setCeiling (if s.loading = true then 0 else s.power.record.fallbackLimit) true else s.recomputeTarget false)
  ∧ (∀ (s : State) (k d : Nat), HeatingOk s → (s.stage.stageAt (k - 1)).timer = some d → d ≤ s.now →
    (s.stage.stageAt (k - 1)).state = .waitingOn ∨ (s.stage.stageAt (k - 1)).state = .resting →
    let eitherOrder := fun raise : State → State => s.stage.target ≤ (raise s).stage.target →
      (raise (s.stageTimerExpiry k)).stage = ((raise s).stageTimerExpiry k).stage
    (∀ v, eitherOrder (·.setDemand v)) ∧ ∀ ceiling fallback, eitherOrder (·.setCeiling ceiling fallback))
  ∧ ∀ (s : State) (target : Nat) (risen : Bool), target ≤ 4 →
    let t := s.applyTarget target risen
    let n := s.onCount
    let next := s.stage.stageAt n
    let stagger := match s.active with
      | some a => if s.heading = true then 0 else (a.position - 1) * (s.power.record.stagger * 10000)
      | none => 0
    let step := match s.stage.lastOn with
      | some m => m + s.power.record.stepDelay * 100000
      | none => 0
    let goesOn := s.stage.ended.filter fun r => risen && decide (r.onMoment = s.now)
    let first := if goesOn.isSome then 0 else s.now + stagger
    let moment := max first (max step (if next.state = .resting then next.timer.getD 0 else 0))
    let rise : Rise := { goesOn.getD { began := s.now, stagger := stagger, onMoment := s.now } with onMoment := moment }
    (target = s.stage.target → t = s)
    ∧ (target ≠ s.stage.target → t.stage.target = target ∧ t.stage.ceiling = s.stage.ceiling
        ∧ t.stage.demand = s.stage.demand ∧ OnlyChanges [.stages] s t)
    ∧ (target ≠ s.stage.target → n < target → ∀ r, s.stage.rise = some r →
        t.stage = { s.stage with target := target })
    ∧ (target ≠ s.stage.target → n < target → s.stage.rise = none →
      (next.state = .off → s.now < moment →
        t.stage.rise = some rise ∧ t.stage.ended = none
        ∧ t.stage.stageAt n = { state := .waitingOn, timer := some moment } ∧ t.stage.lastOn = s.stage.lastOn
        ∧ ∀ j, j < 4 → j ≠ n → t.stage.stageAt j = s.stage.stageAt j)
      ∧ (next.state = .off → moment ≤ s.now →
        t.stage.stageAt n = { state := .on, timer := none } ∧ t.stage.lastOn = some s.now)
      ∧ (next.state = .resting →
        t.stage = { s.stage with
          target := target, rise := some rise, ended := none }))
    ∧ (target ≠ s.stage.target → target ≤ n → t.stage.rise = none ∧ t.stage.ended = none ∧ t.stage.lastOn = s.stage.lastOn
      ∧ ∀ j, j < 4 → t.stage.stageAt j =
          if (s.stage.stageAt j).state = .waitingOn then { state := .off, timer := none }
          else if (s.stage.stageAt j).state = .on ∧ target ≤ j then
            (if s.power.record.minOff = 0 then { state := .off, timer := none }
             else { state := .resting, timer := some (s.now + s.power.record.minOff * 1000000) })
          else s.stage.stageAt j)

/-- A SETTLE of the current consist on the head-ward End, with one grant for each position, becomes the Last Settle,
sets the Ceiling from the grant at the own position and clears the Fallback flag, except that HOLD leaves both; it goes
on unchanged. With a grant list of another length it only restarts the silence timer and goes on; a SETTLE of another
identity, on the tail-ward End, or at a node that is no MEMBER is forwarded on the End opposite, without use. -/
def Obligations.ASettleSetsTheCeiling : Prop :=
  (∀ (s : State) (e : EndId) (f : Frame), f.kind = .settle →
    (∀ a, s.active = some a → e ≠ a.headward ∨ identityAt f.payload 0 ≠ a.identity) →
    s.handOn e f = s.place e.other .cycle f)
  ∧ (∀ (s : State) (a : ActiveConsist) (f : Frame), f.kind = .settle → s.active = some a → s.heading = false →
    identityAt f.payload 0 = a.identity → f.payload.length ≠ 10 + a.length →
    s.handOn a.headward f = ({ s with
      inaug := { s.inaug with silence := some (s.now + a.lineSilence * 1000) } }).place a.headward.other .cycle f)
  ∧ ∀ (s : State) (a : ActiveConsist) (f : Frame), f.kind = .settle → s.active = some a → s.heading = false →
    identityAt f.payload 0 = a.identity → f.payload.length = 10 + a.length →
    let t := s.handOn a.headward f
    let grant := num8 f.payload (9 + a.position)
    t.cycle.lastSettle = some
        { cycleNumber := num16 f.payload 6, nextMode := byteAt f.payload 8, proof := byteAt f.payload 9
          grant := grant }
      ∧ t.inaug.silence = some (s.now + a.lineSilence * 1000)
      ∧ (grant = 255 → t.stage = s.stage ∧ t.grants = s.grants)
      ∧ (grant ≠ 255 → t.stage.ceiling = grant ∧ t.stage.fallback = false
          ∧ t.grants = { s.grants with takenGrant := some grant }
          ∧ (s.grants.takenGrant ≠ some grant → RaisedAt .grantChanged t)
          ∧ (s.asleep = false → s.loading = false → t.stage.target
              = highestLevel s.power.record.powers.toList (min grant s.stage.demand) s.power.record.stageCount))
      ∧ (SlotFree s a.tailward .cycle → InSlot t a.tailward .cycle f)
      ∧ OnlyChanges [.inauguration, .cycle, .grants, .stages, .endOf .end1, .endOf .end2, .portOf .portA, .portOf .portB] s t

/-! ## Messages -/

/-- Take gives the lowest-numbered FREE buffer, cleared and selected, and Fetch the oldest buffer of the Inbound
Queue, with its number in the result; they are refused with QUOTA, EMPTY and EMPTY. -/
def Obligations.TakeAndFetchGiveABuffer : Prop :=
  ∀ (s : State) (p : PortId), Admitted s p none →
    ((s.queues p).quota ≤ s.portCount p → ∃ t, exec (.take p) s = .next t ∧ RefusedAt p .quota s t)
    ∧ (s.portCount p < (s.queues p).quota → s.freeBuffers = 0 →
        ∃ t, exec (.take p) s = .next t ∧ RefusedAt p .empty s t)
    ∧ (∀ n, s.portCount p < (s.queues p).quota → n < s.msg.buffers.length → s.bufferState n = .free →
        (∀ m, m < n → s.bufferState m ≠ .free) → ∃ t, exec (.take p) s = .next t
        ∧ Answered (s.port p) (t.port p) .done none n ∧ (t.port p).selectedBuffer = some n
        ∧ t.buffer n = { state := .held p, postIdentity := none, bytes := List.replicate 64 0 }
        ∧ (∀ m, m ≠ n → t.buffer m = s.buffer m)
        ∧ t.portCount p = s.portCount p + 1 ∧ t.freeBuffers + 1 = s.freeBuffers
        ∧ (s.freeBuffers = 8 → RaisedAt .freeLow t)
        ∧ (s.portCount p + 1 = (s.queues p).quota → t.flagSet p .quotaReached = true)
        ∧ t.msg = { s.msg with buffers := t.msg.buffers }
        ∧ OnlyChanges [.messages, .portOf .portA, .portOf .portB] s t)
    ∧ ((s.queues p).inbound = [] → ∃ t, exec (.fetch p) s = .next t ∧ RefusedAt p .empty s t)
    ∧ ∀ n rest, (s.queues p).inbound = n :: rest → n < s.msg.buffers.length → ∃ t, exec (.fetch p) s = .next t
        ∧ Answered (s.port p) (t.port p) .done none n ∧ (t.port p).selectedBuffer = some n
        ∧ t.buffer n = { s.buffer n with state := .held p } ∧ (∀ m, m ≠ n → t.buffer m = s.buffer m)
        ∧ t.queues p = { s.queues p with inbound := rest } ∧ t.queues p.other = s.queues p.other
        ∧ OnlyChanges [.messages, .portOf p] s t

/-- R153: Return makes the selected buffer that the port holds FREE, takes one from the port's count and ends the
selection; it is refused with NOT_HELD otherwise. A fetched buffer can be posted again without it, in a
transaction after the one that wrote the Fetch, and the Post writes its new header fields over the old ones; the sending stamps
the rest of the header afresh. -/
def Obligations.ReturnFreesTheSelectedBuffer : Prop :=
  ∀ (s : State) (p : PortId), Admitted s p none →
    (s.heldSelection p = none → ∃ t, exec (.returnBuffer p) s = .next t ∧ RefusedAt p .notHeld s t)
    ∧ (∀ n, s.heldSelection p = some n → ∃ t, exec (.returnBuffer p) s = .next t
      ∧ Answered (s.port p) (t.port p) .done none 0 ∧ (t.port p).selectedBuffer = none
      ∧ t.bufferState n = .free ∧ (∀ m, m ≠ n → t.buffer m = s.buffer m)
      ∧ t.portCount p + 1 = s.portCount p ∧ t.freeBuffers = s.freeBuffers + 1
      ∧ t.msg = { s.msg with buffers := t.msg.buffers } ∧ NoEvent s t
      ∧ OnlyChanges [.messages, .portOf p] s t)
    ∧ ∀ n rest a, (s.queues p).inbound = n :: rest → n < s.msg.buffers.length → s.active = some a →
        postRange s p a = true → 4 ≤ (s.buffer n).bytes.length →
        let posted := fun u : State => u.bufferState n = .outbound p
          ∧ (u.queues p).outbound = (s.queues p).outbound ++ [n] ∧ (u.queues p).inbound = rest
          ∧ (∀ i, i < 4 → byteAt (u.buffer n).bytes i = s.operand p (i + 1))
          ∧ ∀ q, 8 ≤ (s.buffer n).bytes.length →
            let v := u.sendBuffer a q n
            byteAt (v.buffer n).bytes 4 = byteOf a.position ∧ byteAt (v.buffer n).bytes 5 = (u.port q).role.code
              ∧ byteAt (v.buffer n).bytes 6 = byteOf v.msg.sequence
        (∃ t u v, exec (.fetch p) s = .next t ∧ exec (.transactionEnd p) t = .next u ∧ exec (.post p) u = .next v
          ∧ posted v)
        ∧ ((s.port p).transaction = none →
          ∃ t u, exec (.fetch p) s = .next t ∧ exec (.post p) t = .next u ∧ posted u)

/-- Post is refused with NOT_HELD, NO_CONSIST or RANGE in that order; otherwise it writes the four header bytes, gives
the buffer the Active identity, queues it OUTBOUND and ends the selection. Set Quotas is refused with RANGE or STATE,
or changes both quotas. -/
def Obligations.PostQueuesAndQuotasBound : Prop :=
  ∀ (s : State) (p : PortId), Admitted s p none →
    (s.heldSelection p = none → ∃ t, exec (.post p) s = .next t ∧ RefusedAt p .notHeld s t)
    ∧ (∀ n, s.heldSelection p = some n →
      (s.active = none → ∃ t, exec (.post p) s = .next t ∧ RefusedAt p .noConsist s t)
      ∧ ∀ a, s.active = some a →
        let d := s.operandNum p 1
        let fits := (d = 255 ∨ 1 ≤ d ∧ d ≤ a.length ∧ d ≠ a.position)
          ∧ (s.operandNum p 2 = 1 ∨ s.operandNum p 2 = 2) ∧ s.operandNum p 4 ≤ 56
        (¬fits → ∃ t, exec (.post p) s = .next t ∧ RefusedAt p .range s t)
        ∧ (fits → 4 ≤ (s.buffer n).bytes.length → ∃ t, exec (.post p) s = .next t
          ∧ Answered (s.port p) (t.port p) .done none 0 ∧ (t.port p).selectedBuffer = none
          ∧ t.bufferState n = .outbound p ∧ (t.buffer n).postIdentity = some a.identity
          ∧ (∀ i, byteAt (t.buffer n).bytes i =
              if i < 4 then s.operand p (i + 1) else byteAt (s.buffer n).bytes i)
          ∧ (∀ m, m ≠ n → t.buffer m = s.buffer m)
          ∧ t.queues p = { s.queues p with outbound := (s.queues p).outbound ++ [n] }
          ∧ t.portCount p = s.portCount p ∧ NoEvent s t ∧ OnlyChanges [.messages, .portOf p] s t))
    ∧ (let a := s.operandNum p 1
      let b := s.operandNum p 2
      let fits := 8 ≤ a ∧ a ≤ 88 ∧ 8 ≤ b ∧ b ≤ 88 ∧ a + b ≤ 96
      (¬fits → ∃ t, exec (.setQuotas p) s = .next t ∧ RefusedAt p .range s t)
      ∧ (fits → (a < s.portCount .portA ∨ b < s.portCount .portB) →
          ∃ t, exec (.setQuotas p) s = .next t ∧ RefusedAt p .state s t)
      ∧ (fits → s.portCount .portA ≤ a → s.portCount .portB ≤ b → ∃ t, exec (.setQuotas p) s = .next t
          ∧ (t.queues .portA).quota = a ∧ (t.queues .portB).quota = b
          ∧ (s.portCount .portA = a → (s.queues .portA).quota ≠ a → t.flagSet .portA .quotaReached = true)
          ∧ t.msg.buffers = s.msg.buffers ∧ DoneAt p [.messages] s t))

/-- The transmit server, free and ACTIVE, offers the oldest NOTE first toward its origin; else it takes the oldest
buffer of the pointed queue, or of the other port's where the pointed one has none that can be dealt with now, and the
pointer then names the other port: a stale one completes STALE, a unicast is stamped, entered In Flight and offered toward
its Destination, a broadcast is stamped and offered to both Ends, and completes SENT where neither has yet to take it. The
end of a storing and the expiry of a deadline put their buffer into its Inbound Queue (the clock at an expiry is the
model's: log 2; that a storing ends while the node sleeps is the model's choice: log 36). With nothing to deal with, with
an offer waiting or outside ACTIVE the server does nothing. -/
def Obligations.TheServerSendsAndMessagesComplete : Prop :=
  (∀ s : State, s.power.held = false → s.power.state = .active → s.msg.offer = none →
    let blocked := fun q : PortId => ∀ m rest, (s.queues q).outbound = m :: rest →
      s.stale m = false ∧ num8 (s.buffer m).bytes 0 ≠ 255 ∧ 4 ≤ s.msg.inFlight.length
    (s.msg.noteQueue = [] → (∀ q, blocked q) → exec .transmitServerStep s = .next s)
    ∧ (∀ f rest a, s.msg.noteQueue = f :: rest → s.active = some a → num8 f.payload 6 ≠ a.position →
      let e := if num8 f.payload 6 < a.position then a.headward else a.tailward
      ∃ t, exec .transmitServerStep s = .next t
        ∧ t.msg = { s.msg with
            noteQueue := rest
            offer := if s.usable e then
                some { kind := .note, frame := f, at1 := decide (e = .end1), at2 := decide (e = .end2) }
              else none }
        ∧ OnlyChanges [.messages] s t)
    ∧ ∀ (q : PortId) (n : Nat) (rest : List Nat), s.msg.noteQueue = [] → (s.queues q).outbound = n :: rest →
      q = s.msg.pointer ∨ blocked s.msg.pointer → n < s.msg.buffers.length →
      (s.stale n = true → ∀ p, (s.buffer n).state.owner = some p → ∃ t, exec .transmitServerStep s = .next t
        ∧ t.bufferState n = .inbound p ∧ (t.buffer n).bytes = (s.buffer n).bytes.set 7 3
        ∧ (t.queues q).outbound = rest ∧ (t.queues p).inbound = (s.queues p).inbound ++ [n]
        ∧ t.msg.pointer = q.other ∧ OnlyChanges [.messages] s t)
      ∧ ∀ a, s.stale n = false → s.active = some a → num8 (s.buffer n).bytes 0 ≠ 255 →
        s.msg.inFlight.length < 4 → (∀ x ∈ s.msg.inFlight, x.buffer ≠ n) → 8 ≤ (s.buffer n).bytes.length →
        s.msg.sequence ≤ 255 →
        let dest := num8 (s.buffer n).bytes 0
        let e := if dest < a.position then a.headward else a.tailward
        ∃ t, exec .transmitServerStep s = .next t ∧ t.bufferState n = .inFlight q
          ∧ 1 ≤ t.msg.sequence ∧ t.msg.sequence ≤ 255 ∧ t.msg.sequence ∉ s.msg.inFlight.map (·.sequence)
          ∧ t.msg.inFlight = s.msg.inFlight ++
              [{ sequence := t.msg.sequence, buffer := n, destination := dest
                 deadline := if s.usable e then none else some (s.now + 250000) }]
          ∧ t.msg.pointer = q.other ∧ (t.queues q).outbound = rest
          ∧ num8 (t.buffer n).bytes 4 = a.position % 256 ∧ byteAt (t.buffer n).bytes 5 = (s.port q).role.code ∧ num8 (t.buffer n).bytes 6 = t.msg.sequence
          ∧ (s.usable e = true → t.offeredTo e = some (msgFrame a.identity (t.buffer n).bytes))
          ∧ OnlyChanges [.messages] s t)
  ∧ (∀ s : State, s.power.state ≠ .active ∨ s.msg.offer ≠ none → exec .transmitServerStep s = .next s)
  ∧ (∀ (s : State) (a : ActiveConsist) (q : PortId) (n : Nat) (rest : List Nat), s.power.held = false →
      s.power.state = .active → s.msg.offer = none → s.msg.noteQueue = [] →
      (q = s.msg.pointer ∨ ∀ m rest, (s.queues s.msg.pointer).outbound = m :: rest →
        s.stale m = false ∧ num8 (s.buffer m).bytes 0 ≠ 255 ∧ 4 ≤ s.msg.inFlight.length) →
      (s.queues q).outbound = n :: rest → n < s.msg.buffers.length → s.stale n = false →
      s.active = some a → num8 (s.buffer n).bytes 0 = 255 → 8 ≤ (s.buffer n).bytes.length → s.msg.sequence ≤ 255 →
      ∃ t, exec .transmitServerStep s = .next t ∧ t.msg.inFlight = s.msg.inFlight.filter (fun x =>
            s.usable .end1 || s.usable .end2 || x.buffer != n)
        ∧ t.msg.pointer = q.other ∧ (t.queues q).outbound = rest
        ∧ num8 (t.buffer n).bytes 4 = a.position % 256 ∧ num8 (t.buffer n).bytes 6 = t.msg.sequence
        ∧ 1 ≤ t.msg.sequence ∧ t.msg.sequence ≤ 255
        ∧ (s.usable .end1 = true ∨ s.usable .end2 = true →
          t.msg.offer = some
            { kind := .broadcast n, frame := msgFrame a.identity (t.buffer n).bytes
              at1 := s.usable .end1, at2 := s.usable .end2 }
          ∧ t.bufferState n = s.bufferState n)
        ∧ (s.usable .end1 = false → s.usable .end2 = false → ∀ p, (s.buffer n).state.owner = some p →
          t.msg.offer = none ∧ t.bufferState n = .inbound p ∧ num8 (t.buffer n).bytes 7 = 5)
        ∧ OnlyChanges [.messages] s t)
  ∧ (∀ (s : State) (x : Storing) (p : PortId), s.power.held = false → x ∈ s.msg.storings →
      (∀ y ∈ s.msg.storings, y.buffer = x.buffer → y = x) → x.buffer < s.msg.buffers.length → s.bufferState x.buffer = .receiving p →
      ∃ t, exec (.storingEnd x.buffer) s = .next t ∧ t.bufferState x.buffer = .inbound p
        ∧ t.queues p = { s.queues p with inbound := (s.queues p).inbound ++ [x.buffer] }
        ∧ t.msg.storings = s.msg.storings.filter (fun y => y.buffer != x.buffer) ∧ t.msg.noteQueue = s.msg.noteQueue ++ x.note.toList
        ∧ t.flagByte p .message &&& 0x01 = 0x01 ∧ OnlyChanges [.messages] s t)
  ∧ ∀ (s : State) (y : InFlight) (d : Nat) (p : PortId), s.power.held = false → y ∈ s.msg.inFlight →
      (s.msg.inFlight.map (·.sequence)).Nodup → y.deadline = some d → y.buffer < s.msg.buffers.length →
      s.bufferState y.buffer = .inFlight p → ∃ t, exec (.deadlineExpiry y.sequence) s = .next t
        ∧ t.now = max s.now d ∧ t.bufferState y.buffer = .inbound p
        ∧ (t.buffer y.buffer).bytes = (s.buffer y.buffer).bytes.set 7 4
        ∧ t.queues p = { s.queues p with inbound := (s.queues p).inbound ++ [y.buffer] }
        ∧ (∀ z ∈ t.msg.inFlight, z.buffer ≠ y.buffer) ∧ OnlyChanges [.clock, .messages] s t

/-- A MSG for the own position is stored where there is room, with a NOTE of DELIVERED promised, answered REFUSED_FULL
where there is none, and dropped where the Note Queue is full; a MSG for ALL is stored or dropped without a NOTE and
passes on; a MSG of another identity changes nothing but what passing on does. A NOTE at its origin completes the buffer
of the In-Flight entry that it matches, with its Outcome, and is discarded where it matches none; elsewhere it passes on.
At a node that is no MEMBER every MSG and NOTE passes on. Passing on puts a frame at the end of the Through Queue of a usable
End that holds fewer than 6; a frame that finds 6 is dropped and counted, with Through Overflow; at an End that is not usable it
is dropped and counted without, but a MSG for ALL at an OPEN End, the end of the train, is dropped uncounted. -/
def Obligations.AMessageIsStoredAnsweredOrDropped : Prop :=
  (∀ (s : State) (e : EndId) (f : Frame),
    let l := s.lineEnd e
    let t := s.passThrough e f
    let counted := { l with throughDrop := min 255 (l.throughDrop + 1) }
    let atTheEnd := l.link = .opened ∧ f.kind = .msg ∧ num8 f.payload 6 = 255
    (s.usable e = true → l.throughQueue.length < 6 →
      t.lineEnd e = { l with throughQueue := l.throughQueue ++ [f] } ∧ OnlyChanges [.endOf e] s t)
    ∧ (s.usable e = true → 6 ≤ l.throughQueue.length → t.lineEnd e = counted ∧ RaisedOnly .throughOverflow s t
      ∧ OnlyChanges [.endOf e, .portOf .portA, .portOf .portB] s t)
    ∧ (s.usable e = false → ¬atTheEnd → t.lineEnd e = counted ∧ OnlyChanges [.endOf e] s t)
    ∧ (atTheEnd → t = s))
  ∧ (∀ (s : State) (e : EndId) (f : Frame), f.kind = .msg ∨ f.kind = .note → s.active = none →
    s.handOn e f = s.passThrough e.other f)
  ∧ (∀ (s : State) (a : ActiveConsist) (e : EndId) (f : Frame), f.kind = .note → s.active = some a →
    let t := s.handOn e f
    let outcome := byteAt f.payload 9
    let answers := fun x : InFlight => x.sequence = num8 f.payload 8 ∧ x.destination = num8 f.payload 7
    (num8 f.payload 6 ≠ a.position → t = s.passThrough e.other f)
    ∧ (num8 f.payload 6 = a.position →
      (identityAt f.payload 0 ≠ a.identity ∨ (outcome ≠ 1 ∧ outcome ≠ 2) ∨ (∀ x ∈ s.msg.inFlight, ¬answers x) → t = s)
      ∧ ∀ x ∈ s.msg.inFlight, answers x → identityAt f.payload 0 = a.identity → outcome = 1 ∨ outcome = 2 →
        (s.msg.inFlight.map (·.sequence)).Nodup → x.buffer < s.msg.buffers.length →
        ∀ p, (s.buffer x.buffer).state.owner = some p →
          t.bufferState x.buffer = .inbound p
          ∧ (t.buffer x.buffer).bytes = (s.buffer x.buffer).bytes.set 7 outcome
          ∧ (∀ m, m ≠ x.buffer → t.buffer m = s.buffer m)
          ∧ t.queues p = { s.queues p with inbound := (s.queues p).inbound ++ [x.buffer] }
          ∧ t.queues p.other = s.queues p.other
          ∧ t.msg.inFlight = s.msg.inFlight.filter (fun y => y.buffer != x.buffer)
          ∧ OnlyChanges [.messages] s t))
  ∧ ∀ (s : State) (a : ActiveConsist) (e : EndId) (f : Frame), f.kind = .msg → s.active = some a →
    a.position ≠ 255 →
    let t := s.handOn e f
    let room := s.room (byteAt f.payload 7)
    let note := fun status : Byte =>
      noteFrame (identityAt f.payload 0) (num8 f.payload 10) a.position (num8 f.payload 12) status
    (num8 f.payload 6 = a.position → identityAt f.payload 0 ≠ a.identity → t = s)
    ∧ (num8 f.payload 6 = a.position → identityAt f.payload 0 = a.identity →
      (8 ≤ s.notePlaces → t = s)
      ∧ (s.notePlaces < 8 → room = none → t = s.modMsg fun m => { m with noteQueue := m.noteQueue ++ [note 2] })
      ∧ ∀ p n, s.notePlaces < 8 → room = some (p, n) → t.bufferState n = .receiving p
        ∧ (t.buffer n).postIdentity = none ∧ (t.buffer n).bytes = storedBytes f.payload
        ∧ t.msg.storings = s.msg.storings ++ [{ buffer := n, reserved := true, note := some (note 1) }]
        ∧ t.msg.noteQueue = s.msg.noteQueue ∧ t.portCount p = s.portCount p + 1
        ∧ OnlyRaises s t ∧ OnlyChanges [.messages, .portOf .portA, .portOf .portB] s t)
    ∧ (num8 f.payload 6 = 255 → identityAt f.payload 0 = a.identity →
      (room = none → t = s.passThrough e.other f)
      ∧ ∀ p n, room = some (p, n) → t.bufferState n = .receiving p
        ∧ t.msg.storings = s.msg.storings ++ [{ buffer := n, reserved := false, note := none }]
        ∧ t.msg.noteQueue = s.msg.noteQueue
        ∧ t.lineEnd e.other = (s.passThrough e.other f).lineEnd e.other
        ∧ OnlyRaises s t ∧ OnlyChanges [.messages, .endOf e.other, .portOf .portA, .portOf .portB] s t)
    ∧ (num8 f.payload 6 = 255 → identityAt f.payload 0 ≠ a.identity → t = s.passThrough e.other f)
    ∧ (num8 f.payload 6 ≠ a.position → num8 f.payload 6 ≠ 255 → t = s.passThrough e.other f)

end Slice0Obligations
end

