-- ==== Sys2Proof/Laws/State.lean ====
section
/-! SUPPORT. One lemma per field and update of State, each true by definition, so that no proof unfolds a record update. -/

namespace Sys2Proof.Machine

variable (s : State)

/-! ## modInaug -/

@[simp] theorem modInaug_now (g : Inauguration → Inauguration) : (s.modInaug g).now = s.now := rfl
@[simp] theorem modInaug_moments (g : Inauguration → Inauguration) : (s.modInaug g).moments = s.moments := rfl
@[simp] theorem modInaug_freeCount (g : Inauguration → Inauguration) : (s.modInaug g).freeCount = s.freeCount := rfl
@[simp] theorem modInaug_end1 (g : Inauguration → Inauguration) : (s.modInaug g).end1 = s.end1 := rfl
@[simp] theorem modInaug_end2 (g : Inauguration → Inauguration) : (s.modInaug g).end2 = s.end2 := rfl
@[simp] theorem modInaug_inaug (g : Inauguration → Inauguration) : (s.modInaug g).inaug = g s.inaug := rfl
@[simp] theorem modInaug_cycle (g : Inauguration → Inauguration) : (s.modInaug g).cycle = s.cycle := rfl
@[simp] theorem modInaug_door (g : Inauguration → Inauguration) : (s.modInaug g).door = s.door := rfl
@[simp] theorem modInaug_track (g : Inauguration → Inauguration) : (s.modInaug g).track = s.track := rfl
@[simp] theorem modInaug_grants (g : Inauguration → Inauguration) : (s.modInaug g).grants = s.grants := rfl
@[simp] theorem modInaug_stage (g : Inauguration → Inauguration) : (s.modInaug g).stage = s.stage := rfl
@[simp] theorem modInaug_msg (g : Inauguration → Inauguration) : (s.modInaug g).msg = s.msg := rfl
@[simp] theorem modInaug_portA (g : Inauguration → Inauguration) : (s.modInaug g).portA = s.portA := rfl
@[simp] theorem modInaug_portB (g : Inauguration → Inauguration) : (s.modInaug g).portB = s.portB := rfl
@[simp] theorem modInaug_power (g : Inauguration → Inauguration) : (s.modInaug g).power = s.power := rfl
@[simp] theorem modInaug_pending (g : Inauguration → Inauguration) : (s.modInaug g).pending = s.pending := rfl

/-! ## modCycle -/

@[simp] theorem modCycle_now (g : Cycle → Cycle) : (s.modCycle g).now = s.now := rfl
@[simp] theorem modCycle_moments (g : Cycle → Cycle) : (s.modCycle g).moments = s.moments := rfl
@[simp] theorem modCycle_freeCount (g : Cycle → Cycle) : (s.modCycle g).freeCount = s.freeCount := rfl
@[simp] theorem modCycle_end1 (g : Cycle → Cycle) : (s.modCycle g).end1 = s.end1 := rfl
@[simp] theorem modCycle_end2 (g : Cycle → Cycle) : (s.modCycle g).end2 = s.end2 := rfl
@[simp] theorem modCycle_inaug (g : Cycle → Cycle) : (s.modCycle g).inaug = s.inaug := rfl
@[simp] theorem modCycle_cycle (g : Cycle → Cycle) : (s.modCycle g).cycle = g s.cycle := rfl
@[simp] theorem modCycle_door (g : Cycle → Cycle) : (s.modCycle g).door = s.door := rfl
@[simp] theorem modCycle_track (g : Cycle → Cycle) : (s.modCycle g).track = s.track := rfl
@[simp] theorem modCycle_grants (g : Cycle → Cycle) : (s.modCycle g).grants = s.grants := rfl
@[simp] theorem modCycle_stage (g : Cycle → Cycle) : (s.modCycle g).stage = s.stage := rfl
@[simp] theorem modCycle_msg (g : Cycle → Cycle) : (s.modCycle g).msg = s.msg := rfl
@[simp] theorem modCycle_portA (g : Cycle → Cycle) : (s.modCycle g).portA = s.portA := rfl
@[simp] theorem modCycle_portB (g : Cycle → Cycle) : (s.modCycle g).portB = s.portB := rfl
@[simp] theorem modCycle_power (g : Cycle → Cycle) : (s.modCycle g).power = s.power := rfl
@[simp] theorem modCycle_pending (g : Cycle → Cycle) : (s.modCycle g).pending = s.pending := rfl

/-! ## modDoor -/

@[simp] theorem modDoor_now (g : Door → Door) : (s.modDoor g).now = s.now := rfl
@[simp] theorem modDoor_moments (g : Door → Door) : (s.modDoor g).moments = s.moments := rfl
@[simp] theorem modDoor_freeCount (g : Door → Door) : (s.modDoor g).freeCount = s.freeCount := rfl
@[simp] theorem modDoor_end1 (g : Door → Door) : (s.modDoor g).end1 = s.end1 := rfl
@[simp] theorem modDoor_end2 (g : Door → Door) : (s.modDoor g).end2 = s.end2 := rfl
@[simp] theorem modDoor_inaug (g : Door → Door) : (s.modDoor g).inaug = s.inaug := rfl
@[simp] theorem modDoor_cycle (g : Door → Door) : (s.modDoor g).cycle = s.cycle := rfl
@[simp] theorem modDoor_door (g : Door → Door) : (s.modDoor g).door = g s.door := rfl
@[simp] theorem modDoor_track (g : Door → Door) : (s.modDoor g).track = s.track := rfl
@[simp] theorem modDoor_grants (g : Door → Door) : (s.modDoor g).grants = s.grants := rfl
@[simp] theorem modDoor_stage (g : Door → Door) : (s.modDoor g).stage = s.stage := rfl
@[simp] theorem modDoor_msg (g : Door → Door) : (s.modDoor g).msg = s.msg := rfl
@[simp] theorem modDoor_portA (g : Door → Door) : (s.modDoor g).portA = s.portA := rfl
@[simp] theorem modDoor_portB (g : Door → Door) : (s.modDoor g).portB = s.portB := rfl
@[simp] theorem modDoor_power (g : Door → Door) : (s.modDoor g).power = s.power := rfl
@[simp] theorem modDoor_pending (g : Door → Door) : (s.modDoor g).pending = s.pending := rfl

/-! ## modTrack -/

@[simp] theorem modTrack_now (g : Tracking → Tracking) : (s.modTrack g).now = s.now := rfl
@[simp] theorem modTrack_moments (g : Tracking → Tracking) : (s.modTrack g).moments = s.moments := rfl
@[simp] theorem modTrack_freeCount (g : Tracking → Tracking) : (s.modTrack g).freeCount = s.freeCount := rfl
@[simp] theorem modTrack_end1 (g : Tracking → Tracking) : (s.modTrack g).end1 = s.end1 := rfl
@[simp] theorem modTrack_end2 (g : Tracking → Tracking) : (s.modTrack g).end2 = s.end2 := rfl
@[simp] theorem modTrack_inaug (g : Tracking → Tracking) : (s.modTrack g).inaug = s.inaug := rfl
@[simp] theorem modTrack_cycle (g : Tracking → Tracking) : (s.modTrack g).cycle = s.cycle := rfl
@[simp] theorem modTrack_door (g : Tracking → Tracking) : (s.modTrack g).door = s.door := rfl
@[simp] theorem modTrack_track (g : Tracking → Tracking) : (s.modTrack g).track = g s.track := rfl
@[simp] theorem modTrack_grants (g : Tracking → Tracking) : (s.modTrack g).grants = s.grants := rfl
@[simp] theorem modTrack_stage (g : Tracking → Tracking) : (s.modTrack g).stage = s.stage := rfl
@[simp] theorem modTrack_msg (g : Tracking → Tracking) : (s.modTrack g).msg = s.msg := rfl
@[simp] theorem modTrack_portA (g : Tracking → Tracking) : (s.modTrack g).portA = s.portA := rfl
@[simp] theorem modTrack_portB (g : Tracking → Tracking) : (s.modTrack g).portB = s.portB := rfl
@[simp] theorem modTrack_power (g : Tracking → Tracking) : (s.modTrack g).power = s.power := rfl
@[simp] theorem modTrack_pending (g : Tracking → Tracking) : (s.modTrack g).pending = s.pending := rfl

/-! ## modGrants -/

@[simp] theorem modGrants_now (g : GrantEngine → GrantEngine) : (s.modGrants g).now = s.now := rfl
@[simp] theorem modGrants_moments (g : GrantEngine → GrantEngine) : (s.modGrants g).moments = s.moments := rfl
@[simp] theorem modGrants_freeCount (g : GrantEngine → GrantEngine) : (s.modGrants g).freeCount = s.freeCount := rfl
@[simp] theorem modGrants_end1 (g : GrantEngine → GrantEngine) : (s.modGrants g).end1 = s.end1 := rfl
@[simp] theorem modGrants_end2 (g : GrantEngine → GrantEngine) : (s.modGrants g).end2 = s.end2 := rfl
@[simp] theorem modGrants_inaug (g : GrantEngine → GrantEngine) : (s.modGrants g).inaug = s.inaug := rfl
@[simp] theorem modGrants_cycle (g : GrantEngine → GrantEngine) : (s.modGrants g).cycle = s.cycle := rfl
@[simp] theorem modGrants_door (g : GrantEngine → GrantEngine) : (s.modGrants g).door = s.door := rfl
@[simp] theorem modGrants_track (g : GrantEngine → GrantEngine) : (s.modGrants g).track = s.track := rfl
@[simp] theorem modGrants_grants (g : GrantEngine → GrantEngine) : (s.modGrants g).grants = g s.grants := rfl
@[simp] theorem modGrants_stage (g : GrantEngine → GrantEngine) : (s.modGrants g).stage = s.stage := rfl
@[simp] theorem modGrants_msg (g : GrantEngine → GrantEngine) : (s.modGrants g).msg = s.msg := rfl
@[simp] theorem modGrants_portA (g : GrantEngine → GrantEngine) : (s.modGrants g).portA = s.portA := rfl
@[simp] theorem modGrants_portB (g : GrantEngine → GrantEngine) : (s.modGrants g).portB = s.portB := rfl
@[simp] theorem modGrants_power (g : GrantEngine → GrantEngine) : (s.modGrants g).power = s.power := rfl
@[simp] theorem modGrants_pending (g : GrantEngine → GrantEngine) : (s.modGrants g).pending = s.pending := rfl

/-! ## modStage -/

@[simp] theorem modStage_now (g : StageDrive → StageDrive) : (s.modStage g).now = s.now := rfl
@[simp] theorem modStage_moments (g : StageDrive → StageDrive) : (s.modStage g).moments = s.moments := rfl
@[simp] theorem modStage_freeCount (g : StageDrive → StageDrive) : (s.modStage g).freeCount = s.freeCount := rfl
@[simp] theorem modStage_end1 (g : StageDrive → StageDrive) : (s.modStage g).end1 = s.end1 := rfl
@[simp] theorem modStage_end2 (g : StageDrive → StageDrive) : (s.modStage g).end2 = s.end2 := rfl
@[simp] theorem modStage_inaug (g : StageDrive → StageDrive) : (s.modStage g).inaug = s.inaug := rfl
@[simp] theorem modStage_cycle (g : StageDrive → StageDrive) : (s.modStage g).cycle = s.cycle := rfl
@[simp] theorem modStage_door (g : StageDrive → StageDrive) : (s.modStage g).door = s.door := rfl
@[simp] theorem modStage_track (g : StageDrive → StageDrive) : (s.modStage g).track = s.track := rfl
@[simp] theorem modStage_grants (g : StageDrive → StageDrive) : (s.modStage g).grants = s.grants := rfl
@[simp] theorem modStage_stage (g : StageDrive → StageDrive) : (s.modStage g).stage = g s.stage := rfl
@[simp] theorem modStage_msg (g : StageDrive → StageDrive) : (s.modStage g).msg = s.msg := rfl
@[simp] theorem modStage_portA (g : StageDrive → StageDrive) : (s.modStage g).portA = s.portA := rfl
@[simp] theorem modStage_portB (g : StageDrive → StageDrive) : (s.modStage g).portB = s.portB := rfl
@[simp] theorem modStage_power (g : StageDrive → StageDrive) : (s.modStage g).power = s.power := rfl
@[simp] theorem modStage_pending (g : StageDrive → StageDrive) : (s.modStage g).pending = s.pending := rfl

/-! ## modMsg -/

@[simp] theorem modMsg_now (g : MessageUnit → MessageUnit) : (s.modMsg g).now = s.now := rfl
@[simp] theorem modMsg_moments (g : MessageUnit → MessageUnit) : (s.modMsg g).moments = s.moments := rfl
@[simp] theorem modMsg_freeCount (g : MessageUnit → MessageUnit) : (s.modMsg g).freeCount = s.freeCount := rfl
@[simp] theorem modMsg_end1 (g : MessageUnit → MessageUnit) : (s.modMsg g).end1 = s.end1 := rfl
@[simp] theorem modMsg_end2 (g : MessageUnit → MessageUnit) : (s.modMsg g).end2 = s.end2 := rfl
@[simp] theorem modMsg_inaug (g : MessageUnit → MessageUnit) : (s.modMsg g).inaug = s.inaug := rfl
@[simp] theorem modMsg_cycle (g : MessageUnit → MessageUnit) : (s.modMsg g).cycle = s.cycle := rfl
@[simp] theorem modMsg_door (g : MessageUnit → MessageUnit) : (s.modMsg g).door = s.door := rfl
@[simp] theorem modMsg_track (g : MessageUnit → MessageUnit) : (s.modMsg g).track = s.track := rfl
@[simp] theorem modMsg_grants (g : MessageUnit → MessageUnit) : (s.modMsg g).grants = s.grants := rfl
@[simp] theorem modMsg_stage (g : MessageUnit → MessageUnit) : (s.modMsg g).stage = s.stage := rfl
@[simp] theorem modMsg_msg (g : MessageUnit → MessageUnit) : (s.modMsg g).msg = g s.msg := rfl
@[simp] theorem modMsg_portA (g : MessageUnit → MessageUnit) : (s.modMsg g).portA = s.portA := rfl
@[simp] theorem modMsg_portB (g : MessageUnit → MessageUnit) : (s.modMsg g).portB = s.portB := rfl
@[simp] theorem modMsg_power (g : MessageUnit → MessageUnit) : (s.modMsg g).power = s.power := rfl
@[simp] theorem modMsg_pending (g : MessageUnit → MessageUnit) : (s.modMsg g).pending = s.pending := rfl

/-! ## modPower -/

@[simp] theorem modPower_now (g : Power → Power) : (s.modPower g).now = s.now := rfl
@[simp] theorem modPower_moments (g : Power → Power) : (s.modPower g).moments = s.moments := rfl
@[simp] theorem modPower_freeCount (g : Power → Power) : (s.modPower g).freeCount = s.freeCount := rfl
@[simp] theorem modPower_end1 (g : Power → Power) : (s.modPower g).end1 = s.end1 := rfl
@[simp] theorem modPower_end2 (g : Power → Power) : (s.modPower g).end2 = s.end2 := rfl
@[simp] theorem modPower_inaug (g : Power → Power) : (s.modPower g).inaug = s.inaug := rfl
@[simp] theorem modPower_cycle (g : Power → Power) : (s.modPower g).cycle = s.cycle := rfl
@[simp] theorem modPower_door (g : Power → Power) : (s.modPower g).door = s.door := rfl
@[simp] theorem modPower_track (g : Power → Power) : (s.modPower g).track = s.track := rfl
@[simp] theorem modPower_grants (g : Power → Power) : (s.modPower g).grants = s.grants := rfl
@[simp] theorem modPower_stage (g : Power → Power) : (s.modPower g).stage = s.stage := rfl
@[simp] theorem modPower_msg (g : Power → Power) : (s.modPower g).msg = s.msg := rfl
@[simp] theorem modPower_portA (g : Power → Power) : (s.modPower g).portA = s.portA := rfl
@[simp] theorem modPower_portB (g : Power → Power) : (s.modPower g).portB = s.portB := rfl
@[simp] theorem modPower_power (g : Power → Power) : (s.modPower g).power = g s.power := rfl
@[simp] theorem modPower_pending (g : Power → Power) : (s.modPower g).pending = s.pending := rfl

/-! ## tickMoment, reach, idle -/

@[simp] theorem tickMoment_now : s.tickMoment.now = s.now := rfl
@[simp] theorem tickMoment_moments : s.tickMoment.moments = s.moments + 1 := rfl
@[simp] theorem tickMoment_freeCount : s.tickMoment.freeCount = s.freeCount := rfl
@[simp] theorem tickMoment_end1 : s.tickMoment.end1 = s.end1 := rfl
@[simp] theorem tickMoment_end2 : s.tickMoment.end2 = s.end2 := rfl
@[simp] theorem tickMoment_inaug : s.tickMoment.inaug = s.inaug := rfl
@[simp] theorem tickMoment_cycle : s.tickMoment.cycle = s.cycle := rfl
@[simp] theorem tickMoment_door : s.tickMoment.door = s.door := rfl
@[simp] theorem tickMoment_track : s.tickMoment.track = s.track := rfl
@[simp] theorem tickMoment_grants : s.tickMoment.grants = s.grants := rfl
@[simp] theorem tickMoment_stage : s.tickMoment.stage = s.stage := rfl
@[simp] theorem tickMoment_msg : s.tickMoment.msg = s.msg := rfl
@[simp] theorem tickMoment_portA : s.tickMoment.portA = s.portA := rfl
@[simp] theorem tickMoment_portB : s.tickMoment.portB = s.portB := rfl
@[simp] theorem tickMoment_power : s.tickMoment.power = s.power := rfl
@[simp] theorem tickMoment_pending : s.tickMoment.pending = s.pending := rfl

@[simp] theorem reach_now (d : Nat) : (s.reach d).now = max s.now d := rfl
@[simp] theorem reach_moments (d : Nat) : (s.reach d).moments = s.moments := rfl
@[simp] theorem reach_freeCount (d : Nat) : (s.reach d).freeCount = s.freeCount := rfl
@[simp] theorem reach_end1 (d : Nat) : (s.reach d).end1 = s.end1 := rfl
@[simp] theorem reach_end2 (d : Nat) : (s.reach d).end2 = s.end2 := rfl
@[simp] theorem reach_inaug (d : Nat) : (s.reach d).inaug = s.inaug := rfl
@[simp] theorem reach_cycle (d : Nat) : (s.reach d).cycle = s.cycle := rfl
@[simp] theorem reach_door (d : Nat) : (s.reach d).door = s.door := rfl
@[simp] theorem reach_track (d : Nat) : (s.reach d).track = s.track := rfl
@[simp] theorem reach_grants (d : Nat) : (s.reach d).grants = s.grants := rfl
@[simp] theorem reach_stage (d : Nat) : (s.reach d).stage = s.stage := rfl
@[simp] theorem reach_msg (d : Nat) : (s.reach d).msg = s.msg := rfl
@[simp] theorem reach_portA (d : Nat) : (s.reach d).portA = s.portA := rfl
@[simp] theorem reach_portB (d : Nat) : (s.reach d).portB = s.portB := rfl
@[simp] theorem reach_power (d : Nat) : (s.reach d).power = s.power := rfl
@[simp] theorem reach_pending (d : Nat) : (s.reach d).pending = s.pending := rfl

@[simp] theorem idle_now : s.idle.now = s.now + 1 := rfl
@[simp] theorem idle_moments : s.idle.moments = s.moments := rfl
@[simp] theorem idle_freeCount : s.idle.freeCount = s.freeCount := rfl
@[simp] theorem idle_end1 : s.idle.end1 = s.end1 := rfl
@[simp] theorem idle_end2 : s.idle.end2 = s.end2 := rfl
@[simp] theorem idle_inaug : s.idle.inaug = s.inaug := rfl
@[simp] theorem idle_cycle : s.idle.cycle = s.cycle := rfl
@[simp] theorem idle_door : s.idle.door = s.door := rfl
@[simp] theorem idle_track : s.idle.track = s.track := rfl
@[simp] theorem idle_grants : s.idle.grants = s.grants := rfl
@[simp] theorem idle_stage : s.idle.stage = s.stage := rfl
@[simp] theorem idle_msg : s.idle.msg = s.msg := rfl
@[simp] theorem idle_portA : s.idle.portA = s.portA := rfl
@[simp] theorem idle_portB : s.idle.portB = s.portB := rfl
@[simp] theorem idle_power : s.idle.power = s.power := rfl
@[simp] theorem idle_pending : s.idle.pending = s.pending := rfl

/-! ## modEnd -/

@[simp] theorem modEnd_now (e : EndId) (g : LineEnd → LineEnd) : (s.modEnd e g).now = s.now := by
  cases e <;> rfl
@[simp] theorem modEnd_moments (e : EndId) (g : LineEnd → LineEnd) : (s.modEnd e g).moments = s.moments := by
  cases e <;> rfl
@[simp] theorem modEnd_freeCount (e : EndId) (g : LineEnd → LineEnd) : (s.modEnd e g).freeCount = s.freeCount := by
  cases e <;> rfl
@[simp] theorem modEnd_end1_end1 (g : LineEnd → LineEnd) : (s.modEnd .end1 g).end1 = g s.end1 := rfl
@[simp] theorem modEnd_end2_end1 (g : LineEnd → LineEnd) : (s.modEnd .end2 g).end1 = s.end1 := rfl
@[simp] theorem modEnd_end2_end2 (g : LineEnd → LineEnd) : (s.modEnd .end2 g).end2 = g s.end2 := rfl
@[simp] theorem modEnd_end1_end2 (g : LineEnd → LineEnd) : (s.modEnd .end1 g).end2 = s.end2 := rfl
@[simp] theorem modEnd_inaug (e : EndId) (g : LineEnd → LineEnd) : (s.modEnd e g).inaug = s.inaug := by
  cases e <;> rfl
@[simp] theorem modEnd_cycle (e : EndId) (g : LineEnd → LineEnd) : (s.modEnd e g).cycle = s.cycle := by
  cases e <;> rfl
@[simp] theorem modEnd_door (e : EndId) (g : LineEnd → LineEnd) : (s.modEnd e g).door = s.door := by
  cases e <;> rfl
@[simp] theorem modEnd_track (e : EndId) (g : LineEnd → LineEnd) : (s.modEnd e g).track = s.track := by
  cases e <;> rfl
@[simp] theorem modEnd_grants (e : EndId) (g : LineEnd → LineEnd) : (s.modEnd e g).grants = s.grants := by
  cases e <;> rfl
@[simp] theorem modEnd_stage (e : EndId) (g : LineEnd → LineEnd) : (s.modEnd e g).stage = s.stage := by
  cases e <;> rfl
@[simp] theorem modEnd_msg (e : EndId) (g : LineEnd → LineEnd) : (s.modEnd e g).msg = s.msg := by
  cases e <;> rfl
@[simp] theorem modEnd_portA (e : EndId) (g : LineEnd → LineEnd) : (s.modEnd e g).portA = s.portA := by
  cases e <;> rfl
@[simp] theorem modEnd_portB (e : EndId) (g : LineEnd → LineEnd) : (s.modEnd e g).portB = s.portB := by
  cases e <;> rfl
@[simp] theorem modEnd_power (e : EndId) (g : LineEnd → LineEnd) : (s.modEnd e g).power = s.power := by
  cases e <;> rfl
@[simp] theorem modEnd_pending (e : EndId) (g : LineEnd → LineEnd) : (s.modEnd e g).pending = s.pending := by
  cases e <;> rfl

/-! ## modPort -/

@[simp] theorem modPort_now (p : PortId) (g : Port → Port) : (s.modPort p g).now = s.now := by
  cases p <;> rfl
@[simp] theorem modPort_moments (p : PortId) (g : Port → Port) : (s.modPort p g).moments = s.moments := by
  cases p <;> rfl
@[simp] theorem modPort_freeCount (p : PortId) (g : Port → Port) : (s.modPort p g).freeCount = s.freeCount := by
  cases p <;> rfl
@[simp] theorem modPort_end1 (p : PortId) (g : Port → Port) : (s.modPort p g).end1 = s.end1 := by
  cases p <;> rfl
@[simp] theorem modPort_end2 (p : PortId) (g : Port → Port) : (s.modPort p g).end2 = s.end2 := by
  cases p <;> rfl
@[simp] theorem modPort_inaug (p : PortId) (g : Port → Port) : (s.modPort p g).inaug = s.inaug := by
  cases p <;> rfl
@[simp] theorem modPort_cycle (p : PortId) (g : Port → Port) : (s.modPort p g).cycle = s.cycle := by
  cases p <;> rfl
@[simp] theorem modPort_door (p : PortId) (g : Port → Port) : (s.modPort p g).door = s.door := by
  cases p <;> rfl
@[simp] theorem modPort_track (p : PortId) (g : Port → Port) : (s.modPort p g).track = s.track := by
  cases p <;> rfl
@[simp] theorem modPort_grants (p : PortId) (g : Port → Port) : (s.modPort p g).grants = s.grants := by
  cases p <;> rfl
@[simp] theorem modPort_stage (p : PortId) (g : Port → Port) : (s.modPort p g).stage = s.stage := by
  cases p <;> rfl
@[simp] theorem modPort_msg (p : PortId) (g : Port → Port) : (s.modPort p g).msg = s.msg := by
  cases p <;> rfl
@[simp] theorem modPort_portA_portA (g : Port → Port) : (s.modPort .portA g).portA = g s.portA := rfl
@[simp] theorem modPort_portB_portA (g : Port → Port) : (s.modPort .portB g).portA = s.portA := rfl
@[simp] theorem modPort_portB_portB (g : Port → Port) : (s.modPort .portB g).portB = g s.portB := rfl
@[simp] theorem modPort_portA_portB (g : Port → Port) : (s.modPort .portA g).portB = s.portB := rfl
@[simp] theorem modPort_power (p : PortId) (g : Port → Port) : (s.modPort p g).power = s.power := by
  cases p <;> rfl
@[simp] theorem modPort_pending (p : PortId) (g : Port → Port) : (s.modPort p g).pending = s.pending := by
  cases p <;> rfl

/-! ## Ends and ports by name -/

@[simp] theorem lineEnd_modEnd_same (e : EndId) (g : LineEnd → LineEnd) :
    (s.modEnd e g).lineEnd e = g (s.lineEnd e) := by
  cases e <;> rfl
@[simp] theorem lineEnd_modEnd_other (e : EndId) (g : LineEnd → LineEnd) :
    (s.modEnd e g).lineEnd e.other = s.lineEnd e.other := by
  cases e <;> rfl
theorem lineEnd_modEnd (e d : EndId) (g : LineEnd → LineEnd) :
    (s.modEnd e g).lineEnd d = if d = e then g (s.lineEnd d) else s.lineEnd d := by
  cases e <;> cases d <;> rfl
@[simp] theorem port_modPort_same (p : PortId) (g : Port → Port) : (s.modPort p g).port p = g (s.port p) := by
  cases p <;> rfl
@[simp] theorem port_modPort_other (p : PortId) (g : Port → Port) :
    (s.modPort p g).port p.other = s.port p.other := by
  cases p <;> rfl
theorem port_modPort (p q : PortId) (g : Port → Port) :
    (s.modPort p g).port q = if q = p then g (s.port q) else s.port q := by
  cases p <;> cases q <;> rfl
@[simp] theorem port_modEnd (e : EndId) (g : LineEnd → LineEnd) (p : PortId) : (s.modEnd e g).port p = s.port p := by
  cases e <;> cases p <;> rfl
@[simp] theorem lineEnd_modPort (p : PortId) (g : Port → Port) (e : EndId) :
    (s.modPort p g).lineEnd e = s.lineEnd e := by
  cases e <;> cases p <;> rfl

@[simp] theorem lineEnd_modInaug (g : Inauguration → Inauguration) (e : EndId) : (s.modInaug g).lineEnd e = s.lineEnd e := by
  cases e <;> rfl
@[simp] theorem port_modInaug (g : Inauguration → Inauguration) (p : PortId) : (s.modInaug g).port p = s.port p := by
  cases p <;> rfl
@[simp] theorem lineEnd_modCycle (g : Cycle → Cycle) (e : EndId) : (s.modCycle g).lineEnd e = s.lineEnd e := by
  cases e <;> rfl
@[simp] theorem port_modCycle (g : Cycle → Cycle) (p : PortId) : (s.modCycle g).port p = s.port p := by
  cases p <;> rfl
@[simp] theorem lineEnd_modDoor (g : Door → Door) (e : EndId) : (s.modDoor g).lineEnd e = s.lineEnd e := by
  cases e <;> rfl
@[simp] theorem port_modDoor (g : Door → Door) (p : PortId) : (s.modDoor g).port p = s.port p := by
  cases p <;> rfl
@[simp] theorem lineEnd_modTrack (g : Tracking → Tracking) (e : EndId) : (s.modTrack g).lineEnd e = s.lineEnd e := by
  cases e <;> rfl
@[simp] theorem port_modTrack (g : Tracking → Tracking) (p : PortId) : (s.modTrack g).port p = s.port p := by
  cases p <;> rfl
@[simp] theorem lineEnd_modGrants (g : GrantEngine → GrantEngine) (e : EndId) : (s.modGrants g).lineEnd e = s.lineEnd e := by
  cases e <;> rfl
@[simp] theorem port_modGrants (g : GrantEngine → GrantEngine) (p : PortId) : (s.modGrants g).port p = s.port p := by
  cases p <;> rfl
@[simp] theorem lineEnd_modStage (g : StageDrive → StageDrive) (e : EndId) : (s.modStage g).lineEnd e = s.lineEnd e := by
  cases e <;> rfl
@[simp] theorem port_modStage (g : StageDrive → StageDrive) (p : PortId) : (s.modStage g).port p = s.port p := by
  cases p <;> rfl
@[simp] theorem lineEnd_modMsg (g : MessageUnit → MessageUnit) (e : EndId) : (s.modMsg g).lineEnd e = s.lineEnd e := by
  cases e <;> rfl
@[simp] theorem port_modMsg (g : MessageUnit → MessageUnit) (p : PortId) : (s.modMsg g).port p = s.port p := by
  cases p <;> rfl
@[simp] theorem lineEnd_modPower (g : Power → Power) (e : EndId) : (s.modPower g).lineEnd e = s.lineEnd e := by
  cases e <;> rfl
@[simp] theorem port_modPower (g : Power → Power) (p : PortId) : (s.modPower g).port p = s.port p := by
  cases p <;> rfl
@[simp] theorem lineEnd_tickMoment (e : EndId) : s.tickMoment.lineEnd e = s.lineEnd e := by
  cases e <;> rfl
@[simp] theorem port_tickMoment (p : PortId) : s.tickMoment.port p = s.port p := by
  cases p <;> rfl
@[simp] theorem lineEnd_reach (d : Nat) (e : EndId) : (s.reach d).lineEnd e = s.lineEnd e := by
  cases e <;> rfl
@[simp] theorem port_reach (d : Nat) (p : PortId) : (s.reach d).port p = s.port p := by
  cases p <;> rfl

end Sys2Proof.Machine
end

