-- ==== Sys2Proof/Laws/Frame.lean ====
section
/-! SUPPORT. What each operation changes: one lemma per operation names the blocks it can reach; a state with those
blocks put aside is the same before and after. `onlyChanges_iff_forget` turns that into a statement's frame. -/

namespace Sys2Proof.Machine

/-- A state with the blocks listed put aside. -/
def State.forget (L : List Block) (s : State) : State :=
  { s with
    now := if Block.clock ∈ L then 0 else s.now
    moments := if Block.moments ∈ L then 0 else s.moments
    freeCount := if Block.freeValues ∈ L then 0 else s.freeCount
    end1 := if Block.endOf .end1 ∈ L then .reset else s.end1
    end2 := if Block.endOf .end2 ∈ L then .reset else s.end2
    inaug := if Block.inauguration ∈ L then .reset else s.inaug
    cycle := if Block.cycle ∈ L then .reset else s.cycle
    door := if Block.door ∈ L then .reset else s.door
    track := if Block.tracking ∈ L then .reset else s.track
    grants := if Block.grants ∈ L then .reset else s.grants
    stage := if Block.stages ∈ L then .reset else s.stage
    msg := if Block.messages ∈ L then .reset else s.msg
    portA := if Block.portOf .portA ∈ L then .reset .door else s.portA
    portB := if Block.portOf .portB ∈ L then .reset .door else s.portB
    power := if Block.power ∈ L then .reset else s.power }

variable (L : List Block) (s : State)

/-- Two states agree outside some blocks exactly where they are the same with those put aside. -/
theorem onlyChanges_iff_forget (t : State) : OnlyChanges L s t ↔ t.forget L = s.forget L := by
  constructor
  · intro h
    have hp := h.1
    have hb := h.2
    have g : ∀ b, b ∈ L ∨ SameBlock s t b := fun b => (Classical.em (b ∈ L)).imp id (hb b)
    have h1 := g .clock; have h2 := g .moments; have h3 := g .freeValues; have h4 := g (.endOf .end1)
    have h5 := g (.endOf .end2); have h6 := g .inauguration; have h7 := g .cycle; have h8 := g .door
    have h9 := g .tracking; have h10 := g .grants; have h11 := g .stages; have h12 := g .messages
    have h13 := g (.portOf .portA); have h14 := g (.portOf .portB); have h15 := g .power
    simp only [SameBlock, State.lineEnd, State.port] at h1 h2 h3 h4 h5 h6 h7 h8 h9 h10 h11 h12 h13 h14 h15
    simp only [State.forget, hp, State.mk.injEq, and_true]
    refine ⟨?_, ?_, ?_, ?_, ?_, ?_, ?_, ?_, ?_, ?_, ?_, ?_, ?_, ?_, ?_⟩ <;>
      (split <;> simp_all)
  · intro h
    simp only [State.forget, State.mk.injEq] at h
    obtain ⟨h1, h2, h3, h4, h5, h6, h7, h8, h9, h10, h11, h12, h13, h14, h15, h16⟩ := h
    refine ⟨h16, fun b hb => ?_⟩
    cases b with
    | endOf e => cases e <;> simp_all [SameBlock, State.lineEnd]
    | portOf p => cases p <;> simp_all [SameBlock, State.port]
    | _ => simp_all [SameBlock]

@[simp] theorem end_cases (e : EndId) : (e = .end1 ∨ e = .end2) = True := by cases e <;> simp
@[simp] theorem end_cases_or (e : EndId) (q : Prop) : (e = .end1 ∨ e = .end2 ∨ q) = True := by cases e <;> simp
@[simp] theorem port_cases (p : PortId) : (p = .portA ∨ p = .portB) = True := by cases p <;> simp
@[simp] theorem port_cases_or (p : PortId) (q : Prop) : (p = .portA ∨ p = .portB ∨ q) = True := by cases p <;> simp

/-! ## Updates of one block -/

@[simp] theorem forget_modInaug (g : Inauguration → Inauguration) (hi : Block.inauguration ∈ L) :
    (s.modInaug g).forget L = s.forget L := by simp [State.forget, hi]
@[simp] theorem forget_modCycle (g : Cycle → Cycle) (hc : Block.cycle ∈ L) :
    (s.modCycle g).forget L = s.forget L := by simp [State.forget, hc]
@[simp] theorem forget_modDoor (g : Door → Door) (hd : Block.door ∈ L) :
    (s.modDoor g).forget L = s.forget L := by simp [State.forget, hd]
@[simp] theorem forget_modTrack (g : Tracking → Tracking) (hk : Block.tracking ∈ L) :
    (s.modTrack g).forget L = s.forget L := by simp [State.forget, hk]
@[simp] theorem forget_modGrants (g : GrantEngine → GrantEngine) (hg : Block.grants ∈ L) :
    (s.modGrants g).forget L = s.forget L := by simp [State.forget, hg]
@[simp] theorem forget_modStage (g : StageDrive → StageDrive) (hs : Block.stages ∈ L) :
    (s.modStage g).forget L = s.forget L := by simp [State.forget, hs]
@[simp] theorem forget_modMsg (g : MessageUnit → MessageUnit) (hm : Block.messages ∈ L) :
    (s.modMsg g).forget L = s.forget L := by simp [State.forget, hm]
@[simp] theorem forget_modPower (g : Power → Power) (hw : Block.power ∈ L) :
    (s.modPower g).forget L = s.forget L := by simp [State.forget, hw]
@[simp] theorem forget_modEnd (e : EndId) (g : LineEnd → LineEnd) (he : Block.endOf e ∈ L) :
    (s.modEnd e g).forget L = s.forget L := by cases e <;> simp [State.forget, he]
@[simp] theorem forget_modPort (p : PortId) (g : Port → Port) (hp : Block.portOf p ∈ L) :
    (s.modPort p g).forget L = s.forget L := by cases p <;> simp [State.forget, hp]

/-- A fold of operations that change only some blocks changes only those. -/
@[simp] theorem forget_foldl {α : Type} (f : State → α → State) (h : ∀ s x, (f s x).forget L = s.forget L) (l : List α) :
    (l.foldl f s).forget L = s.forget L := by
  induction l generalizing s with
  | nil => rfl
  | cons x l ih => rw [List.foldl_cons, ih, h]

/-- A gate lets an operation act or not. -/
@[simp] theorem forget_live (f : State → State) (h : ∀ s, (f s).forget L = s.forget L) :
    (s.live f).forget L = s.forget L := by unfold State.live; split <;> simp [h]

@[simp] theorem forget_awake (f : State → State) (h : ∀ s, (f s).forget L = s.forget L) :
    (s.awake f).forget L = s.forget L := by unfold State.awake; split <;> simp [h]

/-- An expiry changes the clock, and what its timer's action changes. -/
@[simp] theorem forget_expire (t : Timer) (f : State → State) (ht : Block.clock ∈ L)
    (h : ∀ s, (f s).forget L = s.forget L) : (s.expire t f).forget L = s.forget L := by
  unfold State.expire; split
  · rfl
  · rw [h]; simp [State.reach, State.forget, ht]

/-- Both sides in turn. -/
@[simp] theorem forget_bothSides (f : State → SideId → State) (h : ∀ s i, (f s i).forget L = s.forget L) :
    (s.bothSides f).forget L = s.forget L := by simp [State.bothSides, h]

/-! ## Events -/

@[simp] theorem forget_raiseAt (p : PortId) (c : Cause) (hp : Block.portOf p ∈ L) :
    (s.raiseAt p c).forget L = s.forget L := by
  simp [State.raiseAt, hp]

@[simp] theorem forget_raise (c : Cause) (hP : ∀ p, Block.portOf p ∈ L) :
    (s.raise c).forget L = s.forget L := by
  simp [State.raise, hP]

/-! ## Time, slots, queues, pairs and links -/

@[simp] theorem forget_reach (deadline : Nat) (ht : Block.clock ∈ L) :
    (s.reach deadline).forget L = s.forget L := by
  simp [State.reach, State.forget, ht]

@[simp] theorem forget_tickMoment (ho : Block.moments ∈ L) :
    s.tickMoment.forget L = s.forget L := by
  simp [State.tickMoment, State.forget, ho]

@[simp] theorem forget_place (e : EndId) (src : Source) (f : Frame) (he : Block.endOf e ∈ L) :
    (s.place e src f).forget L = s.forget L := by
  unfold State.place; try simp only []
  repeat' split
  all_goals simp [he]

@[simp] theorem forget_passThrough (onward : EndId) (f : Frame) (hE : ∀ e, Block.endOf e ∈ L)
    (hP : ∀ p, Block.portOf p ∈ L) :
    (s.passThrough onward f).forget L = s.forget L := by
  unfold State.passThrough; try simp only []
  repeat' split
  all_goals simp [hE, hP]

@[simp] theorem forget_judgePair (e : EndId) (p : Pair) (f : PairState → PairState) (he : Block.endOf e ∈ L)
    (hP : ∀ p, Block.portOf p ∈ L) :
    (s.judgePair e p f).forget L = s.forget L := by
  unfold State.judgePair; try simp only []
  repeat' split
  all_goals simp [he, hP]

@[simp] theorem forget_healPairs (e : EndId) (he : Block.endOf e ∈ L) (hP : ∀ p, Block.portOf p ∈ L) :
    (s.healPairs e).forget L = s.forget L := by
  simp [State.healPairs, he, hP]

@[simp] theorem forget_closeWindow (e : EndId) (he : Block.endOf e ∈ L) (hP : ∀ p, Block.portOf p ∈ L) :
    (s.closeWindow e).forget L = s.forget L := by
  unfold State.closeWindow; try simp only []
  repeat' split
  all_goals simp [he, hP]

@[simp] theorem forget_enterOpen (e : EndId) (he : Block.endOf e ∈ L) :
    (s.enterOpen e).forget L = s.forget L := by
  simp [State.enterOpen, he]

@[simp] theorem forget_enterJoining (e : EndId) (he : Block.endOf e ∈ L) (hP : ∀ p, Block.portOf p ∈ L) :
    (s.enterJoining e).forget L = s.forget L := by
  simp [State.enterJoining, he, hP]

@[simp] theorem forget_enterDown (e : EndId) (he : Block.endOf e ∈ L) (hP : ∀ p, Block.portOf p ∈ L) :
    (s.enterDown e).forget L = s.forget L := by
  simp [State.enterDown, he, hP]

@[simp] theorem forget_produceWake (e : EndId) (flags : Byte) (he : Block.endOf e ∈ L) :
    (s.produceWake e flags).forget L = s.forget L := by
  unfold State.produceWake; try simp only []
  repeat' split
  all_goals simp [he]

@[simp] theorem forget_statusWake (e : EndId) (he : Block.endOf e ∈ L) :
    (s.statusWake e).forget L = s.forget L := by
  unfold State.statusWake; try simp only []
  repeat' split
  all_goals simp [he]

@[simp] theorem forget_topologyAlert (headward : EndId) (hE : ∀ e, Block.endOf e ∈ L) :
    (s.topologyAlert headward).forget L = s.forget L := by
  unfold State.topologyAlert; try simp only []
  repeat' split
  all_goals simp [hE]

@[simp] theorem forget_passWake (onward : EndId) (f : Frame) (hE : ∀ e, Block.endOf e ∈ L)
    (hP : ∀ p, Block.portOf p ∈ L) :
    (s.passWake onward f).forget L = s.forget L := by
  simp [State.passWake, hE, hP]

/-! ## Ports -/

@[simp] theorem forget_wrote (p : PortId) (address : Nat) (hp : Block.portOf p ∈ L) :
    (s.wrote p address).forget L = s.forget L := by
  simp [State.wrote, hp]

@[simp] theorem forget_readOut (p : PortId) (address : Nat) (v : Byte) (hp : Block.portOf p ∈ L) :
    (s.readOut p address v).forget L = s.forget L := by
  simp [State.readOut, hp]

@[simp] theorem forget_answer (p : PortId) (result : CommandResult) (reason : Option Reason) (data : Nat)
    (hp : Block.portOf p ∈ L) :
    (s.answer p result reason data).forget L = s.forget L := by
  simp [State.answer, hp]

/-! ## Record sources -/

@[simp] theorem forget_sourceChanged (hc : Block.cycle ∈ L) (hE : ∀ e, Block.endOf e ∈ L) :
    s.sourceChanged.forget L = s.forget L := by
  unfold State.sourceChanged; try simp only []
  repeat' split
  all_goals simp [hc, hE]

@[simp] theorem forget_appended (r : CycleRecord) (hc : Block.cycle ∈ L) :
    (s.appended r).forget L = s.forget L := by
  simp [State.appended, hc]

/-! ## Stage Drive -/

@[simp] theorem forget_switchOffFrom (t : Nat) (hs : Block.stages ∈ L) :
    (s.switchOffFrom t).forget L = s.forget L := by
  simp [State.switchOffFrom, hs]

@[simp] theorem forget_endRise (hs : Block.stages ∈ L) :
    s.endRise.forget L = s.forget L := by
  simp [State.endRise, hs]

@[simp] theorem forget_reachTarget (r : Rise) (hs : Block.stages ∈ L) :
    (s.reachTarget r).forget L = s.forget L := by
  simp [State.reachTarget, hs]

@[simp] theorem forget_switchOn (i : Nat) (hs : Block.stages ∈ L) :
    (s.switchOn i).forget L = s.forget L := by
  simp [State.switchOn, hs]

@[simp] theorem forget_nextStage (first : Bool) (fuel : Nat) (hs : Block.stages ∈ L) :
    (s.nextStage first fuel).forget L = s.forget L := by
  induction fuel generalizing s first with
  | zero => rfl
  | succ n ih =>
    unfold State.nextStage
    split
    · rfl
    · simp only
      split
      · simp [hs]
      · split
        · split
          · rw [ih]; simp [hs]
          · simp [hs]
        · simp [hs]

@[simp] theorem forget_enterRise (r : Rise) (first : Bool) (hs : Block.stages ∈ L) :
    (s.enterRise r first).forget L = s.forget L := by
  simp [State.enterRise, hs]

@[simp] theorem forget_beginRise (hs : Block.stages ∈ L) :
    s.beginRise.forget L = s.forget L := by
  simp [State.beginRise, hs]

@[simp] theorem forget_applyTarget (t : Nat) (risen : Bool) (hs : Block.stages ∈ L) :
    (s.applyTarget t risen).forget L = s.forget L := by
  unfold State.applyTarget; try simp only []
  repeat' split
  all_goals simp [hs]

@[simp] theorem forget_recomputeTarget (risen : Bool) (hs : Block.stages ∈ L) (hc : Block.cycle ∈ L)
    (hE : ∀ e, Block.endOf e ∈ L) :
    (s.recomputeTarget risen).forget L = s.forget L := by
  simp [State.recomputeTarget, hs, hc, hE]

@[simp] theorem forget_setCeiling (ceiling : Nat) (fallback : Bool) (hs : Block.stages ∈ L)
    (hc : Block.cycle ∈ L) (hE : ∀ e, Block.endOf e ∈ L) :
    (s.setCeiling ceiling fallback).forget L = s.forget L := by
  simp [State.setCeiling, hs, hc, hE]

@[simp] theorem forget_fallBack (hs : Block.stages ∈ L) (hc : Block.cycle ∈ L) (hE : ∀ e, Block.endOf e ∈ L) :
    s.fallBack.forget L = s.forget L := by
  simp [State.fallBack, hs, hc, hE]

@[simp] theorem forget_identityToStages (hs : Block.stages ∈ L) (hc : Block.cycle ∈ L)
    (hE : ∀ e, Block.endOf e ∈ L) :
    s.identityToStages.forget L = s.forget L := by
  unfold State.identityToStages; try simp only []
  repeat' split
  all_goals simp [hs, hc, hE]

@[simp] theorem forget_ceilingFromGrant (grant : Nat) (hs : Block.stages ∈ L) (hc : Block.cycle ∈ L)
    (hE : ∀ e, Block.endOf e ∈ L) :
    (s.ceilingFromGrant grant).forget L = s.forget L := by
  unfold State.ceilingFromGrant; try simp only []
  repeat' split
  all_goals simp [hs, hc, hE]

@[simp] theorem forget_stageNodeReset (hs : Block.stages ∈ L) (hc : Block.cycle ∈ L)
    (hE : ∀ e, Block.endOf e ∈ L) :
    s.stageNodeReset.forget L = s.forget L := by
  simp [State.stageNodeReset, hs, hc, hE]

@[simp] theorem forget_stageStable (hs : Block.stages ∈ L) :
    s.stageStable.forget L = s.forget L := by
  simp [State.stageStable, hs]

@[simp] theorem forget_stageExpired (i : Nat) (hs : Block.stages ∈ L) (hc : Block.cycle ∈ L)
    (hE : ∀ e, Block.endOf e ∈ L) :
    (s.stageExpired i).forget L = s.forget L := by
  unfold State.stageExpired; try simp only []
  repeat' split
  all_goals simp [hs, hc, hE]

/-! ## Door Unit -/

@[simp] theorem forget_setSide (i : SideId) (st : SideState) (hd : Block.door ∈ L) (hc : Block.cycle ∈ L)
    (hE : ∀ e, Block.endOf e ∈ L) (hP : ∀ p, Block.portOf p ∈ L) :
    (s.setSide i st).forget L = s.forget L := by
  unfold State.setSide; try simp only []
  repeat' split
  all_goals simp [hd, hc, hE, hP]

@[simp] theorem forget_fromReleased (st : SideState) (i : SideId) (hd : Block.door ∈ L) (hc : Block.cycle ∈ L)
    (hE : ∀ e, Block.endOf e ∈ L) (hP : ∀ p, Block.portOf p ∈ L) :
    (s.fromReleased st i).forget L = s.forget L := by
  unfold State.fromReleased; try simp only []
  repeat' split
  all_goals simp [hd, hc, hE, hP]

@[simp] theorem forget_closeSide (i : SideId) (hd : Block.door ∈ L) (hc : Block.cycle ∈ L)
    (hE : ∀ e, Block.endOf e ∈ L) (hP : ∀ p, Block.portOf p ∈ L) :
    (s.closeSide i).forget L = s.forget L := by
  unfold State.closeSide; try simp only []
  repeat' split
  all_goals simp [hd, hc, hE, hP]

@[simp] theorem forget_withdrawSide (i : SideId) (hd : Block.door ∈ L) (hc : Block.cycle ∈ L)
    (hE : ∀ e, Block.endOf e ∈ L) (hP : ∀ p, Block.portOf p ∈ L) :
    (s.withdrawSide i).forget L = s.forget L := by
  simp [State.withdrawSide, hd, hc, hE, hP]

@[simp] theorem forget_headFlags (standstill : Bool) (hd : Block.door ∈ L) (hc : Block.cycle ∈ L)
    (hE : ∀ e, Block.endOf e ∈ L) (hP : ∀ p, Block.portOf p ∈ L) :
    (s.headFlags standstill).forget L = s.forget L := by
  unfold State.headFlags; try simp only []
  repeat' split
  all_goals simp [hd, hc, hE, hP]

@[simp] theorem forget_doorReport (hd : Block.door ∈ L) (hc : Block.cycle ∈ L) (hE : ∀ e, Block.endOf e ∈ L)
    (hP : ∀ p, Block.portOf p ∈ L) :
    s.doorReport.forget L = s.forget L := by
  simp [State.doorReport, hd, hc, hE, hP]

@[simp] theorem forget_setProof (v : Bool) (hk : Block.tracking ∈ L) (hP : ∀ p, Block.portOf p ∈ L) :
    (s.setProof v).forget L = s.forget L := by
  unfold State.setProof; try simp only []
  repeat' split
  all_goals simp [hk, hP]

@[simp] theorem forget_unprove (hk : Block.tracking ∈ L) (hP : ∀ p, Block.portOf p ∈ L) :
    s.unprove.forget L = s.forget L := by
  simp [State.unprove, hk, hP]

@[simp] theorem forget_evaluateProof (length : Nat) (records : List CycleRecord) (hk : Block.tracking ∈ L)
    (hP : ∀ p, Block.portOf p ∈ L) :
    (s.evaluateProof length records).forget L = s.forget L := by
  unfold State.evaluateProof; try simp only []
  repeat' split
  all_goals simp [hk, hP]

@[simp] theorem forget_applyAction (o : DoorOrder) (i : SideId) (hd : Block.door ∈ L) (hc : Block.cycle ∈ L)
    (hE : ∀ e, Block.endOf e ∈ L) (hP : ∀ p, Block.portOf p ∈ L) :
    (s.applyAction o i).forget L = s.forget L := by
  unfold State.applyAction; try simp only []
  repeat' split
  all_goals simp [hd, hc, hE, hP]

@[simp] theorem forget_takeOrder (a : ActiveConsist) (o : DoorOrder) (hd : Block.door ∈ L)
    (hc : Block.cycle ∈ L) (hE : ∀ e, Block.endOf e ∈ L) (hP : ∀ p, Block.portOf p ∈ L) :
    (s.takeOrder a o).forget L = s.forget L := by
  unfold State.takeOrder; try simp only []
  repeat' split
  all_goals simp [hd, hc, hE, hP]

@[simp] theorem forget_judgeOrder (a : ActiveConsist) (f : Frame) (hd : Block.door ∈ L) (hc : Block.cycle ∈ L)
    (hE : ∀ e, Block.endOf e ∈ L) (hP : ∀ p, Block.portOf p ∈ L) :
    (s.judgeOrder a f).forget L = s.forget L := by
  unfold State.judgeOrder; try simp only []
  repeat' split
  all_goals simp [hd, hc, hE, hP]

@[simp] theorem forget_requestCall (hc : Block.cycle ∈ L) :
    s.requestCall.forget L = s.forget L := by
  unfold State.requestCall; try simp only []
  repeat' split
  all_goals simp [hc]

@[simp] theorem forget_orderLeaves (a : ActiveConsist) (f : Frame) (ho : Block.moments ∈ L)
    (hk : Block.tracking ∈ L) (hd : Block.door ∈ L) (hP : ∀ p, Block.portOf p ∈ L) :
    (s.orderLeaves a f).forget L = s.forget L := by
  unfold State.orderLeaves; try simp only []
  repeat' split
  all_goals simp [ho, hk, hd, hP]

@[simp] theorem forget_placeOrder (a : ActiveConsist) (f : Frame) (ho : Block.moments ∈ L)
    (hk : Block.tracking ∈ L) (hd : Block.door ∈ L) (hE : ∀ e, Block.endOf e ∈ L) (hP : ∀ p, Block.portOf p ∈ L) :
    (s.placeOrder a f).forget L = s.forget L := by
  unfold State.placeOrder; try simp only []
  repeat' split
  all_goals simp [ho, hk, hd, hE, hP]

@[simp] theorem forget_checkComplete (hk : Block.tracking ∈ L) (hP : ∀ p, Block.portOf p ∈ L) :
    s.checkComplete.forget L = s.forget L := by
  unfold State.checkComplete; try simp only []
  repeat' split
  all_goals simp [hk, hP]

@[simp] theorem forget_issue (a : ActiveConsist) (action : DoorAction) (side : TrainSide) (first last : Nat)
    (ho : Block.moments ∈ L) (hc : Block.cycle ∈ L) (hk : Block.tracking ∈ L) (hd : Block.door ∈ L)
    (hE : ∀ e, Block.endOf e ∈ L) (hP : ∀ p, Block.portOf p ∈ L) :
    (s.issue a action side first last).forget L = s.forget L := by
  unfold State.issue; try simp only []
  repeat' split
  all_goals simp [ho, hc, hk, hd, hE, hP]

@[simp] theorem forget_emptyOrder (hk : Block.tracking ∈ L) :
    s.emptyOrder.forget L = s.forget L := by
  simp [State.emptyOrder, hk]

@[simp] theorem forget_repeatOrLose (a : ActiveConsist) (r : OutstandingOrder) (ho : Block.moments ∈ L)
    (hk : Block.tracking ∈ L) (hd : Block.door ∈ L) (hE : ∀ e, Block.endOf e ∈ L) (hP : ∀ p, Block.portOf p ∈ L) :
    (s.repeatOrLose a r).forget L = s.forget L := by
  unfold State.repeatOrLose; try simp only []
  repeat' split
  all_goals simp [ho, hk, hd, hE, hP]

@[simp] theorem forget_readEchoes (a : ActiveConsist) (records : List CycleRecord) (ho : Block.moments ∈ L)
    (hk : Block.tracking ∈ L) (hd : Block.door ∈ L) (hE : ∀ e, Block.endOf e ∈ L) (hP : ∀ p, Block.portOf p ∈ L) :
    (s.readEchoes a records).forget L = s.forget L := by
  unfold State.readEchoes; try simp only []
  repeat' split
  all_goals simp [ho, hk, hd, hE, hP]

@[simp] theorem forget_doorReturn (a : ActiveConsist) (records : List CycleRecord) (ho : Block.moments ∈ L)
    (hk : Block.tracking ∈ L) (hd : Block.door ∈ L) (hE : ∀ e, Block.endOf e ∈ L) (hP : ∀ p, Block.portOf p ∈ L) :
    (s.doorReturn a records).forget L = s.forget L := by
  simp [State.doorReturn, ho, hk, hd, hE, hP]

@[simp] theorem forget_doorLeavesHeading (hk : Block.tracking ∈ L) (hd : Block.door ∈ L)
    (hP : ∀ p, Block.portOf p ∈ L) :
    s.doorLeavesHeading.forget L = s.forget L := by
  simp [State.doorLeavesHeading, hk, hd, hP]

@[simp] theorem forget_doorNewConsist (hk : Block.tracking ∈ L) (hd : Block.door ∈ L) (hP : ∀ p, Block.portOf p ∈ L) :
    s.doorNewConsist.forget L = s.forget L := by
  simp [State.doorNewConsist, hk, hd, hP]

@[simp] theorem forget_doorCommit (hk : Block.tracking ∈ L) (hd : Block.door ∈ L) (hP : ∀ p, Block.portOf p ∈ L) :
    s.doorCommit.forget L = s.forget L := by
  simp [State.doorCommit, hk, hd, hP]

@[simp] theorem forget_automaticClose (a : ActiveConsist) (ho : Block.moments ∈ L) (hc : Block.cycle ∈ L)
    (hk : Block.tracking ∈ L) (hd : Block.door ∈ L) (hE : ∀ e, Block.endOf e ∈ L) (hP : ∀ p, Block.portOf p ∈ L) :
    (s.automaticClose a).forget L = s.forget L := by
  unfold State.automaticClose; try simp only []
  repeat' split
  all_goals simp [ho, hc, hk, hd, hE, hP]

@[simp] theorem forget_setStandstill (v : Bool) (ho : Block.moments ∈ L) (hc : Block.cycle ∈ L)
    (hk : Block.tracking ∈ L) (hd : Block.door ∈ L) (hE : ∀ e, Block.endOf e ∈ L) (hP : ∀ p, Block.portOf p ∈ L) :
    (s.setStandstill v).forget L = s.forget L := by
  unfold State.setStandstill; try simp only []
  repeat' split
  all_goals simp [ho, hc, hk, hd, hE, hP]

@[simp] theorem forget_issueFromOperands (p : PortId) (ho : Block.moments ∈ L) (hc : Block.cycle ∈ L)
    (hk : Block.tracking ∈ L) (hd : Block.door ∈ L) (hE : ∀ e, Block.endOf e ∈ L) (hP : ∀ p, Block.portOf p ∈ L) :
    (s.issueFromOperands p).forget L = s.forget L := by
  unfold State.issueFromOperands; try simp only []
  repeat' split
  all_goals simp [ho, hc, hk, hd, hE, hP]

@[simp] theorem forget_statusSide (i : SideId) (hd : Block.door ∈ L) (hc : Block.cycle ∈ L)
    (hE : ∀ e, Block.endOf e ∈ L) (hP : ∀ p, Block.portOf p ∈ L) :
    (s.statusSide i).forget L = s.forget L := by
  unfold State.statusSide; try simp only []
  repeat' split
  all_goals simp [hd, hc, hE, hP]

@[simp] theorem forget_writeDoorStatus (t : DoorStatus) (hd : Block.door ∈ L) (hc : Block.cycle ∈ L)
    (hE : ∀ e, Block.endOf e ∈ L) (hP : ∀ p, Block.portOf p ∈ L) :
    (s.writeDoorStatus t).forget L = s.forget L := by
  simp [State.writeDoorStatus, hd, hc, hE, hP]

@[simp] theorem forget_localClose (sides : List SideId) (hd : Block.door ∈ L) (hc : Block.cycle ∈ L)
    (hE : ∀ e, Block.endOf e ∈ L) (hP : ∀ p, Block.portOf p ∈ L) :
    (s.localClose sides).forget L = s.forget L := by
  simp [State.localClose, hd, hc, hE, hP]

/-! ## Grant Engine -/

@[simp] theorem forget_grantCommit (a : ActiveConsist) (hg : Block.grants ∈ L) :
    (s.grantCommit a).forget L = s.forget L := by
  simp [State.grantCommit, hg]

@[simp] theorem forget_grantLeavesHeading (hg : Block.grants ∈ L) :
    s.grantLeavesHeading.forget L = s.forget L := by
  simp [State.grantLeavesHeading, hg]

@[simp] theorem forget_shed (a : ActiveConsist) (hg : Block.grants ∈ L) (hP : ∀ p, Block.portOf p ∈ L) :
    (s.shed a).forget L = s.forget L := by
  unfold State.shed; try simp only []
  repeat' split
  all_goals simp [hg, hP]

@[simp] theorem forget_raiseGrants (a : ActiveConsist) (hg : Block.grants ∈ L) :
    (s.raiseGrants a).forget L = s.forget L := by
  simp [State.raiseGrants, hg]

@[simp] theorem forget_grantReturn (a : ActiveConsist) (records : List CycleRecord) (hg : Block.grants ∈ L)
    (hP : ∀ p, Block.portOf p ∈ L) :
    (s.grantReturn a records).forget L = s.forget L := by
  unfold State.grantReturn; try simp only []
  repeat' split
  all_goals simp [hg, hP]

@[simp] theorem forget_takeGrant (grant : Nat) (hg : Block.grants ∈ L) (hP : ∀ p, Block.portOf p ∈ L) :
    (s.takeGrant grant).forget L = s.forget L := by
  unfold State.takeGrant; try simp only []
  repeat' split
  all_goals simp [hg, hP]

@[simp] theorem forget_useSettle (l : LastSettle) (hc : Block.cycle ∈ L) (hs : Block.stages ∈ L)
    (hg : Block.grants ∈ L) (hE : ∀ e, Block.endOf e ∈ L) (hP : ∀ p, Block.portOf p ∈ L) :
    (s.useSettle l).forget L = s.forget L := by
  simp [State.useSettle, hc, hs, hg, hE, hP]

@[simp] theorem forget_setBudget (v : Nat) (hg : Block.grants ∈ L) (hc : Block.cycle ∈ L)
    (hP : ∀ p, Block.portOf p ∈ L) :
    (s.setBudget v).forget L = s.forget L := by
  unfold State.setBudget; try simp only []
  repeat' split
  all_goals simp [hg, hc, hP]

/-! ## Message Unit -/

@[simp] theorem forget_modBuffer (n : Nat) (f : Buffer → Buffer) (hm : Block.messages ∈ L) :
    (s.modBuffer n f).forget L = s.forget L := by
  simp [State.modBuffer, hm]

@[simp] theorem forget_setBufferState (n : Nat) (st : BufferState) (hm : Block.messages ∈ L) :
    (s.setBufferState n st).forget L = s.forget L := by
  simp [State.setBufferState, hm]

@[simp] theorem forget_modQueues (p : PortId) (f : PortQueues → PortQueues) (hm : Block.messages ∈ L) :
    (s.modQueues p f).forget L = s.forget L := by
  simp [State.modQueues, hm]

@[simp] theorem forget_takenEvents (p : PortId) (hP : ∀ p, Block.portOf p ∈ L) :
    (s.takenEvents p).forget L = s.forget L := by
  unfold State.takenEvents; try simp only []
  repeat' split
  all_goals simp [hP]

@[simp] theorem forget_allot (n : Nat) (p : PortId) (st : BufferState) (bytes : List Byte)
    (hm : Block.messages ∈ L) (hP : ∀ p, Block.portOf p ∈ L) :
    (s.allot n p st bytes).forget L = s.forget L := by
  simp [State.allot, hm, hP]

@[simp] theorem forget_toInbound (n : Nat) (p : PortId) (hm : Block.messages ∈ L) :
    (s.toInbound n p).forget L = s.forget L := by
  simp [State.toInbound, hm]

@[simp] theorem forget_complete (n : Nat) (status : MessageStatus) (hm : Block.messages ∈ L) :
    (s.complete n status).forget L = s.forget L := by
  unfold State.complete; try simp only []
  repeat' split
  all_goals simp [hm]

@[simp] theorem forget_select (p : PortId) (n : Option Nat) (hp : Block.portOf p ∈ L) :
    (s.select p n).forget L = s.forget L := by
  simp [State.select, hp]

@[simp] theorem forget_takeBuffer (p : PortId) (hm : Block.messages ∈ L) (hP : ∀ p, Block.portOf p ∈ L) :
    (s.takeBuffer p).forget L = s.forget L := by
  unfold State.takeBuffer; try simp only []
  repeat' split
  all_goals simp [hm, hP]

@[simp] theorem forget_postBuffer (p : PortId) (hm : Block.messages ∈ L) (hp : Block.portOf p ∈ L) :
    (s.postBuffer p).forget L = s.forget L := by
  unfold State.postBuffer; try simp only []
  repeat' split
  all_goals simp [hm, hp]

@[simp] theorem forget_fetchBuffer (p : PortId) (hm : Block.messages ∈ L) (hp : Block.portOf p ∈ L) :
    (s.fetchBuffer p).forget L = s.forget L := by
  unfold State.fetchBuffer; try simp only []
  repeat' split
  all_goals simp [hm, hp]

@[simp] theorem forget_returnBuffer (p : PortId) (hm : Block.messages ∈ L) (hp : Block.portOf p ∈ L) :
    (s.returnBuffer p).forget L = s.forget L := by
  unfold State.returnBuffer; try simp only []
  repeat' split
  all_goals simp [hm, hp]

@[simp] theorem forget_setQuota (p : PortId) (v : Nat) (hm : Block.messages ∈ L) (hP : ∀ p, Block.portOf p ∈ L) :
    (s.setQuota p v).forget L = s.forget L := by
  unfold State.setQuota; try simp only []
  repeat' split
  all_goals simp [hm, hP]

@[simp] theorem forget_setQuotas (a b : Nat) (hm : Block.messages ∈ L) (hP : ∀ p, Block.portOf p ∈ L) :
    (s.setQuotas a b).forget L = s.forget L := by
  simp [State.setQuotas, hm, hP]

@[simp] theorem forget_endOffer (hm : Block.messages ∈ L) :
    s.endOffer.forget L = s.forget L := by
  unfold State.endOffer; try simp only []
  repeat' split
  all_goals simp [hm]

@[simp] theorem forget_takeOffer (e : EndId) (hm : Block.messages ∈ L) :
    (s.takeOffer e).forget L = s.forget L := by
  unfold State.takeOffer; try simp only []
  repeat' split
  all_goals simp [hm]

@[simp] theorem forget_discardOffer (e : EndId) (hm : Block.messages ∈ L) :
    (s.discardOffer e).forget L = s.forget L := by
  unfold State.discardOffer; try simp only []
  repeat' split
  all_goals simp [hm]

@[simp] theorem forget_offerFrame (kind : OfferKind) (f : Frame) (at1 at2 : Bool) (hm : Block.messages ∈ L) :
    (s.offerFrame kind f at1 at2).forget L = s.forget L := by
  simp [State.offerFrame, hm]

@[simp] theorem forget_offerTo (kind : OfferKind) (f : Frame) (e : EndId) (hm : Block.messages ∈ L) :
    (s.offerTo kind f e).forget L = s.forget L := by
  simp [State.offerTo, hm]

@[simp] theorem forget_sendBuffer (a : ActiveConsist) (p : PortId) (n : Nat) (hm : Block.messages ∈ L) :
    (s.sendBuffer a p n).forget L = s.forget L := by
  unfold State.sendBuffer; try simp only []
  repeat' split
  all_goals simp [hm]

@[simp] theorem forget_serve (p : PortId) (hm : Block.messages ∈ L) :
    (s.serve p).forget L = s.forget L := by
  unfold State.serve; try simp only []
  repeat' split
  all_goals simp [hm]

@[simp] theorem forget_offerNote (f : Frame) (rest : List Frame) (hm : Block.messages ∈ L) :
    (s.offerNote f rest).forget L = s.forget L := by
  unfold State.offerNote; try simp only []
  repeat' split
  all_goals simp [hm]

@[simp] theorem forget_serverStep (hm : Block.messages ∈ L) :
    s.serverStep.forget L = s.forget L := by
  unfold State.serverStep; try simp only []
  repeat' split
  all_goals simp [hm]

@[simp] theorem forget_beginStoring (p : PortId) (n : Nat) (payload : List Byte) (note : Option Frame)
    (hm : Block.messages ∈ L) (hP : ∀ p, Block.portOf p ∈ L) :
    (s.beginStoring p n payload note).forget L = s.forget L := by
  simp [State.beginStoring, hm, hP]

@[simp] theorem forget_receiveUnicast (a : ActiveConsist) (payload : List Byte) (hm : Block.messages ∈ L)
    (hP : ∀ p, Block.portOf p ∈ L) :
    (s.receiveUnicast a payload).forget L = s.forget L := by
  unfold State.receiveUnicast; try simp only []
  repeat' split
  all_goals simp [hm, hP]

@[simp] theorem forget_receiveBroadcast (payload : List Byte) (hm : Block.messages ∈ L)
    (hP : ∀ p, Block.portOf p ∈ L) :
    (s.receiveBroadcast payload).forget L = s.forget L := by
  unfold State.receiveBroadcast; try simp only []
  repeat' split
  all_goals simp [hm, hP]

@[simp] theorem forget_receiveMsg (a : ActiveConsist) (payload : List Byte) (hm : Block.messages ∈ L)
    (hP : ∀ p, Block.portOf p ∈ L) :
    (s.receiveMsg a payload).forget L = s.forget L := by
  unfold State.receiveMsg; try simp only []
  repeat' split
  all_goals simp [hm, hP]

@[simp] theorem forget_storingEnd (n : Nat) (hm : Block.messages ∈ L) :
    (s.storingEnd n).forget L = s.forget L := by
  unfold State.storingEnd; try simp only []
  repeat' split
  all_goals simp [hm]

@[simp] theorem forget_receiveNote (a : ActiveConsist) (payload : List Byte) (hm : Block.messages ∈ L) :
    (s.receiveNote a payload).forget L = s.forget L := by
  unfold State.receiveNote; try simp only []
  repeat' split
  all_goals simp [hm]

@[simp] theorem forget_withdrawOffer (hm : Block.messages ∈ L) :
    s.withdrawOffer.forget L = s.forget L := by
  unfold State.withdrawOffer; try simp only []
  repeat' split
  all_goals simp [hm]

@[simp] theorem forget_msgReport (hm : Block.messages ∈ L) :
    s.msgReport.forget L = s.forget L := by
  simp [State.msgReport, hm]

@[simp] theorem forget_writeMessageWindow (p : PortId) (offset : Nat) (v : Byte) (hm : Block.messages ∈ L) :
    (s.writeMessageWindow p offset v).forget L = s.forget L := by
  unfold State.writeMessageWindow; try simp only []
  repeat' split
  all_goals simp [hm]

/-! ## Inauguration Engine -/

@[simp] theorem forget_withdrawOwn (i : Identity) (e : EndId) (he : Block.endOf e ∈ L) :
    (s.withdrawOwn i e).forget L = s.forget L := by
  simp [State.withdrawOwn, he]

@[simp] theorem forget_leaveHeading (i : Identity) (hc : Block.cycle ∈ L) (hd : Block.door ∈ L)
    (hk : Block.tracking ∈ L) (hg : Block.grants ∈ L) (hE : ∀ e, Block.endOf e ∈ L)
    (hP : ∀ p, Block.portOf p ∈ L) :
    (s.leaveHeading i).forget L = s.forget L := by
  simp [State.leaveHeading, hc, hd, hk, hg, hE, hP]

@[simp] theorem forget_roleChanged (hc : Block.cycle ∈ L) (hg : Block.grants ∈ L) :
    s.roleChanged.forget L = s.forget L := by
  simp [State.roleChanged, hc, hg]

@[simp] theorem forget_reportRecount (hd : Block.door ∈ L) (hc : Block.cycle ∈ L) (hm : Block.messages ∈ L)
    (hE : ∀ e, Block.endOf e ∈ L) (hP : ∀ p, Block.portOf p ∈ L) :
    s.reportRecount.forget L = s.forget L := by
  simp [State.reportRecount, hd, hc, hm, hE, hP]

@[simp] theorem forget_leaveMember (a : ActiveConsist) (next : NodeRole) (cause : LeaveCause)
    (hi : Block.inauguration ∈ L) (hc : Block.cycle ∈ L) (hd : Block.door ∈ L) (hk : Block.tracking ∈ L)
    (hg : Block.grants ∈ L) (hm : Block.messages ∈ L) (hE : ∀ e, Block.endOf e ∈ L)
    (hP : ∀ p, Block.portOf p ∈ L) :
    (s.leaveMember a next cause).forget L = s.forget L := by
  unfold State.leaveMember; try simp only []
  repeat' split
  all_goals simp [hi, hc, hd, hk, hg, hm, hE, hP]

@[simp] theorem forget_goUnassigned (cause : LeaveCause) (hi : Block.inauguration ∈ L) (hc : Block.cycle ∈ L)
    (hd : Block.door ∈ L) (hk : Block.tracking ∈ L) (hg : Block.grants ∈ L) (hs : Block.stages ∈ L)
    (hm : Block.messages ∈ L) (hE : ∀ e, Block.endOf e ∈ L) (hP : ∀ p, Block.portOf p ∈ L) :
    (s.goUnassigned cause).forget L = s.forget L := by
  unfold State.goUnassigned; try simp only []
  repeat' split
  all_goals simp [hi, hc, hd, hk, hg, hs, hm, hE, hP]

@[simp] theorem forget_recount (r : CountRecord) (hi : Block.inauguration ∈ L) (hc : Block.cycle ∈ L)
    (hd : Block.door ∈ L) (hk : Block.tracking ∈ L) (hg : Block.grants ∈ L) (hm : Block.messages ∈ L)
    (hE : ∀ e, Block.endOf e ∈ L) (hP : ∀ p, Block.portOf p ∈ L) :
    (s.recount r).forget L = s.forget L := by
  unfold State.recount; try simp only []
  repeat' split
  all_goals simp [hi, hc, hd, hk, hg, hm, hE, hP]

@[simp] theorem forget_failClaim (r : ClaimFailure) (hi : Block.inauguration ∈ L) (hk : Block.tracking ∈ L)
    (hP : ∀ p, Block.portOf p ∈ L) :
    (s.failClaim r).forget L = s.forget L := by
  simp [State.failClaim, hi, hk, hP]

@[simp] theorem forget_dropClaim (hi : Block.inauguration ∈ L) (hk : Block.tracking ∈ L) :
    s.dropClaim.forget L = s.forget L := by
  simp [State.dropClaim, hi, hk]

@[simp] theorem forget_placeDissolve (e : EndId) (generation : Nat) (he : Block.endOf e ∈ L) :
    (s.placeDissolve e generation).forget L = s.forget L := by
  simp [State.placeDissolve, he]

@[simp] theorem forget_commit (r : CountRecord) (length : Nat) (others : List RosterEntry) (truncated : Bool)
    (hi : Block.inauguration ∈ L) (hc : Block.cycle ∈ L) (hd : Block.door ∈ L) (hk : Block.tracking ∈ L)
    (hg : Block.grants ∈ L) (hE : ∀ e, Block.endOf e ∈ L) (hP : ∀ p, Block.portOf p ∈ L) :
    (s.commit r length others truncated).forget L = s.forget L := by
  simp [State.commit, hi, hc, hd, hk, hg, hE, hP]

@[simp] theorem forget_loneHead (r : CountRecord) (truncated : Bool) (hi : Block.inauguration ∈ L)
    (hc : Block.cycle ∈ L) (hd : Block.door ∈ L) (hk : Block.tracking ∈ L) (hg : Block.grants ∈ L)
    (hE : ∀ e, Block.endOf e ∈ L) (hP : ∀ p, Block.portOf p ∈ L) :
    (s.loneHead r truncated).forget L = s.forget L := by
  simp [State.loneHead, hi, hc, hd, hk, hg, hE, hP]

@[simp] theorem forget_startHop (stage : TallyStage) (hi : Block.inauguration ∈ L) :
    (s.startHop stage).forget L = s.forget L := by
  simp [State.startHop, hi]

@[simp] theorem forget_attemptFrom (headward : EndId) (attempt : Nat) (hi : Block.inauguration ∈ L)
    (hc : Block.cycle ∈ L) (hd : Block.door ∈ L) (hk : Block.tracking ∈ L) (hg : Block.grants ∈ L)
    (hm : Block.messages ∈ L) (hE : ∀ e, Block.endOf e ∈ L) (hP : ∀ p, Block.portOf p ∈ L) :
    (s.attemptFrom headward attempt).forget L = s.forget L := by
  unfold State.attemptFrom; try simp only []
  repeat' split
  all_goals simp [hi, hc, hd, hk, hg, hm, hE, hP]

@[simp] theorem forget_beginAttempt (attempt : Nat) (hi : Block.inauguration ∈ L) (hc : Block.cycle ∈ L)
    (hd : Block.door ∈ L) (hk : Block.tracking ∈ L) (hg : Block.grants ∈ L) (hs : Block.stages ∈ L)
    (hm : Block.messages ∈ L) (hE : ∀ e, Block.endOf e ∈ L) (hP : ∀ p, Block.portOf p ∈ L) :
    (s.beginAttempt attempt).forget L = s.forget L := by
  unfold State.beginAttempt; try simp only []
  repeat' split
  all_goals simp [hi, hc, hd, hk, hg, hs, hm, hE, hP]

@[simp] theorem forget_reinaugurate (hi : Block.inauguration ∈ L) (hc : Block.cycle ∈ L) (hd : Block.door ∈ L)
    (hk : Block.tracking ∈ L) (hg : Block.grants ∈ L) (hs : Block.stages ∈ L) (hm : Block.messages ∈ L)
    (hE : ∀ e, Block.endOf e ∈ L) (hP : ∀ p, Block.portOf p ∈ L) :
    s.reinaugurate.forget L = s.forget L := by
  unfold State.reinaugurate; try simp only []
  repeat' split
  all_goals simp [hi, hc, hd, hk, hg, hs, hm, hE, hP]

@[simp] theorem forget_claimCab (hi : Block.inauguration ∈ L) (hc : Block.cycle ∈ L) (hd : Block.door ∈ L)
    (hk : Block.tracking ∈ L) (hg : Block.grants ∈ L) (hm : Block.messages ∈ L) (hE : ∀ e, Block.endOf e ∈ L)
    (hP : ∀ p, Block.portOf p ∈ L) :
    s.claimCab.forget L = s.forget L := by
  unfold State.claimCab; try simp only []
  repeat' split
  all_goals simp [hi, hc, hd, hk, hg, hm, hE, hP]

@[simp] theorem forget_releaseCab (hi : Block.inauguration ∈ L) (hc : Block.cycle ∈ L) (hd : Block.door ∈ L)
    (hk : Block.tracking ∈ L) (hg : Block.grants ∈ L) (hs : Block.stages ∈ L) (hm : Block.messages ∈ L)
    (hE : ∀ e, Block.endOf e ∈ L) (hP : ∀ p, Block.portOf p ∈ L) :
    s.releaseCab.forget L = s.forget L := by
  unfold State.releaseCab; try simp only []
  repeat' split
  all_goals simp [hi, hc, hd, hk, hg, hs, hm, hE, hP]

@[simp] theorem forget_setRecord (r : CountRecord) (hi : Block.inauguration ∈ L) :
    (s.setRecord r).forget L = s.forget L := by
  simp [State.setRecord, hi]

@[simp] theorem forget_tailTally (r : CountRecord) (flag : TallyFlag) (hi : Block.inauguration ∈ L)
    (hE : ∀ e, Block.endOf e ∈ L) :
    (s.tailTally r flag).forget L = s.forget L := by
  simp [State.tailTally, hi, hE]

@[simp] theorem forget_answerCount (r : CountRecord) (hi : Block.inauguration ∈ L) (hE : ∀ e, Block.endOf e ∈ L) :
    (s.answerCount r).forget L = s.forget L := by
  unfold State.answerCount; try simp only []
  repeat' split
  all_goals simp [hi, hE]

@[simp] theorem forget_takeCount (e : EndId) (c : CountFrame) (hi : Block.inauguration ∈ L)
    (hc : Block.cycle ∈ L) (hd : Block.door ∈ L) (hk : Block.tracking ∈ L) (hg : Block.grants ∈ L)
    (hm : Block.messages ∈ L) (hE : ∀ e, Block.endOf e ∈ L) (hP : ∀ p, Block.portOf p ∈ L) :
    (s.takeCount e c).forget L = s.forget L := by
  simp [State.takeCount, hi, hc, hd, hk, hg, hm, hE, hP]

@[simp] theorem forget_contest (r : CountRecord) (e : EndId) (c : CountFrame) (hi : Block.inauguration ∈ L)
    (hc : Block.cycle ∈ L) (hd : Block.door ∈ L) (hk : Block.tracking ∈ L) (hg : Block.grants ∈ L)
    (hs : Block.stages ∈ L) (hm : Block.messages ∈ L) (hE : ∀ e, Block.endOf e ∈ L)
    (hP : ∀ p, Block.portOf p ∈ L) :
    (s.contest r e c).forget L = s.forget L := by
  simp [State.contest, hi, hc, hd, hk, hg, hs, hm, hE, hP]

@[simp] theorem forget_headContest (e : EndId) (c : CountFrame) (hi : Block.inauguration ∈ L)
    (hc : Block.cycle ∈ L) (hd : Block.door ∈ L) (hk : Block.tracking ∈ L) (hg : Block.grants ∈ L)
    (hs : Block.stages ∈ L) (hm : Block.messages ∈ L) (hE : ∀ e, Block.endOf e ∈ L)
    (hP : ∀ p, Block.portOf p ∈ L) :
    (s.headContest e c).forget L = s.forget L := by
  simp [State.headContest, hi, hc, hd, hk, hg, hs, hm, hE, hP]

@[simp] theorem forget_receiveCount (e : EndId) (p : List Byte) (hi : Block.inauguration ∈ L)
    (hc : Block.cycle ∈ L) (hd : Block.door ∈ L) (hk : Block.tracking ∈ L) (hg : Block.grants ∈ L)
    (hs : Block.stages ∈ L) (hm : Block.messages ∈ L) (hE : ∀ e, Block.endOf e ∈ L)
    (hP : ∀ p, Block.portOf p ∈ L) :
    (s.receiveCount e p).forget L = s.forget L := by
  unfold State.receiveCount; try simp only []
  repeat' split
  all_goals simp [hi, hc, hd, hk, hg, hs, hm, hE, hP]

@[simp] theorem forget_tallyAtNode (r : CountRecord) (f : Frame) (hi : Block.inauguration ∈ L)
    (hc : Block.cycle ∈ L) (hd : Block.door ∈ L) (hk : Block.tracking ∈ L) (hg : Block.grants ∈ L)
    (hs : Block.stages ∈ L) (hm : Block.messages ∈ L) (hE : ∀ e, Block.endOf e ∈ L)
    (hP : ∀ p, Block.portOf p ∈ L) :
    (s.tallyAtNode r f).forget L = s.forget L := by
  unfold State.tallyAtNode; try simp only []
  repeat' split
  all_goals simp [hi, hc, hd, hk, hg, hs, hm, hE, hP]

@[simp] theorem forget_tallyAtHead (r : CountRecord) (f : Frame) (hi : Block.inauguration ∈ L)
    (hc : Block.cycle ∈ L) (hd : Block.door ∈ L) (hk : Block.tracking ∈ L) (hg : Block.grants ∈ L)
    (hs : Block.stages ∈ L) (hm : Block.messages ∈ L) (hE : ∀ e, Block.endOf e ∈ L)
    (hP : ∀ p, Block.portOf p ∈ L) :
    (s.tallyAtHead r f).forget L = s.forget L := by
  unfold State.tallyAtHead; try simp only []
  repeat' split
  all_goals simp [hi, hc, hd, hk, hg, hs, hm, hE, hP]

@[simp] theorem forget_receiveTally (e : EndId) (f : Frame) (hi : Block.inauguration ∈ L) (hc : Block.cycle ∈ L)
    (hd : Block.door ∈ L) (hk : Block.tracking ∈ L) (hg : Block.grants ∈ L) (hs : Block.stages ∈ L)
    (hm : Block.messages ∈ L) (hE : ∀ e, Block.endOf e ∈ L) (hP : ∀ p, Block.portOf p ∈ L) :
    (s.receiveTally e f).forget L = s.forget L := by
  unfold State.receiveTally; try simp only []
  repeat' split
  all_goals simp [hi, hc, hd, hk, hg, hs, hm, hE, hP]

@[simp] theorem forget_acceptCommit (r : CountRecord) (f : Frame) (hi : Block.inauguration ∈ L)
    (hc : Block.cycle ∈ L) (hd : Block.door ∈ L) (hk : Block.tracking ∈ L) (hg : Block.grants ∈ L) (hE : ∀ e, Block.endOf e ∈ L) (hP : ∀ p, Block.portOf p ∈ L) :
    (s.acceptCommit r f).forget L = s.forget L := by
  simp [State.acceptCommit, hi, hc, hd, hk, hg, hE, hP]

@[simp] theorem forget_leaveWithAlert (headward : EndId) (cause : LeaveCause) (hi : Block.inauguration ∈ L)
    (hc : Block.cycle ∈ L) (hd : Block.door ∈ L) (hk : Block.tracking ∈ L) (hg : Block.grants ∈ L)
    (hs : Block.stages ∈ L) (hm : Block.messages ∈ L) (hE : ∀ e, Block.endOf e ∈ L)
    (hP : ∀ p, Block.portOf p ∈ L) :
    (s.leaveWithAlert headward cause).forget L = s.forget L := by
  simp [State.leaveWithAlert, hi, hc, hd, hk, hg, hs, hm, hE, hP]

@[simp] theorem forget_rejectCommit (e : EndId) (f : Frame) (hi : Block.inauguration ∈ L) (hc : Block.cycle ∈ L)
    (hd : Block.door ∈ L) (hk : Block.tracking ∈ L) (hg : Block.grants ∈ L) (hs : Block.stages ∈ L)
    (hm : Block.messages ∈ L) (hE : ∀ e, Block.endOf e ∈ L) (hP : ∀ p, Block.portOf p ∈ L) :
    (s.rejectCommit e f).forget L = s.forget L := by
  unfold State.rejectCommit; try simp only []
  repeat' split
  all_goals simp [hi, hc, hd, hk, hg, hs, hm, hE, hP]

@[simp] theorem forget_receiveDissolve (e : EndId) (f : Frame) (hi : Block.inauguration ∈ L)
    (hc : Block.cycle ∈ L) (hd : Block.door ∈ L) (hk : Block.tracking ∈ L) (hg : Block.grants ∈ L)
    (hs : Block.stages ∈ L) (hm : Block.messages ∈ L) (hE : ∀ e, Block.endOf e ∈ L)
    (hP : ∀ p, Block.portOf p ∈ L) :
    (s.receiveDissolve e f).forget L = s.forget L := by
  unfold State.receiveDissolve; try simp only []
  repeat' split
  all_goals simp [hi, hc, hd, hk, hg, hs, hm, hE, hP]

@[simp] theorem forget_receiveCommit (e : EndId) (f : Frame) (hi : Block.inauguration ∈ L)
    (hc : Block.cycle ∈ L) (hd : Block.door ∈ L) (hk : Block.tracking ∈ L) (hg : Block.grants ∈ L)
    (hs : Block.stages ∈ L) (hm : Block.messages ∈ L) (hE : ∀ e, Block.endOf e ∈ L)
    (hP : ∀ p, Block.portOf p ∈ L) :
    (s.receiveCommit e f).forget L = s.forget L := by
  unfold State.receiveCommit; try simp only []
  repeat' split
  all_goals simp [hi, hc, hd, hk, hg, hs, hm, hE, hP]

@[simp] theorem forget_displace (a : ActiveConsist) (hi : Block.inauguration ∈ L) (hc : Block.cycle ∈ L)
    (hd : Block.door ∈ L) (hk : Block.tracking ∈ L) (hg : Block.grants ∈ L) (hs : Block.stages ∈ L)
    (hm : Block.messages ∈ L) (hE : ∀ e, Block.endOf e ∈ L) (hP : ∀ p, Block.portOf p ∈ L) :
    (s.displace a).forget L = s.forget L := by
  simp [State.displace, hi, hc, hd, hk, hg, hs, hm, hE, hP]

@[simp] theorem forget_reportHeading (a : ActiveConsist) (c : EndChange) (hi : Block.inauguration ∈ L)
    (hc : Block.cycle ∈ L) (hd : Block.door ∈ L) (hk : Block.tracking ∈ L) (hg : Block.grants ∈ L)
    (hs : Block.stages ∈ L) (hm : Block.messages ∈ L) (hE : ∀ e, Block.endOf e ∈ L)
    (hP : ∀ p, Block.portOf p ∈ L) :
    (s.reportHeading a c).forget L = s.forget L := by
  unfold State.reportHeading; try simp only []
  repeat' split
  all_goals simp [hi, hc, hd, hk, hg, hs, hm, hE, hP]

@[simp] theorem forget_reportClaiming (r : CountRecord) (c : EndChange) (hi : Block.inauguration ∈ L)
    (hc : Block.cycle ∈ L) (hd : Block.door ∈ L) (hk : Block.tracking ∈ L) (hg : Block.grants ∈ L)
    (hs : Block.stages ∈ L) (hm : Block.messages ∈ L) (hE : ∀ e, Block.endOf e ∈ L)
    (hP : ∀ p, Block.portOf p ∈ L) :
    (s.reportClaiming r c).forget L = s.forget L := by
  unfold State.reportClaiming; try simp only []
  repeat' split
  all_goals simp [hi, hc, hd, hk, hg, hs, hm, hE, hP]

@[simp] theorem forget_tailChange (r : CountRecord) (c : EndChange) (hi : Block.inauguration ∈ L)
    (hE : ∀ e, Block.endOf e ∈ L) :
    (s.tailChange r c).forget L = s.forget L := by
  unfold State.tailChange; try simp only []
  repeat' split
  all_goals simp [hi, hE]

@[simp] theorem forget_reportCounted (r : CountRecord) (c : EndChange) (hi : Block.inauguration ∈ L)
    (hc : Block.cycle ∈ L) (hd : Block.door ∈ L) (hk : Block.tracking ∈ L) (hg : Block.grants ∈ L)
    (hs : Block.stages ∈ L) (hm : Block.messages ∈ L) (hE : ∀ e, Block.endOf e ∈ L)
    (hP : ∀ p, Block.portOf p ∈ L) :
    (s.reportCounted r c).forget L = s.forget L := by
  unfold State.reportCounted; try simp only []
  repeat' split
  all_goals simp [hi, hc, hd, hk, hg, hs, hm, hE, hP]

@[simp] theorem forget_reportMember (a : ActiveConsist) (c : EndChange) (hi : Block.inauguration ∈ L)
    (hc : Block.cycle ∈ L) (hd : Block.door ∈ L) (hk : Block.tracking ∈ L) (hg : Block.grants ∈ L)
    (hs : Block.stages ∈ L) (hm : Block.messages ∈ L) (hE : ∀ e, Block.endOf e ∈ L)
    (hP : ∀ p, Block.portOf p ∈ L) :
    (s.reportMember a c).forget L = s.forget L := by
  unfold State.reportMember; try simp only []
  repeat' split
  all_goals simp [hi, hc, hd, hk, hg, hs, hm, hE, hP]

@[simp] theorem forget_reportInauguration (c : EndChange) (hi : Block.inauguration ∈ L) (hc : Block.cycle ∈ L)
    (hd : Block.door ∈ L) (hk : Block.tracking ∈ L) (hg : Block.grants ∈ L) (hs : Block.stages ∈ L)
    (hm : Block.messages ∈ L) (hE : ∀ e, Block.endOf e ∈ L) (hP : ∀ p, Block.portOf p ∈ L) :
    (s.reportInauguration c).forget L = s.forget L := by
  unfold State.reportInauguration; try simp only []
  repeat' split
  all_goals simp [hi, hc, hd, hk, hg, hs, hm, hE, hP]

@[simp] theorem forget_reportEnd (e : EndId) (old : LinkState) (hi : Block.inauguration ∈ L)
    (hc : Block.cycle ∈ L) (hd : Block.door ∈ L) (hk : Block.tracking ∈ L) (hg : Block.grants ∈ L)
    (hs : Block.stages ∈ L) (hm : Block.messages ∈ L) (hE : ∀ e, Block.endOf e ∈ L)
    (hP : ∀ p, Block.portOf p ∈ L) :
    (s.reportEnd e old).forget L = s.forget L := by
  unfold State.reportEnd; try simp only []
  repeat' split
  all_goals simp [hi, hc, hd, hk, hg, hs, hm, hE, hP]

/-! ## Cycle Engine -/

@[simp] theorem forget_restartSilence (a : ActiveConsist) (hi : Block.inauguration ∈ L) :
    (s.restartSilence a).forget L = s.forget L := by
  unfold State.restartSilence; try simp only []
  repeat' split
  all_goals simp [hi]

@[simp] theorem forget_setLineSilence (a : ActiveConsist) (v : Nat) (hi : Block.inauguration ∈ L) :
    (s.setLineSilence a v).forget L = s.forget L := by
  simp [State.setLineSilence, hi]

@[simp] theorem forget_noteCall (r : CallRole) (hc : Block.cycle ∈ L) :
    (s.noteCall r).forget L = s.forget L := by
  simp [State.noteCall, hc]

@[simp] theorem forget_placeCycle (e : EndId) (f : Frame) (he : Block.endOf e ∈ L) :
    (s.placeCycle e f).forget L = s.forget L := by
  simp [State.placeCycle, he]

@[simp] theorem forget_useCall (a : ActiveConsist) (h : CallHeader) (hi : Block.inauguration ∈ L)
    (hd : Block.door ∈ L) (hc : Block.cycle ∈ L) (hE : ∀ e, Block.endOf e ∈ L) (hP : ∀ p, Block.portOf p ∈ L) :
    (s.useCall a h).forget L = s.forget L := by
  simp [State.useCall, hi, hd, hc, hE, hP]

@[simp] theorem forget_placedCall (a : ActiveConsist) (e : EndId) (p : List Byte) (hi : Block.inauguration ∈ L)
    (hd : Block.door ∈ L) (hc : Block.cycle ∈ L) (hE : ∀ e, Block.endOf e ∈ L) (hP : ∀ p, Block.portOf p ∈ L) :
    (s.placedCall a e p).forget L = s.forget L := by
  unfold State.placedCall; try simp only []
  repeat' split
  all_goals simp [hi, hd, hc, hE, hP]

@[simp] theorem forget_unplacedCall (e : EndId) (p : List Byte) (hc : Block.cycle ∈ L)
    (hE : ∀ e, Block.endOf e ∈ L) :
    (s.unplacedCall e p).forget L = s.forget L := by
  unfold State.unplacedCall; try simp only []
  repeat' split
  all_goals simp [hc, hE]

@[simp] theorem forget_receiveCall (e : EndId) (p : List Byte) (hi : Block.inauguration ∈ L)
    (hd : Block.door ∈ L) (hc : Block.cycle ∈ L) (hE : ∀ e, Block.endOf e ∈ L) (hP : ∀ p, Block.portOf p ∈ L) :
    (s.receiveCall e p).forget L = s.forget L := by
  unfold State.receiveCall; try simp only []
  repeat' split
  all_goals simp [hi, hd, hc, hE, hP]

@[simp] theorem forget_settle (a : ActiveConsist) (failed : Bool) (records : List CycleRecord)
    (hc : Block.cycle ∈ L) (hs : Block.stages ∈ L) (hg : Block.grants ∈ L) (hE : ∀ e, Block.endOf e ∈ L)
    (hP : ∀ p, Block.portOf p ∈ L) :
    (s.settle a failed records).forget L = s.forget L := by
  simp [State.settle, hc, hs, hg, hE, hP]

@[simp] theorem forget_memberSettles (a : ActiveConsist) (f : Frame) (hi : Block.inauguration ∈ L)
    (hc : Block.cycle ∈ L) (hs : Block.stages ∈ L) (hg : Block.grants ∈ L) (hE : ∀ e, Block.endOf e ∈ L)
    (hP : ∀ p, Block.portOf p ∈ L) :
    (s.memberSettles a f).forget L = s.forget L := by
  unfold State.memberSettles; try simp only []
  repeat' split
  all_goals simp [hi, hc, hs, hg, hE, hP]

@[simp] theorem forget_receiveSettle (e : EndId) (f : Frame) (hi : Block.inauguration ∈ L)
    (hc : Block.cycle ∈ L) (hs : Block.stages ∈ L) (hg : Block.grants ∈ L) (hE : ∀ e, Block.endOf e ∈ L)
    (hP : ∀ p, Block.portOf p ∈ L) :
    (s.receiveSettle e f).forget L = s.forget L := by
  unfold State.receiveSettle; try simp only []
  repeat' split
  all_goals simp [hi, hc, hs, hg, hE, hP]

@[simp] theorem forget_countFailure (c : CycleFailure) (hc : Block.cycle ∈ L) (hP : ∀ p, Block.portOf p ∈ L) :
    (s.countFailure c).forget L = s.forget L := by
  simp [State.countFailure, hc, hP]

@[simp] theorem forget_returnFails (a : ActiveConsist) (c : CycleFailure) (records : List CycleRecord)
    (hi : Block.inauguration ∈ L) (hc : Block.cycle ∈ L) (hd : Block.door ∈ L) (hk : Block.tracking ∈ L)
    (hg : Block.grants ∈ L) (hs : Block.stages ∈ L) (hm : Block.messages ∈ L) (hE : ∀ e, Block.endOf e ∈ L)
    (hP : ∀ p, Block.portOf p ∈ L) :
    (s.returnFails a c records).forget L = s.forget L := by
  unfold State.returnFails; try simp only []
  repeat' split
  all_goals simp [hi, hc, hd, hk, hg, hs, hm, hE, hP]

@[simp] theorem forget_evaluateReturn (a : ActiveConsist) (short : Bool) (records : List CycleRecord)
    (ho : Block.moments ∈ L) (hi : Block.inauguration ∈ L) (hc : Block.cycle ∈ L) (hd : Block.door ∈ L)
    (hk : Block.tracking ∈ L) (hg : Block.grants ∈ L) (hs : Block.stages ∈ L) (hm : Block.messages ∈ L)
    (hE : ∀ e, Block.endOf e ∈ L) (hP : ∀ p, Block.portOf p ∈ L) :
    (s.evaluateReturn a short records).forget L = s.forget L := by
  unfold State.evaluateReturn; try simp only []
  repeat' split
  all_goals simp [ho, hi, hc, hd, hk, hg, hs, hm, hE, hP]

@[simp] theorem forget_receiveReturn (e : EndId) (p : List Byte) (ho : Block.moments ∈ L)
    (hi : Block.inauguration ∈ L) (hc : Block.cycle ∈ L) (hd : Block.door ∈ L) (hk : Block.tracking ∈ L)
    (hg : Block.grants ∈ L) (hs : Block.stages ∈ L) (hm : Block.messages ∈ L) (hE : ∀ e, Block.endOf e ∈ L)
    (hP : ∀ p, Block.portOf p ∈ L) :
    (s.receiveReturn e p).forget L = s.forget L := by
  unfold State.receiveReturn; try simp only []
  repeat' split
  all_goals simp [ho, hi, hc, hd, hk, hg, hs, hm, hE, hP]

@[simp] theorem forget_callLeaves (a : ActiveConsist) (ho : Block.moments ∈ L) (hc : Block.cycle ∈ L) :
    (s.callLeaves a).forget L = s.forget L := by
  simp [State.callLeaves, ho, hc]

@[simp] theorem forget_originate (a : ActiveConsist) (ho : Block.moments ∈ L) (hi : Block.inauguration ∈ L)
    (hc : Block.cycle ∈ L) (hd : Block.door ∈ L) (hk : Block.tracking ∈ L) (hg : Block.grants ∈ L)
    (hs : Block.stages ∈ L) (hm : Block.messages ∈ L) (hE : ∀ e, Block.endOf e ∈ L)
    (hP : ∀ p, Block.portOf p ∈ L) :
    (s.originate a).forget L = s.forget L := by
  unfold State.originate; try simp only []
  repeat' split
  all_goals simp [ho, hi, hc, hd, hk, hg, hs, hm, hE, hP]

@[simp] theorem forget_callOriginate (ho : Block.moments ∈ L) (hi : Block.inauguration ∈ L)
    (hc : Block.cycle ∈ L) (hd : Block.door ∈ L) (hk : Block.tracking ∈ L) (hg : Block.grants ∈ L)
    (hs : Block.stages ∈ L) (hm : Block.messages ∈ L) (hE : ∀ e, Block.endOf e ∈ L)
    (hP : ∀ p, Block.portOf p ∈ L) :
    s.callOriginate.forget L = s.forget L := by
  unfold State.callOriginate; try simp only []
  repeat' split
  all_goals simp [ho, hi, hc, hd, hk, hg, hs, hm, hE, hP]

@[simp] theorem forget_headWake (f : Frame) (hi : Block.inauguration ∈ L) (hc : Block.cycle ∈ L)
    (hd : Block.door ∈ L) (hk : Block.tracking ∈ L) (hg : Block.grants ∈ L) (hs : Block.stages ∈ L)
    (hm : Block.messages ∈ L) (hE : ∀ e, Block.endOf e ∈ L) (hP : ∀ p, Block.portOf p ∈ L) :
    (s.headWake f).forget L = s.forget L := by
  unfold State.headWake; try simp only []
  repeat' split
  all_goals simp [hi, hc, hd, hk, hg, hs, hm, hE, hP]

@[simp] theorem forget_receiveOrder (e : EndId) (f : Frame) (hi : Block.inauguration ∈ L) (hd : Block.door ∈ L)
    (hc : Block.cycle ∈ L) (hE : ∀ e, Block.endOf e ∈ L) (hP : ∀ p, Block.portOf p ∈ L) :
    (s.receiveOrder e f).forget L = s.forget L := by
  unfold State.receiveOrder; try simp only []
  repeat' split
  all_goals simp [hi, hd, hc, hE, hP]

@[simp] theorem forget_setLineTiming (t : LineTiming) (hi : Block.inauguration ∈ L) (hc : Block.cycle ∈ L) :
    (s.setLineTiming t).forget L = s.forget L := by
  unfold State.setLineTiming; try simp only []
  repeat' split
  all_goals simp [hi, hc]

/-! ## Ends -/

@[simp] theorem forget_startDebounce (e : EndId) (he : Block.endOf e ∈ L) :
    (s.startDebounce e).forget L = s.forget L := by
  simp [State.startDebounce, he]

@[simp] theorem forget_wakeBy (c : WakeCause) (hw : Block.power ∈ L) :
    (s.wakeBy c).forget L = s.forget L := by
  unfold State.wakeBy; try simp only []
  repeat' split
  all_goals simp [hw]

@[simp] theorem forget_linkBySense (e : EndId) (he : Block.endOf e ∈ L) (hP : ∀ p, Block.portOf p ∈ L) :
    (s.linkBySense e).forget L = s.forget L := by
  unfold State.linkBySense; try simp only []
  repeat' split
  all_goals simp [he, hP]

@[simp] theorem forget_modPairAt (e : EndId) (p : Pair) (f : PairState → PairState) (he : Block.endOf e ∈ L) :
    (s.modPairAt e p f).forget L = s.forget L := by
  simp [State.modPairAt, he]

@[simp] theorem forget_setReceiver (e : EndId) (p : Pair) (r : Receiver) (he : Block.endOf e ∈ L) :
    (s.setReceiver e p r).forget L = s.forget L := by
  simp [State.setReceiver, he]

@[simp] theorem forget_badCopy (e : EndId) (p : Pair) (he : Block.endOf e ∈ L) :
    (s.badCopy e p).forget L = s.forget L := by
  simp [State.badCopy, he]

@[simp] theorem forget_copyStart (e : EndId) (p : Pair) (he : Block.endOf e ∈ L) (hw : Block.power ∈ L) :
    (s.copyStart e p).forget L = s.forget L := by
  unfold State.copyStart; try simp only []
  repeat' split
  all_goals simp [he, hw]

@[simp] theorem forget_idleAbort (e : EndId) (p : Pair) (he : Block.endOf e ∈ L) :
    (s.idleAbort e p).forget L = s.forget L := by
  unfold State.idleAbort; try simp only []
  repeat' split
  all_goals simp [he]

@[simp] theorem forget_receiveMsgFrame (e : EndId) (f : Frame) (hm : Block.messages ∈ L)
    (hE : ∀ e, Block.endOf e ∈ L) (hP : ∀ p, Block.portOf p ∈ L) :
    (s.receiveMsgFrame e f).forget L = s.forget L := by
  unfold State.receiveMsgFrame; try simp only []
  repeat' split
  all_goals simp [hm, hE, hP]

@[simp] theorem forget_receiveNoteFrame (e : EndId) (f : Frame) (hm : Block.messages ∈ L)
    (hE : ∀ e, Block.endOf e ∈ L) (hP : ∀ p, Block.portOf p ∈ L) :
    (s.receiveNoteFrame e f).forget L = s.forget L := by
  unfold State.receiveNoteFrame; try simp only []
  repeat' split
  all_goals simp [hm, hE, hP]

@[simp] theorem forget_handOn (e : EndId) (f : Frame) (ho : Block.moments ∈ L) (hi : Block.inauguration ∈ L)
    (hc : Block.cycle ∈ L) (hd : Block.door ∈ L) (hk : Block.tracking ∈ L) (hg : Block.grants ∈ L)
    (hs : Block.stages ∈ L) (hm : Block.messages ∈ L) (hE : ∀ e, Block.endOf e ∈ L)
    (hP : ∀ p, Block.portOf p ∈ L) :
    (s.handOn e f).forget L = s.forget L := by
  unfold State.handOn; try simp only []
  repeat' split
  all_goals simp [ho, hi, hc, hd, hk, hg, hs, hm, hE, hP]

@[simp] theorem forget_hearCopy (e : EndId) (he : Block.endOf e ∈ L) :
    (s.hearCopy e).forget L = s.forget L := by
  simp [State.hearCopy, he]

@[simp] theorem forget_acceptCopy (e : EndId) (p : Pair) (sequence : Nat) (he : Block.endOf e ∈ L)
    (hP : ∀ p, Block.portOf p ∈ L) :
    (s.acceptCopy e p sequence).forget L = s.forget L := by
  simp [State.acceptCopy, he, hP]

@[simp] theorem forget_twin (e : EndId) (p : Pair) (he : Block.endOf e ∈ L) (hP : ∀ p, Block.portOf p ∈ L) :
    (s.twin e p).forget L = s.forget L := by
  unfold State.twin; try simp only []
  repeat' split
  all_goals simp [he, hP]

@[simp] theorem forget_filterCopy (e : EndId) (p : Pair) (c : IntactCopy) (ho : Block.moments ∈ L)
    (hi : Block.inauguration ∈ L) (hc : Block.cycle ∈ L) (hd : Block.door ∈ L) (hk : Block.tracking ∈ L)
    (hg : Block.grants ∈ L) (hs : Block.stages ∈ L) (hm : Block.messages ∈ L) (hE : ∀ e, Block.endOf e ∈ L)
    (hP : ∀ p, Block.portOf p ∈ L) :
    (s.filterCopy e p c).forget L = s.forget L := by
  unfold State.filterCopy; try simp only []
  repeat' split
  all_goals simp [ho, hi, hc, hd, hk, hg, hs, hm, hE, hP]

@[simp] theorem forget_judgeCopy (e : EndId) (p : Pair) (bytes : List Byte) (ho : Block.moments ∈ L)
    (hi : Block.inauguration ∈ L) (hc : Block.cycle ∈ L) (hd : Block.door ∈ L) (hk : Block.tracking ∈ L)
    (hg : Block.grants ∈ L) (hs : Block.stages ∈ L) (hm : Block.messages ∈ L) (hE : ∀ e, Block.endOf e ∈ L)
    (hP : ∀ p, Block.portOf p ∈ L) :
    (s.judgeCopy e p bytes).forget L = s.forget L := by
  unfold State.judgeCopy; try simp only []
  repeat' split
  all_goals simp [ho, hi, hc, hd, hk, hg, hs, hm, hE, hP]

@[simp] theorem forget_copyReceived (e : EndId) (p : Pair) (bytes : List Byte) (ho : Block.moments ∈ L)
    (hi : Block.inauguration ∈ L) (hc : Block.cycle ∈ L) (hd : Block.door ∈ L) (hk : Block.tracking ∈ L)
    (hg : Block.grants ∈ L) (hs : Block.stages ∈ L) (hm : Block.messages ∈ L) (hE : ∀ e, Block.endOf e ∈ L)
    (hP : ∀ p, Block.portOf p ∈ L) :
    (s.copyReceived e p bytes).forget L = s.forget L := by
  unfold State.copyReceived; try simp only []
  repeat' split
  all_goals simp [ho, hi, hc, hd, hk, hg, hs, hm, hE, hP]

@[simp] theorem forget_send (e : EndId) (f : Frame) (he : Block.endOf e ∈ L) :
    (s.send e f).forget L = s.forget L := by
  simp [State.send, he]

@[simp] theorem forget_ownLeaves (e : EndId) (x : Source) (f : Frame) (ho : Block.moments ∈ L)
    (hc : Block.cycle ∈ L) (hk : Block.tracking ∈ L) (hd : Block.door ∈ L) (hP : ∀ p, Block.portOf p ∈ L) :
    (s.ownLeaves e x f).forget L = s.forget L := by
  unfold State.ownLeaves; try simp only []
  repeat' split
  all_goals simp [ho, hc, hk, hd, hP]

@[simp] theorem forget_arbiterTake (e : EndId) (ho : Block.moments ∈ L) (he : Block.endOf e ∈ L)
    (hc : Block.cycle ∈ L) (hk : Block.tracking ∈ L) (hd : Block.door ∈ L) (hm : Block.messages ∈ L)
    (hP : ∀ p, Block.portOf p ∈ L) :
    (s.arbiterTake e).forget L = s.forget L := by
  unfold State.arbiterTake; try simp only []
  repeat' split
  all_goals simp [ho, he, hc, hk, hd, hm, hP]

@[simp] theorem forget_transmitComplete (e : EndId) (he : Block.endOf e ∈ L) :
    (s.transmitComplete e).forget L = s.forget L := by
  unfold State.transmitComplete; try simp only []
  repeat' split
  all_goals simp [he]

@[simp] theorem forget_endReset (e : EndId) (hi : Block.inauguration ∈ L) (hc : Block.cycle ∈ L)
    (hd : Block.door ∈ L) (hk : Block.tracking ∈ L) (hg : Block.grants ∈ L) (hs : Block.stages ∈ L)
    (hm : Block.messages ∈ L) (hE : ∀ e, Block.endOf e ∈ L) (hP : ∀ p, Block.portOf p ∈ L) :
    (s.endReset e).forget L = s.forget L := by
  unfold State.endReset; try simp only []
  repeat' split
  all_goals simp [hi, hc, hd, hk, hg, hs, hm, hE, hP]

@[simp] theorem forget_endResetNamed (p : PortId) (hi : Block.inauguration ∈ L) (hc : Block.cycle ∈ L)
    (hd : Block.door ∈ L) (hk : Block.tracking ∈ L) (hg : Block.grants ∈ L) (hs : Block.stages ∈ L)
    (hm : Block.messages ∈ L) (hE : ∀ e, Block.endOf e ∈ L) (hP : ∀ p, Block.portOf p ∈ L) :
    (s.endResetNamed p).forget L = s.forget L := by
  unfold State.endResetNamed; try simp only []
  repeat' split
  all_goals simp [hi, hc, hd, hk, hg, hs, hm, hE, hP]

/-! ## Power -/

@[simp] theorem forget_endStable (e : EndId) (he : Block.endOf e ∈ L) (hP : ∀ p, Block.portOf p ∈ L) :
    (s.endStable e).forget L = s.forget L := by
  simp [State.endStable, he, hP]

@[simp] theorem forget_releaseLatches (hP : ∀ p, Block.portOf p ∈ L) :
    s.releaseLatches.forget L = s.forget L := by
  simp [State.releaseLatches, hP]

@[simp] theorem forget_endActive (e : EndId) (he : Block.endOf e ∈ L) (hP : ∀ p, Block.portOf p ∈ L) :
    (s.endActive e).forget L = s.forget L := by
  unfold State.endActive; try simp only []
  repeat' split
  all_goals simp [he, hP]

@[simp] theorem forget_lockIdentity (hw : Block.power ∈ L) (hc : Block.cycle ∈ L) (hE : ∀ e, Block.endOf e ∈ L) :
    s.lockIdentity.forget L = s.forget L := by
  simp [State.lockIdentity, hw, hc, hE]

end Sys2Proof.Machine
end

