-- ==== Sys2Proof/Laws/Commands.lean ====
section
/-! SUPPORT. The gates of a command, each said once: a node that is held, asleep or open; a running timer; a written
byte; a port command that is refused and one that is done. -/

namespace Sys2Proof.Machine

variable (s : State)

/-! ## Gates -/

theorem live_of_free (f : State → State) (h : s.power.held = false) : s.live f = f s := by simp [State.live, h]

theorem live_of_held (f : State → State) (h : s.power.held = true) : s.live f = s := by simp [State.live, h]

theorem awake_of_free (f : State → State) (h : s.power.held = false) (a : s.asleep = false) : s.awake f = f s := by
  simp [State.awake, h, a]

theorem expire_none (f : State → State) : s.expire none f = s := rfl

theorem expire_some (d : Nat) (f : State → State) : s.expire (some d) f = f (s.reach d) := rfl

theorem asleep_of_active (h : s.power.state = .active) : s.asleep = false := by simp [State.asleep, h]

theorem loading_of_active (h : s.power.state = .active) : s.loading = false := by simp [State.loading, h]

/-! ## A written byte -/

theorem port_modPort_ne (p q : PortId) (g : Port → Port) (h : q ≠ p) : (s.modPort p g).port q = s.port q := by
  cases p <;> cases q <;> first | rfl | exact absurd rfl h

/-- The port that a byte reached is the same but for its transaction and what it shifts out. -/
theorem wrote_port (p : PortId) (a : Nat) :
    (s.wrote p a).port p = { (s.port p).reached a with shiftOut := 0xFF } := by simp [State.wrote]

@[simp] theorem wrote_operand (p q : PortId) (a i : Nat) : (s.wrote p a).operand q i = s.operand q i := by
  cases p <;> cases q <;> rfl

@[simp] theorem wrote_operandNum (p q : PortId) (a i : Nat) : (s.wrote p a).operandNum q i = s.operandNum q i := by
  simp [State.operandNum]

@[simp] theorem wrote_admits (p q : PortId) (a : Nat) (need : Need) : (s.wrote p a).admits q need = s.admits q need := by
  cases p <;> cases q <;> cases need <;> rfl

@[simp] theorem wrote_loading (p : PortId) (a : Nat) : (s.wrote p a).loading = s.loading := by cases p <;> rfl

@[simp] theorem wrote_asleep (p : PortId) (a : Nat) : (s.wrote p a).asleep = s.asleep := by cases p <;> rfl

@[simp] theorem wrote_flags (p q : PortId) (a : Nat) : ((s.wrote p a).port q).flags = (s.port q).flags := by
  cases p <;> cases q <;> rfl

/-- Outside the port, a written byte changes nothing by itself. -/
theorem wrote_changes (p : PortId) (a : Nat) : OnlyChanges [.portOf p] s (s.wrote p a) := by
  rw [onlyChanges_iff_forget]; simp

theorem write_awake (p : PortId) (a : Nat) (f : State → State) (h : s.power.held = false)
    (w : (s.port p).takesWrite a = true) (z : s.asleep = false) : s.write p a f = f (s.wrote p a) := by
  simp [State.write, State.live, h, w, z]

theorem write_open (p : PortId) (f : State → State) (h : PortOpen s p) :
    s.write p opcodeAddress f = f (s.wrote p opcodeAddress) :=
  write_awake s p opcodeAddress f h.1 h.2.2 (asleep_of_active s h.2.1)

/-- A byte written anywhere but where the counter of the open transaction stands changes nothing (R168; log 3). -/
theorem write_elsewhere (p : PortId) (a : Nat) (f : State → State) (w : (s.port p).takesWrite a = false) :
    s.write p a f = s := by
  simp [State.write, State.live, w]

theorem write_asleep (p : PortId) (a : Nat) (f : State → State) (h : s.power.held = false)
    (w : (s.port p).takesWrite a = true) (z : s.asleep = true) : s.write p a f = s.wrote p a := by
  simp [State.write, State.live, h, w, z]

/-! ## Port commands -/

variable (p : PortId) (need : Need) (check : State → Option Reason) (act : State → State) (data : State → Nat)

/-- An admitted command is judged by its own checks. -/
theorem command_admitted (h : Admitted s p need) :
    s.command p need check act data =
      match check (s.wrote p opcodeAddress) with
      | some r => (s.wrote p opcodeAddress).answer p .refused (some r) 0
      | none => (act (s.wrote p opcodeAddress)).answer p .done none (data (s.wrote p opcodeAddress)) := by
  unfold State.command
  rw [write_open s p _ h.1]
  simp only [State.refusal, wrote_admits, h.2, wrote_loading, loading_of_active s h.1.2.1]
  cases check (s.wrote p opcodeAddress) <;> rfl

theorem command_done (h : Admitted s p need) (c : check (s.wrote p opcodeAddress) = none) :
    s.command p need check act data =
      (act (s.wrote p opcodeAddress)).answer p .done none (data (s.wrote p opcodeAddress)) := by
  rw [command_admitted s p need check act data h, c]

/-- An outcome at the port where the byte was written. -/
theorem wrote_answer_refused (r : Reason) :
    RefusedAt p r s ((s.wrote p opcodeAddress).answer p .refused (some r) 0) := by
  refine ⟨?_, ?_, ?_, ?_⟩
  · cases p <;> exact ⟨rfl, rfl, rfl, rfl, rfl, rfl⟩
  · cases p <;> exact ⟨rfl, rfl, rfl, rfl, rfl, rfl, rfl, rfl⟩
  · intro q; cases p <;> cases q <;> rfl
  · rw [onlyChanges_iff_forget]; simp

/-- An admitted command whose checks give a reason is refused with it (R171). -/
theorem command_refused (h : Admitted s p need) (r : Reason) (c : check (s.wrote p opcodeAddress) = some r) :
    RefusedAt p r s (s.command p need check act data) := by
  rw [command_admitted s p need check act data h, c]
  exact wrote_answer_refused s p r

/-- A command whose action leaves its own port but for flags alone, and no other port, is answered DONE (R171). -/
theorem command_doneAt (bs : List Block) (h : Admitted s p need) (c : check (s.wrote p opcodeAddress) = none)
    (own : OnlyFlags ((s.wrote p opcodeAddress).port p) ((act (s.wrote p opcodeAddress)).port p))
    (beside : OnlyFlags (s.port p.other) ((act (s.wrote p opcodeAddress)).port p.other))
    (frame : (act (s.wrote p opcodeAddress)).forget (.portOf .portA :: .portOf .portB :: bs)
      = (s.wrote p opcodeAddress).forget (.portOf .portA :: .portOf .portB :: bs)) :
    DoneAt p bs s (s.plainCommand p need check act) := by
  have e := command_done s p need check act (fun _ => 0) h c
  unfold State.plainCommand
  rw [e]
  unfold OnlyFlags at own beside
  rw [wrote_port] at own
  refine ⟨?_, ?_, ?_, ?_⟩
  · simp only [Answered, State.answer, port_modPort, Port.answer]
    rw [own]
    exact ⟨rfl, rfl, rfl, rfl, rfl, rfl⟩
  · simp only [SameSettings, State.answer, port_modPort, Port.answer]
    rw [own]
    exact ⟨rfl, rfl, rfl, rfl, rfl, rfl, rfl, rfl⟩
  · simp only [OnlyFlags, State.answer, port_modPort_other]
    exact beside
  · rw [onlyChanges_iff_forget]
    simp [frame]

/-- A command in LOADING is refused with STATE (R171, R180). -/
theorem command_loading (h : s.power.held = false) (w : (s.port p).takesWrite opcodeAddress = true) (a : s.admits p need = true)
    (l : s.loading = true) : RefusedAt p .state s (s.command p need check act data) := by
  have z : s.asleep = false := by
    simp only [State.loading, decide_eq_true_eq] at l
    simp [State.asleep, l]
  have e : s.command p need check act data = (s.wrote p opcodeAddress).answer p .refused (some .state) 0 := by
    simp [State.command, State.write, State.live, h, w, z, State.refusal, a, l]
  rw [e]
  exact wrote_answer_refused s p .state

/-- A command that the port's role does not admit is refused with WRONG_ROLE (R171). -/
theorem command_wrongRole (h : s.power.held = false) (w : (s.port p).takesWrite opcodeAddress = true) (z : s.asleep = false)
    (a : s.admits p need = false) : RefusedAt p .wrongRole s (s.command p need check act data) := by
  have e : s.command p need check act data = (s.wrote p opcodeAddress).answer p .refused (some .wrongRole) 0 := by
    simp [State.command, State.write, State.live, h, w, z, State.refusal, a]
  rw [e]
  exact wrote_answer_refused s p .wrongRole

/-! ## Events -/

/-- An event leaves both ports alone but for their flags. -/
theorem raise_onlyRaises (c : Cause) : OnlyRaises s (s.raise c) := by
  intro q; cases q <;> rfl

/-- An event is raised once in each copy. -/
theorem raise_raisedOnly (c : Cause) : RaisedOnly c s (s.raise c) := by
  intro q; cases q <;> rfl

/-- A cause's flag is set after its event. -/
theorem flagSet_raiseAt (q : PortId) (c : Cause) : (s.raiseAt q c).flagSet q c = true := by
  have key : ∀ x : Byte, ((x ||| c.mask) &&& c.mask) = c.mask := by
    intro x; ext i hi; simp only [BitVec.getElem_and, BitVec.getElem_or]
    cases x[i] <;> cases c.mask[i] <;> rfl
  have nz : (c.mask != 0) = true := by
    cases c <;> first | rfl | (rename_i e; cases e <;> rfl)
  have get : ∀ (b : GroupBytes) (g : Group) (v : Byte), (b.set g v).get g = v := by
    intro b g v; cases g <;> rfl
  have stored : ((s.raiseAt q c).port q).flags.get c.group = (s.port q).flags.get c.group ||| c.mask := by
    simp [State.raiseAt, Port.raise, get]
  have key' : ∀ x : Byte, (((x ||| c.mask) ||| 0x01) &&& c.mask) = c.mask := by
    intro x
    have := key (x ||| 0x01)
    rwa [show (x ||| 0x01) ||| c.mask = (x ||| c.mask) ||| 0x01 from by
      rw [BitVec.or_assoc, BitVec.or_comm (0x01 : Byte), ← BitVec.or_assoc]] at this
  unfold State.flagSet State.flagByte
  rw [stored]
  split
  · split
    · rw [key]; exact nz
    · rw [key']; exact nz
  · rw [key]; exact nz

/-! ## Slots -/

/-- A frame placed at an empty slot of an End that is not OPEN stands in the slot (R14). -/
theorem place_inSlot (e : EndId) (x : Source) (f : Frame) (h : SlotFree s e x) : InSlot (s.place e x f) e x f := by
  obtain ⟨open', empty⟩ := h
  cases e <;> cases x <;>
    simp_all [InSlot, State.place, State.isOpen, State.modEnd, State.lineEnd, LineEnd.modSlot, Slots.get, Slots.set,
      SourceSlot.place, SourceSlot.empty]

/-- A frame placed at an End leaves the End opposite alone. -/
@[simp] theorem place_other (e : EndId) (x : Source) (f : Frame) : (s.place e x f).lineEnd e.other = s.lineEnd e.other := by
  unfold State.place; split
  · rfl
  · cases e <;> rfl

end Sys2Proof.Machine
end

