-- ==== Sys2Proof/Laws/PerInstr.lean ====
section
/-! SUPPORT. One lemma per command: its check of operands says what the bounds of the table's operands are. -/

namespace Sys2Proof.Laws.Checks

/-- The operands a command can carry at the hardware's own pins, as the spec bounds them (R5, R140, R147, R155, R179,
R181, R187). -/
def OperandBounds : Instr → Prop
  | .loadComplete (some bytes) => bytes.length = 25
  | .copyReceived _ _ bytes =>
    ∃ (kind sequence hi lo : Byte) (rest : List Byte), bytes = kind :: sequence :: hi :: lo :: rest
      ∧ rest.length = hi.toNat * 256 + lo.toNat + 2
  | .stageTimerExpiry k | .stageTimerLowRead _ k | .stageTimerHighRead _ k => 1 ≤ k ∧ k ≤ 4
  | .storingEnd b => b ≤ 95
  | .deadlineExpiry n => 1 ≤ n ∧ n ≤ 255
  | .identityFieldWrite _ o _ => 4 ≤ o ∧ o ≤ 17 ∧ o ≠ 16
  | _ => True

/-- A command is well formed exactly where its operands are within their bounds. -/
def Statement (i : Instr) : Prop := i.wf = true ↔ OperandBounds i

theorem powerOnReset : Statement .powerOnReset := ⟨fun _ => trivial, fun _ => rfl⟩

theorem resetPin : Statement .resetPin := ⟨fun _ => trivial, fun _ => rfl⟩

theorem resetEnd (role1 role0 idsrc : Bool) : Statement (.resetEnd role1 role0 idsrc) := ⟨fun _ => trivial, fun _ => rfl⟩

theorem loadComplete (read : Option (List Byte)) : Statement (.loadComplete read) := by
  cases read <;> simp [Statement, Instr.wf, OperandBounds]

theorem identityReadTimeout : Statement .identityReadTimeout := ⟨fun _ => trivial, fun _ => rfl⟩

theorem rawSenseChange (e : EndId) (level : Sense) : Statement (.rawSenseChange e level) := ⟨fun _ => trivial, fun _ => rfl⟩

theorem senseDebounceExpiry (e : EndId) : Statement (.senseDebounceExpiry e) := ⟨fun _ => trivial, fun _ => rfl⟩

theorem copyStart (e : EndId) (p : Pair) : Statement (.copyStart e p) := ⟨fun _ => trivial, fun _ => rfl⟩

theorem lineIdleAbort (e : EndId) (p : Pair) : Statement (.lineIdleAbort e p) := ⟨fun _ => trivial, fun _ => rfl⟩

theorem copyReceived (e : EndId) (p : Pair) (bytes : List Byte) : Statement (.copyReceived e p bytes) := by
  match bytes with
  | [] | [_] | [_, _] | [_, _, _] => simp [Statement, Instr.wf, copyWellFormed, OperandBounds]
  | kind :: sequence :: hi :: lo :: rest =>
    simp only [Statement, Instr.wf, copyWellFormed, OperandBounds, beq_iff_eq]
    exact ⟨fun h => ⟨kind, sequence, hi, lo, rest, rfl, h⟩, fun ⟨_, _, _, _, _, h, g⟩ => by cases h; exact g⟩

theorem twinWindowExpiry (e : EndId) : Statement (.twinWindowExpiry e) := ⟨fun _ => trivial, fun _ => rfl⟩

theorem linkIdleExpiry (e : EndId) : Statement (.linkIdleExpiry e) := ⟨fun _ => trivial, fun _ => rfl⟩

theorem keepaliveExpiry (e : EndId) : Statement (.keepaliveExpiry e) := ⟨fun _ => trivial, fun _ => rfl⟩

theorem arbiterTake (e : EndId) : Statement (.arbiterTake e) := ⟨fun _ => trivial, fun _ => rfl⟩

theorem transmitComplete (e : EndId) : Statement (.transmitComplete e) := ⟨fun _ => trivial, fun _ => rfl⟩

theorem callOriginate : Statement .callOriginate := ⟨fun _ => trivial, fun _ => rfl⟩

theorem hopTimerExpiry : Statement .hopTimerExpiry := ⟨fun _ => trivial, fun _ => rfl⟩

theorem inaugurationTimerExpiry : Statement .inaugurationTimerExpiry := ⟨fun _ => trivial, fun _ => rfl⟩

theorem commitWaitExpiry : Statement .commitWaitExpiry := ⟨fun _ => trivial, fun _ => rfl⟩

theorem silenceExpiry : Statement .silenceExpiry := ⟨fun _ => trivial, fun _ => rfl⟩

theorem cycleTimeoutExpiry : Statement .cycleTimeoutExpiry := ⟨fun _ => trivial, fun _ => rfl⟩

theorem periodTimerExpiry : Statement .periodTimerExpiry := ⟨fun _ => trivial, fun _ => rfl⟩

theorem refreshTimerExpiry : Statement .refreshTimerExpiry := ⟨fun _ => trivial, fun _ => rfl⟩

theorem closeTimerExpiry (side : SideId) : Statement (.closeTimerExpiry side) := ⟨fun _ => trivial, fun _ => rfl⟩

theorem attendanceTimerExpiry : Statement .attendanceTimerExpiry := ⟨fun _ => trivial, fun _ => rfl⟩

theorem proofLifetimeExpiry : Statement .proofLifetimeExpiry := ⟨fun _ => trivial, fun _ => rfl⟩

theorem stageTimerExpiry (stage : Nat) : Statement (.stageTimerExpiry stage) := by simp [Statement, Instr.wf, OperandBounds]

theorem transmitServerStep : Statement .transmitServerStep := ⟨fun _ => trivial, fun _ => rfl⟩

theorem storingEnd (buffer : Nat) : Statement (.storingEnd buffer) := by
  show decide (buffer < 96) = true ↔ buffer ≤ 95
  rw [decide_eq_true_eq]
  omega

theorem deadlineExpiry (sequence : Nat) : Statement (.deadlineExpiry sequence) := by simp [Statement, Instr.wf, OperandBounds]

theorem wakeSettleExpiry : Statement .wakeSettleExpiry := ⟨fun _ => trivial, fun _ => rfl⟩

theorem transactionStart (p : PortId) (command : Option Byte) : Statement (.transactionStart p command) := ⟨fun _ => trivial, fun _ => rfl⟩

theorem transactionEnd (p : PortId) : Statement (.transactionEnd p) := ⟨fun _ => trivial, fun _ => rfl⟩

theorem areaCapture (p : PortId) : Statement (.areaCapture p) := ⟨fun _ => trivial, fun _ => rfl⟩

theorem stageTimerLowRead (p : PortId) (stage : Nat) : Statement (.stageTimerLowRead p stage) := by simp [Statement, Instr.wf, OperandBounds]

theorem stageTimerHighRead (p : PortId) (stage : Nat) : Statement (.stageTimerHighRead p stage) := by simp [Statement, Instr.wf, OperandBounds]

theorem flagClear (p : PortId) (g : Group) (v : Byte) : Statement (.flagClear p g v) := ⟨fun _ => trivial, fun _ => rfl⟩

theorem enableWrite (p : PortId) (t : EnableTarget) (v : Byte) : Statement (.enableWrite p t v) := ⟨fun _ => trivial, fun _ => rfl⟩

theorem countClearWrite (p : PortId) (e : EndId) (c : EndCount) : Statement (.countClearWrite p e c) := ⟨fun _ => trivial, fun _ => rfl⟩

theorem identityFieldWrite (p : PortId) (offset : Nat) (v : Byte) : Statement (.identityFieldWrite p offset v) := by
  simp only [Statement, Instr.wf, OperandBounds, identityFieldEnds, List.contains_eq_mem, List.mem_cons, List.not_mem_nil,
    or_false, decide_eq_true_eq]
  omega

theorem registerWrite (p : PortId) (address : Nat) (v : Byte) : Statement (.registerWrite p address v) := ⟨fun _ => trivial, fun _ => rfl⟩

theorem claimCab (p : PortId) : Statement (.claimCab p) := ⟨fun _ => trivial, fun _ => rfl⟩

theorem releaseCab (p : PortId) : Statement (.releaseCab p) := ⟨fun _ => trivial, fun _ => rfl⟩

theorem setStandstill (p : PortId) : Statement (.setStandstill p) := ⟨fun _ => trivial, fun _ => rfl⟩

theorem issueOrder (p : PortId) : Statement (.issueOrder p) := ⟨fun _ => trivial, fun _ => rfl⟩

theorem writeDoorStatus (p : PortId) : Statement (.writeDoorStatus p) := ⟨fun _ => trivial, fun _ => rfl⟩

theorem localClose (p : PortId) : Statement (.localClose p) := ⟨fun _ => trivial, fun _ => rfl⟩

theorem setLineTiming (p : PortId) : Statement (.setLineTiming p) := ⟨fun _ => trivial, fun _ => rfl⟩

theorem setDemand (p : PortId) : Statement (.setDemand p) := ⟨fun _ => trivial, fun _ => rfl⟩

theorem setSupplyBudget (p : PortId) : Statement (.setSupplyBudget p) := ⟨fun _ => trivial, fun _ => rfl⟩

theorem selectPosition (p : PortId) : Statement (.selectPosition p) := ⟨fun _ => trivial, fun _ => rfl⟩

theorem take (p : PortId) : Statement (.take p) := ⟨fun _ => trivial, fun _ => rfl⟩

theorem selectBuffer (p : PortId) : Statement (.selectBuffer p) := ⟨fun _ => trivial, fun _ => rfl⟩

theorem post (p : PortId) : Statement (.post p) := ⟨fun _ => trivial, fun _ => rfl⟩

theorem fetch (p : PortId) : Statement (.fetch p) := ⟨fun _ => trivial, fun _ => rfl⟩

theorem returnBuffer (p : PortId) : Statement (.returnBuffer p) := ⟨fun _ => trivial, fun _ => rfl⟩

theorem setQuotas (p : PortId) : Statement (.setQuotas p) := ⟨fun _ => trivial, fun _ => rfl⟩

theorem nodeReset (p : PortId) : Statement (.nodeReset p) := ⟨fun _ => trivial, fun _ => rfl⟩

theorem endReset (p : PortId) : Statement (.endReset p) := ⟨fun _ => trivial, fun _ => rfl⟩

theorem stable (p : PortId) : Statement (.stable p) := ⟨fun _ => trivial, fun _ => rfl⟩

theorem wakeCommand (p : PortId) : Statement (.wakeCommand p) := ⟨fun _ => trivial, fun _ => rfl⟩

theorem lockIdentity (p : PortId) : Statement (.lockIdentity p) := ⟨fun _ => trivial, fun _ => rfl⟩

end Sys2Proof.Laws.Checks
end

