-- ==== Sys2Proof/Laws/Skeleton.lean ====
section
/-! SUPPORT. What no engine touches: the clock, the identity and power state, the commands waiting, a port apart from
its flags, an End apart from its slots and its Through Queue. One lemma per operation of an engine. -/

namespace Sys2Proof.Machine

/-- An End without its slots, its Through Queue and the count of that queue's drops. -/
def LineEnd.still (l : LineEnd) : LineEnd := { l with slots := .empty, throughQueue := [], throughDrop := 0 }

/-- A port without its flags. -/
def Port.still (p : Port) : Port := { p with flags := .zero }

/-- What no engine touches. -/
structure Skeleton where
  now : Nat
  freeCount : Nat
  end1 : LineEnd
  end2 : LineEnd
  portA : Port
  portB : Port
  power : Power
  pending : List Instr

/-- What no engine touches, of a state. -/
def State.skeleton (s : State) : Skeleton :=
  { now := s.now, freeCount := s.freeCount, end1 := s.end1.still, end2 := s.end2.still
    portA := s.portA.still, portB := s.portB.still, power := s.power, pending := s.pending }

variable (s : State)

/-! ## Block updates -/

@[simp] theorem skel_modInaug (g : Inauguration → Inauguration) : (s.modInaug g).skeleton = s.skeleton := rfl
@[simp] theorem skel_modCycle (g : Cycle → Cycle) : (s.modCycle g).skeleton = s.skeleton := rfl
@[simp] theorem skel_modDoor (g : Door → Door) : (s.modDoor g).skeleton = s.skeleton := rfl
@[simp] theorem skel_modTrack (g : Tracking → Tracking) : (s.modTrack g).skeleton = s.skeleton := rfl
@[simp] theorem skel_modGrants (g : GrantEngine → GrantEngine) : (s.modGrants g).skeleton = s.skeleton := rfl
@[simp] theorem skel_modStage (g : StageDrive → StageDrive) : (s.modStage g).skeleton = s.skeleton := rfl
@[simp] theorem skel_modMsg (g : MessageUnit → MessageUnit) : (s.modMsg g).skeleton = s.skeleton := rfl
@[simp] theorem skel_tickMoment : s.tickMoment.skeleton = s.skeleton := rfl

/-- An update of an End that leaves all but its traffic alone. -/
theorem skel_modEnd (e : EndId) (g : LineEnd → LineEnd) (h : ∀ l, (g l).still = l.still) :
    (s.modEnd e g).skeleton = s.skeleton := by
  cases e <;> simp [State.skeleton, State.modEnd, h]

/-! ## Events -/

@[simp] theorem skel_raiseAt (p : PortId) (c : Cause) : (s.raiseAt p c).skeleton = s.skeleton := by
  cases p <;> rfl
@[simp] theorem skel_raise (c : Cause) : (s.raise c).skeleton = s.skeleton := by
  simp [State.raise]

/-! ## Slots and queues -/

@[simp] theorem still_modSlot (l : LineEnd) (x : Source) (g : SourceSlot → SourceSlot) :
    (l.modSlot x g).still = l.still := rfl
@[simp] theorem still_countDrops (l : LineEnd) (n : Nat) : (l.countDrops n).still = l.still := rfl
@[simp] theorem still_queue (l : LineEnd) (q : List Frame) : { l with throughQueue := q }.still = l.still := rfl

@[simp] theorem skel_place (e : EndId) (x : Source) (f : Frame) : (s.place e x f).skeleton = s.skeleton := by
  unfold State.place; split
  · rfl
  · exact skel_modEnd s e _ fun l => rfl
@[simp] theorem skel_passThrough (e : EndId) (f : Frame) : (s.passThrough e f).skeleton = s.skeleton := by
  unfold State.passThrough
  split
  · split
    · exact skel_modEnd s e _ fun l => rfl
    · rw [skel_raise]; exact skel_modEnd s e _ fun l => rfl
  · split
    · rfl
    · exact skel_modEnd s e _ fun l => rfl
@[simp] theorem skel_produceWake (e : EndId) (v : Byte) : (s.produceWake e v).skeleton = s.skeleton := by
  unfold State.produceWake; split
  · exact skel_modEnd s e _ fun l => rfl
  · simp
@[simp] theorem skel_statusWake (e : EndId) : (s.statusWake e).skeleton = s.skeleton := by
  unfold State.statusWake; split
  · exact skel_modEnd s e _ fun l => rfl
  · simp
@[simp] theorem skel_topologyAlert (e : EndId) : (s.topologyAlert e).skeleton = s.skeleton := by
  unfold State.topologyAlert; split <;> simp
@[simp] theorem skel_passWake (e : EndId) (f : Frame) : (s.passWake e f).skeleton = s.skeleton := by
  unfold State.passWake
  rw [skel_passThrough]; exact skel_modEnd s e _ fun l => rfl

/-! ## Record sources -/

@[simp] theorem skel_sourceChanged : s.sourceChanged.skeleton = s.skeleton := by
  unfold State.sourceChanged
  split
  · split
    · split <;> simp
    · rfl
  · rfl
@[simp] theorem skel_appended (r : CycleRecord) : (s.appended r).skeleton = s.skeleton := rfl

/-! ## Stage Drive -/

@[simp] theorem skel_switchOffFrom (t : Nat) : (s.switchOffFrom t).skeleton = s.skeleton := rfl
@[simp] theorem skel_endRise : s.endRise.skeleton = s.skeleton := rfl
@[simp] theorem skel_reachTarget (r : Rise) : (s.reachTarget r).skeleton = s.skeleton := rfl
@[simp] theorem skel_switchOn (i : Nat) : (s.switchOn i).skeleton = s.skeleton := rfl
@[simp] theorem skel_nextStage (b : Bool) (n : Nat) : (s.nextStage b n).skeleton = s.skeleton := by
  induction n generalizing s b with
  | zero => rfl
  | succ n ih =>
    unfold State.nextStage
    split
    · rfl
    · simp only
      split
      · rfl
      · split
        · split
          · rw [ih]; rfl
          · rfl
        · rfl
@[simp] theorem skel_enterRise (r : Rise) (first : Bool) : (s.enterRise r first).skeleton = s.skeleton := by
  simp [State.enterRise]
@[simp] theorem skel_beginRise : s.beginRise.skeleton = s.skeleton := by simp [State.beginRise]
@[simp] theorem skel_applyTarget (t : Nat) (risen : Bool) : (s.applyTarget t risen).skeleton = s.skeleton := by
  unfold State.applyTarget
  split
  · rfl
  · simp only
    split
    · simp
    · split
      · simp
      · split <;> simp
@[simp] theorem skel_recomputeTarget (risen : Bool) : (s.recomputeTarget risen).skeleton = s.skeleton := by
  simp [State.recomputeTarget]
@[simp] theorem skel_setCeiling (c : Nat) (b : Bool) : (s.setCeiling c b).skeleton = s.skeleton := by
  simp [State.setCeiling]
@[simp] theorem skel_fallBack : s.fallBack.skeleton = s.skeleton := by simp [State.fallBack]
@[simp] theorem skel_identityToStages : s.identityToStages.skeleton = s.skeleton := by
  unfold State.identityToStages; split <;> simp
@[simp] theorem skel_ceilingFromGrant (g : Nat) : (s.ceilingFromGrant g).skeleton = s.skeleton := by
  unfold State.ceilingFromGrant; split <;> simp
@[simp] theorem skel_stageNodeReset : s.stageNodeReset.skeleton = s.skeleton := by simp [State.stageNodeReset]
@[simp] theorem skel_stageStable : s.stageStable.skeleton = s.skeleton := rfl
@[simp] theorem skel_stageExpired (i : Nat) : (s.stageExpired i).skeleton = s.skeleton := by
  unfold State.stageExpired
  split
  · simp
  · split
    · split
      · split <;> simp
      · rfl
    · rfl
  · rfl
  · rfl
@[simp] theorem skel_setDemand (v : Nat) : (s.setDemand v).skeleton = s.skeleton := by
  unfold State.setDemand; split <;> simp

/-! ## Door Unit -/

@[simp] theorem skel_setSide (i : SideId) (st : SideState) : (s.setSide i st).skeleton = s.skeleton := by
  unfold State.setSide; split <;> simp
@[simp] theorem skel_fromReleased (st : SideState) (i : SideId) : (s.fromReleased st i).skeleton = s.skeleton := by
  unfold State.fromReleased; split <;> simp
@[simp] theorem skel_closeSide (i : SideId) : (s.closeSide i).skeleton = s.skeleton := by
  unfold State.closeSide
  split
  · simp
  · split <;> simp
  · rfl
@[simp] theorem skel_withdrawSide (i : SideId) : (s.withdrawSide i).skeleton = s.skeleton := by
  simp [State.withdrawSide]
@[simp] theorem skel_headFlags (b : Bool) : (s.headFlags b).skeleton = s.skeleton := by
  unfold State.headFlags; split <;> simp [State.bothSides]
@[simp] theorem skel_doorReport : s.doorReport.skeleton = s.skeleton := by
  simp [State.doorReport, State.bothSides]
@[simp] theorem skel_setProof (v : Bool) : (s.setProof v).skeleton = s.skeleton := by
  unfold State.setProof; split <;> simp
@[simp] theorem skel_unprove : s.unprove.skeleton = s.skeleton := by simp [State.unprove]
@[simp] theorem skel_evaluateProof (n : Nat) (r : List CycleRecord) : (s.evaluateProof n r).skeleton = s.skeleton := by
  unfold State.evaluateProof; split <;> simp
@[simp] theorem skel_applyAction (o : DoorOrder) (i : SideId) : (s.applyAction o i).skeleton = s.skeleton := by
  unfold State.applyAction
  split
  · split <;> simp
  · simp
  · simp

/-- Folding an operation that leaves the skeleton alone leaves it alone. -/
theorem skel_foldl {α : Type} (f : State → α → State) (h : ∀ s x, (f s x).skeleton = s.skeleton) (xs : List α) :
    (xs.foldl f s).skeleton = s.skeleton := by
  induction xs generalizing s with
  | nil => rfl
  | cons x xs ih => rw [List.foldl_cons, ih, h]

@[simp] theorem skel_takeOrder (a : ActiveConsist) (o : DoorOrder) : (s.takeOrder a o).skeleton = s.skeleton := by
  unfold State.takeOrder
  simp only
  split
  · rw [skel_foldl _ _ fun s i => skel_applyAction s o i]; simp
  · simp
@[simp] theorem skel_judgeOrder (a : ActiveConsist) (f : Frame) : (s.judgeOrder a f).skeleton = s.skeleton := by
  unfold State.judgeOrder
  simp only
  split
  · simp
  · split <;> simp
@[simp] theorem skel_requestCall : s.requestCall.skeleton = s.skeleton := by
  unfold State.requestCall; split <;> simp
@[simp] theorem skel_orderLeaves (a : ActiveConsist) (f : Frame) : (s.orderLeaves a f).skeleton = s.skeleton := by
  unfold State.orderLeaves
  simp only
  split <;> simp
@[simp] theorem skel_placeOrder (a : ActiveConsist) (f : Frame) : (s.placeOrder a f).skeleton = s.skeleton := by
  unfold State.placeOrder; split <;> simp
@[simp] theorem skel_checkComplete : s.checkComplete.skeleton = s.skeleton := by
  unfold State.checkComplete
  split
  · split <;> simp
  · rfl
@[simp] theorem skel_issue (a : ActiveConsist) (x : DoorAction) (y : TrainSide) (m n : Nat) :
    (s.issue a x y m n).skeleton = s.skeleton := by
  unfold State.issue
  simp only [skel_requestCall]
  split <;> simp
@[simp] theorem skel_emptyOrder : s.emptyOrder.skeleton = s.skeleton := rfl
@[simp] theorem skel_repeatOrLose (a : ActiveConsist) (r : OutstandingOrder) :
    (s.repeatOrLose a r).skeleton = s.skeleton := by
  unfold State.repeatOrLose
  split
  · rfl
  · split <;> simp
@[simp] theorem skel_readEchoes (a : ActiveConsist) (r : List CycleRecord) : (s.readEchoes a r).skeleton = s.skeleton := by
  unfold State.readEchoes
  split
  · split <;> simp
  · rfl
@[simp] theorem skel_doorReturn (a : ActiveConsist) (r : List CycleRecord) : (s.doorReturn a r).skeleton = s.skeleton := by
  simp [State.doorReturn]
@[simp] theorem skel_doorLeavesHeading : s.doorLeavesHeading.skeleton = s.skeleton := by
  simp [State.doorLeavesHeading]
@[simp] theorem skel_doorNewConsist : s.doorNewConsist.skeleton = s.skeleton := by simp [State.doorNewConsist]
@[simp] theorem skel_doorCommit : s.doorCommit.skeleton = s.skeleton := by simp [State.doorCommit]
@[simp] theorem skel_automaticClose (a : ActiveConsist) : (s.automaticClose a).skeleton = s.skeleton := by
  unfold State.automaticClose; split <;> simp
@[simp] theorem skel_setStandstill (v : Bool) : (s.setStandstill v).skeleton = s.skeleton := by
  unfold State.setStandstill
  simp only [skel_requestCall]
  split
  · split <;> simp
  · simp
@[simp] theorem skel_statusSide (i : SideId) : (s.statusSide i).skeleton = s.skeleton := by
  unfold State.statusSide
  simp only
  split <;> split <;> simp
@[simp] theorem skel_writeDoorStatus (t : DoorStatus) : (s.writeDoorStatus t).skeleton = s.skeleton := by
  simp [State.writeDoorStatus, State.bothSides]
@[simp] theorem skel_localClose (l : List SideId) : (s.localClose l).skeleton = s.skeleton :=
  skel_foldl s _ (fun s i => skel_closeSide s i) l
@[simp] theorem skel_issueFromOperands (p : PortId) : (s.issueFromOperands p).skeleton = s.skeleton := by
  unfold State.issueFromOperands; split <;> simp

/-! ## Grant Engine -/

@[simp] theorem skel_grantCommit (a : ActiveConsist) : (s.grantCommit a).skeleton = s.skeleton := rfl
@[simp] theorem skel_grantLeavesHeading : s.grantLeavesHeading.skeleton = s.skeleton := rfl
@[simp] theorem skel_shed (a : ActiveConsist) : (s.shed a).skeleton = s.skeleton := by
  unfold State.shed
  simp only
  split <;> simp
@[simp] theorem skel_raiseGrants (a : ActiveConsist) : (s.raiseGrants a).skeleton = s.skeleton := rfl
@[simp] theorem skel_grantReturn (a : ActiveConsist) (r : List CycleRecord) : (s.grantReturn a r).skeleton = s.skeleton := by
  unfold State.grantReturn
  simp only [skel_raiseGrants]
  split <;> simp
@[simp] theorem skel_takeGrant (g : Nat) : (s.takeGrant g).skeleton = s.skeleton := by
  unfold State.takeGrant
  split
  · rfl
  · split <;> simp
@[simp] theorem skel_useSettle (l : LastSettle) : (s.useSettle l).skeleton = s.skeleton := by simp [State.useSettle]
@[simp] theorem skel_setBudget (v : Nat) : (s.setBudget v).skeleton = s.skeleton := by
  unfold State.setBudget
  simp only [skel_requestCall]
  split
  · split <;> simp
  · simp

/-! ## Message Unit -/

@[simp] theorem skel_modBuffer (n : Nat) (f : Buffer → Buffer) : (s.modBuffer n f).skeleton = s.skeleton := rfl
@[simp] theorem skel_setBufferState (n : Nat) (st : BufferState) : (s.setBufferState n st).skeleton = s.skeleton := rfl
@[simp] theorem skel_modQueues (p : PortId) (f : PortQueues → PortQueues) : (s.modQueues p f).skeleton = s.skeleton := rfl
@[simp] theorem skel_takenEvents (p : PortId) : (s.takenEvents p).skeleton = s.skeleton := by
  unfold State.takenEvents
  simp only
  split <;> split <;> simp
@[simp] theorem skel_allot (n : Nat) (p : PortId) (st : BufferState) (b : List Byte) :
    (s.allot n p st b).skeleton = s.skeleton := by simp [State.allot]
@[simp] theorem skel_toInbound (n : Nat) (p : PortId) : (s.toInbound n p).skeleton = s.skeleton := rfl
@[simp] theorem skel_complete (n : Nat) (x : MessageStatus) : (s.complete n x).skeleton = s.skeleton := by
  unfold State.complete; split <;> simp
@[simp] theorem skel_setQuota (p : PortId) (v : Nat) : (s.setQuota p v).skeleton = s.skeleton := by
  unfold State.setQuota
  simp only
  split <;> simp
@[simp] theorem skel_setQuotas (a b : Nat) : (s.setQuotas a b).skeleton = s.skeleton := by simp [State.setQuotas]
@[simp] theorem skel_endOffer : s.endOffer.skeleton = s.skeleton := by
  unfold State.endOffer
  split
  · split
    · rfl
    · simp only
      split <;> simp
  · rfl
@[simp] theorem skel_takeOffer (e : EndId) : (s.takeOffer e).skeleton = s.skeleton := by
  unfold State.takeOffer
  split
  · split
    · simp only [skel_endOffer]
      split <;> simp
    · rfl
  · rfl
@[simp] theorem skel_discardOffer (e : EndId) : (s.discardOffer e).skeleton = s.skeleton := by
  unfold State.discardOffer; split <;> simp
@[simp] theorem skel_offerFrame (k : OfferKind) (f : Frame) (a b : Bool) : (s.offerFrame k f a b).skeleton = s.skeleton := by
  simp [State.offerFrame]
@[simp] theorem skel_offerTo (k : OfferKind) (f : Frame) (e : EndId) : (s.offerTo k f e).skeleton = s.skeleton := by
  simp [State.offerTo]
@[simp] theorem skel_sendBuffer (a : ActiveConsist) (p : PortId) (n : Nat) : (s.sendBuffer a p n).skeleton = s.skeleton := by
  unfold State.sendBuffer
  simp only
  split <;> simp
@[simp] theorem skel_serve (p : PortId) : (s.serve p).skeleton = s.skeleton := by
  unfold State.serve
  split
  · rfl
  · simp only
    split
    · split <;> simp
    · simp
@[simp] theorem skel_offerNote (f : Frame) (r : List Frame) : (s.offerNote f r).skeleton = s.skeleton := by
  unfold State.offerNote
  simp only
  split <;> simp
@[simp] theorem skel_serverStep : s.serverStep.skeleton = s.skeleton := by
  unfold State.serverStep
  split
  · rfl
  · split
    · simp
    · simp only
      split
      · simp
      · split <;> simp
@[simp] theorem skel_beginStoring (p : PortId) (n : Nat) (b : List Byte) (f : Option Frame) :
    (s.beginStoring p n b f).skeleton = s.skeleton := by simp [State.beginStoring]
@[simp] theorem skel_receiveUnicast (a : ActiveConsist) (b : List Byte) : (s.receiveUnicast a b).skeleton = s.skeleton := by
  unfold State.receiveUnicast
  split
  · rfl
  · split <;> simp
@[simp] theorem skel_receiveBroadcast (b : List Byte) : (s.receiveBroadcast b).skeleton = s.skeleton := by
  unfold State.receiveBroadcast; split <;> simp
@[simp] theorem skel_receiveMsg (a : ActiveConsist) (b : List Byte) : (s.receiveMsg a b).skeleton = s.skeleton := by
  unfold State.receiveMsg
  split
  · split <;> simp
  · rfl
@[simp] theorem skel_storingEnd (n : Nat) : (s.storingEnd n).skeleton = s.skeleton := by
  unfold State.storingEnd
  split
  · rfl
  · simp only
    split <;> simp
@[simp] theorem skel_receiveNote (a : ActiveConsist) (b : List Byte) : (s.receiveNote a b).skeleton = s.skeleton := by
  unfold State.receiveNote
  split
  · rfl
  · split
    · split <;> simp
    · rfl
@[simp] theorem skel_withdrawOffer : s.withdrawOffer.skeleton = s.skeleton := by
  unfold State.withdrawOffer
  split
  · rfl
  · simp only
    split
    · simp
    · split <;> simp
    · simp
@[simp] theorem skel_msgReport : s.msgReport.skeleton = s.skeleton := by
  unfold State.msgReport
  simp only [skel_modMsg]
  rw [skel_foldl _ _ fun s (e : InFlight) => skel_complete s e.buffer .stale]; simp

/-! ## Inauguration Engine -/

@[simp] theorem skel_withdrawOwn (i : Identity) (e : EndId) : (s.withdrawOwn i e).skeleton = s.skeleton :=
  skel_modEnd s e _ fun _ => rfl
@[simp] theorem skel_leaveHeading (i : Identity) : (s.leaveHeading i).skeleton = s.skeleton := by
  simp [State.leaveHeading]
@[simp] theorem skel_roleChanged : s.roleChanged.skeleton = s.skeleton := rfl
@[simp] theorem skel_reportRecount : s.reportRecount.skeleton = s.skeleton := by simp [State.reportRecount]
@[simp] theorem skel_leaveMember (a : ActiveConsist) (n : NodeRole) (c : LeaveCause) :
    (s.leaveMember a n c).skeleton = s.skeleton := by
  unfold State.leaveMember
  simp only
  split <;> simp
@[simp] theorem skel_goUnassigned (c : LeaveCause) : (s.goUnassigned c).skeleton = s.skeleton := by
  unfold State.goUnassigned; split <;> simp
@[simp] theorem skel_recount (r : CountRecord) : (s.recount r).skeleton = s.skeleton := by
  unfold State.recount; split <;> simp
@[simp] theorem skel_failClaim (r : ClaimFailure) : (s.failClaim r).skeleton = s.skeleton := by simp [State.failClaim]
@[simp] theorem skel_dropClaim : s.dropClaim.skeleton = s.skeleton := by simp [State.dropClaim]
@[simp] theorem skel_placeDissolve (e : EndId) (g : Nat) : (s.placeDissolve e g).skeleton = s.skeleton := by
  simp [State.placeDissolve]
@[simp] theorem skel_commit (r : CountRecord) (n : Nat) (l : List RosterEntry) (b : Bool) :
    (s.commit r n l b).skeleton = s.skeleton := by simp [State.commit]
@[simp] theorem skel_loneHead (r : CountRecord) (b : Bool) : (s.loneHead r b).skeleton = s.skeleton := by
  simp [State.loneHead]
@[simp] theorem skel_startHop (t : TallyStage) : (s.startHop t).skeleton = s.skeleton := rfl
@[simp] theorem skel_attemptFrom (e : EndId) (n : Nat) : (s.attemptFrom e n).skeleton = s.skeleton := by
  unfold State.attemptFrom
  simp only
  split <;> simp
@[simp] theorem skel_beginAttempt (n : Nat) : (s.beginAttempt n).skeleton = s.skeleton := by
  unfold State.beginAttempt; simp only; split <;> simp
@[simp] theorem skel_reinaugurate : s.reinaugurate.skeleton = s.skeleton := by
  unfold State.reinaugurate; split <;> simp
@[simp] theorem skel_claimCab : s.claimCab.skeleton = s.skeleton := by
  unfold State.claimCab; split <;> simp
@[simp] theorem skel_releaseCab : s.releaseCab.skeleton = s.skeleton := by
  unfold State.releaseCab
  split
  · split <;> simp
  · split <;> simp
  · simp
@[simp] theorem skel_setRecord (r : CountRecord) : (s.setRecord r).skeleton = s.skeleton := rfl
@[simp] theorem skel_tailTally (r : CountRecord) (f : TallyFlag) : (s.tailTally r f).skeleton = s.skeleton := by
  simp [State.tailTally]
@[simp] theorem skel_answerCount (r : CountRecord) : (s.answerCount r).skeleton = s.skeleton := by
  unfold State.answerCount
  split
  · simp
  · split <;> simp
@[simp] theorem skel_takeCount (e : EndId) (c : CountFrame) : (s.takeCount e c).skeleton = s.skeleton := by
  simp [State.takeCount]
@[simp] theorem skel_contest (r : CountRecord) (e : EndId) (c : CountFrame) : (s.contest r e c).skeleton = s.skeleton := by
  simp [State.contest]
@[simp] theorem skel_headContest (e : EndId) (c : CountFrame) : (s.headContest e c).skeleton = s.skeleton := by
  simp [State.headContest]
@[simp] theorem skel_receiveCount (e : EndId) (p : List Byte) : (s.receiveCount e p).skeleton = s.skeleton := by
  unfold State.receiveCount
  simp only
  split
  · rfl
  · split
    · simp
    · split
      · split <;> simp
      · simp
@[simp] theorem skel_tallyAtNode (r : CountRecord) (f : Frame) : (s.tallyAtNode r f).skeleton = s.skeleton := by
  unfold State.tallyAtNode
  split
  · simp
  · simp
  all_goals (split <;> simp)
@[simp] theorem skel_tallyAtHead (r : CountRecord) (f : Frame) : (s.tallyAtHead r f).skeleton = s.skeleton := by
  unfold State.tallyAtHead
  simp only
  split
  · simp
  · simp
  all_goals (split <;> simp)
@[simp] theorem skel_receiveTally (e : EndId) (f : Frame) : (s.receiveTally e f).skeleton = s.skeleton := by
  unfold State.receiveTally
  split
  · rfl
  · simp only
    split
    · rfl
    · split
      · split <;> simp
      · split <;> simp
@[simp] theorem skel_acceptCommit (r : CountRecord) (f : Frame) : (s.acceptCommit r f).skeleton = s.skeleton := by
  simp [State.acceptCommit]
@[simp] theorem skel_leaveWithAlert (e : EndId) (c : LeaveCause) : (s.leaveWithAlert e c).skeleton = s.skeleton := by
  simp [State.leaveWithAlert]
@[simp] theorem skel_rejectCommit (e : EndId) (f : Frame) : (s.rejectCommit e f).skeleton = s.skeleton := by
  unfold State.rejectCommit
  simp only
  split
  · simp
  · split <;> simp
@[simp] theorem skel_receiveDissolve (e : EndId) (f : Frame) : (s.receiveDissolve e f).skeleton = s.skeleton := by
  unfold State.receiveDissolve
  rw [skel_place]
  split <;> simp
@[simp] theorem skel_receiveCommit (e : EndId) (f : Frame) : (s.receiveCommit e f).skeleton = s.skeleton := by
  unfold State.receiveCommit
  simp only
  split
  · simp
  · split
    · split <;> simp
    · simp
@[simp] theorem skel_displace (a : ActiveConsist) : (s.displace a).skeleton = s.skeleton := by simp [State.displace]
@[simp] theorem skel_reportHeading (a : ActiveConsist) (c : EndChange) : (s.reportHeading a c).skeleton = s.skeleton := by
  unfold State.reportHeading
  split
  · split <;> simp
  · split <;> simp
@[simp] theorem skel_reportClaiming (r : CountRecord) (c : EndChange) : (s.reportClaiming r c).skeleton = s.skeleton := by
  unfold State.reportClaiming
  split
  · split <;> simp
  · split
    · split
      · simp
      · split <;> simp
    · split <;> simp
@[simp] theorem skel_tailChange (r : CountRecord) (c : EndChange) : (s.tailChange r c).skeleton = s.skeleton := by
  unfold State.tailChange
  split
  · split
    · simp
    · split <;> simp
  · split <;> simp
  · rfl
@[simp] theorem skel_reportCounted (r : CountRecord) (c : EndChange) : (s.reportCounted r c).skeleton = s.skeleton := by
  unfold State.reportCounted
  split
  · split <;> simp
  · simp only
    split <;> simp
@[simp] theorem skel_reportMember (a : ActiveConsist) (c : EndChange) : (s.reportMember a c).skeleton = s.skeleton := by
  unfold State.reportMember
  split
  · split <;> simp
  · split <;> simp
@[simp] theorem skel_reportInauguration (c : EndChange) : (s.reportInauguration c).skeleton = s.skeleton := by
  unfold State.reportInauguration
  split
  · rfl
  · split <;> simp
  · split <;> simp
@[simp] theorem skel_reportEnd (e : EndId) (o : LinkState) : (s.reportEnd e o).skeleton = s.skeleton := by
  unfold State.reportEnd
  simp only
  split <;> simp

/-! ## Cycle Engine -/

@[simp] theorem skel_restartSilence (a : ActiveConsist) : (s.restartSilence a).skeleton = s.skeleton := by
  unfold State.restartSilence; split <;> simp
@[simp] theorem skel_setLineSilence (a : ActiveConsist) (v : Nat) : (s.setLineSilence a v).skeleton = s.skeleton := rfl
@[simp] theorem skel_noteCall (r : CallRole) : (s.noteCall r).skeleton = s.skeleton := rfl
@[simp] theorem skel_placeCycle (e : EndId) (f : Frame) : (s.placeCycle e f).skeleton = s.skeleton := by
  simp [State.placeCycle]
@[simp] theorem skel_useCall (a : ActiveConsist) (h : CallHeader) : (s.useCall a h).skeleton = s.skeleton := by
  simp [State.useCall]
@[simp] theorem skel_placedCall (a : ActiveConsist) (e : EndId) (p : List Byte) :
    (s.placedCall a e p).skeleton = s.skeleton := by
  unfold State.placedCall
  simp only
  split
  · simp
  · split
    · simp
    · split <;> simp
@[simp] theorem skel_unplacedCall (e : EndId) (p : List Byte) : (s.unplacedCall e p).skeleton = s.skeleton := by
  unfold State.unplacedCall
  split
  · simp
  · simp only
    split <;> simp
@[simp] theorem skel_receiveCall (e : EndId) (p : List Byte) : (s.receiveCall e p).skeleton = s.skeleton := by
  unfold State.receiveCall
  split
  · split <;> simp
  · simp
@[simp] theorem skel_settle (a : ActiveConsist) (b : Bool) (r : List CycleRecord) : (s.settle a b r).skeleton = s.skeleton := by
  simp [State.settle]
@[simp] theorem skel_memberSettles (a : ActiveConsist) (f : Frame) : (s.memberSettles a f).skeleton = s.skeleton := by
  unfold State.memberSettles
  simp only [skel_placeCycle]
  split <;> simp
@[simp] theorem skel_receiveSettle (e : EndId) (f : Frame) : (s.receiveSettle e f).skeleton = s.skeleton := by
  unfold State.receiveSettle
  split
  · split <;> simp
  · simp
@[simp] theorem skel_countFailure (c : CycleFailure) : (s.countFailure c).skeleton = s.skeleton := by
  simp [State.countFailure]
@[simp] theorem skel_returnFails (a : ActiveConsist) (c : CycleFailure) (r : List CycleRecord) :
    (s.returnFails a c r).skeleton = s.skeleton := by
  unfold State.returnFails
  simp only
  split <;> simp
@[simp] theorem skel_evaluateReturn (a : ActiveConsist) (b : Bool) (r : List CycleRecord) :
    (s.evaluateReturn a b r).skeleton = s.skeleton := by
  unfold State.evaluateReturn; split <;> simp
@[simp] theorem skel_receiveReturn (e : EndId) (p : List Byte) : (s.receiveReturn e p).skeleton = s.skeleton := by
  unfold State.receiveReturn
  split
  · split <;> simp
  · rfl
@[simp] theorem skel_callLeaves (a : ActiveConsist) : (s.callLeaves a).skeleton = s.skeleton := rfl
@[simp] theorem skel_originate (a : ActiveConsist) : (s.originate a).skeleton = s.skeleton := by
  unfold State.originate
  simp only
  split <;> simp
@[simp] theorem skel_callOriginate : s.callOriginate.skeleton = s.skeleton := by
  unfold State.callOriginate
  split
  · split <;> simp
  · rfl
@[simp] theorem skel_headWake (f : Frame) : (s.headWake f).skeleton = s.skeleton := by
  unfold State.headWake
  simp only
  split
  · simp
  · split <;> simp
@[simp] theorem skel_receiveOrder (e : EndId) (f : Frame) : (s.receiveOrder e f).skeleton = s.skeleton := by
  unfold State.receiveOrder
  split
  · split <;> simp
  · simp
@[simp] theorem skel_setLineTiming (t : LineTiming) : (s.setLineTiming t).skeleton = s.skeleton := by
  unfold State.setLineTiming
  simp only
  split <;> split <;> (try split) <;> simp

/-! ## Frames -/

@[simp] theorem skel_receiveMsgFrame (e : EndId) (f : Frame) : (s.receiveMsgFrame e f).skeleton = s.skeleton := by
  unfold State.receiveMsgFrame
  split
  · split
    · simp
    · split <;> simp
  · simp
@[simp] theorem skel_receiveNoteFrame (e : EndId) (f : Frame) : (s.receiveNoteFrame e f).skeleton = s.skeleton := by
  unfold State.receiveNoteFrame
  split
  · split <;> simp
  · simp
/-- Whatever a frame makes the node do, its skeleton stays. -/
@[simp] theorem skel_handOn (e : EndId) (f : Frame) : (s.handOn e f).skeleton = s.skeleton := by
  unfold State.handOn
  split
  · rfl
  all_goals (first | simp | (split <;> simp))
/-- Whatever leaves, the report of its leaving keeps the skeleton. -/
@[simp] theorem skel_ownLeaves (e : EndId) (x : Source) (f : Frame) : (s.ownLeaves e x f).skeleton = s.skeleton := by
  unfold State.ownLeaves
  split
  · split
    · split
      · simp
      · split <;> simp
    · rfl
  · rfl

end Sys2Proof.Machine
end

