-- ==== Sys2Proof/Laws/Window.lean ====
section
/-! SUPPORT. The bytes of lists of items, one lemma for each width an item has. -/

namespace Sys2Proof.Machine

@[simp] theorem items_bytes_nil : Items.bytes [] = [] := rfl

@[simp] theorem items_bytes_append (x y : Items) : Items.bytes (x ++ y) = x.bytes ++ y.bytes := by
  simp [Items.bytes]

@[simp] theorem items_bytes_one (v : Nat) (rest : Items) : Items.bytes ((1, v) :: rest) = byteOf v :: rest.bytes := by
  simp [Items.bytes, List.range_succ]

@[simp] theorem items_bytes_two (v : Nat) (rest : Items) : Items.bytes ((2, v) :: rest) = be16 v ++ rest.bytes := by
  simp [Items.bytes, List.range_succ, be16]

@[simp] theorem items_bytes_four (v : Nat) (rest : Items) : Items.bytes ((4, v) :: rest) = be32 v ++ rest.bytes := by
  simp [Items.bytes, List.range_succ, be32]

@[simp] theorem items_bytes_flatMap {α : Type} (l : List α) (f : α → Items) :
    Items.bytes (l.flatMap f) = l.flatMap fun x => (f x).bytes := by
  induction l with
  | nil => rfl
  | cons x l ih => rw [List.flatMap_cons, List.flatMap_cons, items_bytes_append, ih]

@[simp] theorem items_bytes_single {α : Type} (l : List α) (f : α → Nat) :
    Items.bytes (l.map fun x => (1, f x)) = l.map fun x => byteOf (f x) := by
  induction l with
  | nil => rfl
  | cons x l ih => rw [List.map_cons, List.map_cons, items_bytes_one, ih]

@[simp] theorem bytes_bytesAsItems (l : List Byte) : (bytesAsItems l).bytes = l := by
  unfold bytesAsItems
  rw [items_bytes_single]
  exact (List.map_congr_left fun b _ => by simp [byteOf]).trans (List.map_id l)

end Sys2Proof.Machine
end

