-- ==== Sys2Proof/Tests/Slice0.lean ====
section
/-! SUPPORT. Small tests: an ill-formed term for each operand check, values of the spec, one step of most commands, and
for every statement with hypotheses a state and operands that meet them, clause by clause. -/

namespace Sys2Proof.Tests

open Sys2Proof Sys2Proof.Machine

-- Each theorem is checked before the next one begins, which bounds the memory that a compile of these tests takes.
set_option Elab.async false

/-! ## Ill-formed terms -/

theorem test_wf_load_of_24_bytes : (Instr.loadComplete (some (List.replicate 24 0))).wf = false := by decide
theorem test_wf_load_of_25_bytes : (Instr.loadComplete (some (List.replicate 25 0))).wf = true := by decide
theorem test_wf_copy_cut_short : (Instr.copyReceived .end1 .pairA [1, 1, 0, 1, 0, 0]).wf = false := by decide
theorem test_wf_copy_whole : (Instr.copyReceived .end1 .pairA [1, 1, 0, 1, 0, 0, 0]).wf = true := by decide
theorem test_wf_stage_zero : (Instr.stageTimerExpiry 0).wf = false := by decide
theorem test_wf_stage_five : (Instr.stageTimerExpiry 5).wf = false := by decide
theorem test_wf_low_read_five : (Instr.stageTimerLowRead .portA 5).wf = false := by decide
theorem test_wf_high_read_zero : (Instr.stageTimerHighRead .portB 0).wf = false := by decide
theorem test_wf_buffer_96 : (Instr.storingEnd 96).wf = false := by decide
theorem test_wf_sequence_zero : (Instr.deadlineExpiry 0).wf = false := by decide
theorem test_wf_sequence_256 : (Instr.deadlineExpiry 256).wf = false := by decide
theorem test_wf_offset_inside_a_field : (Instr.identityFieldWrite .portA 16 0).wf = false := by decide
theorem test_wf_offset_of_a_field : (Instr.identityFieldWrite .portA 17 0).wf = true := by decide

/-! ## Small states -/

/-- The bytes of "123456789", over which R187 states the check value of its CRC-16. -/
def checkText : List Byte := [0x31, 0x32, 0x33, 0x34, 0x35, 0x36, 0x37, 0x38, 0x39]

/-- What a command makes of a state. -/
def after (s : State) (c : Instr) : State :=
  match exec c s with
  | .next t => t
  | .fault _ | .refused _ => s

/-- An identity with a cab, two stages and a Fallback Limit. -/
def coach : IdentityRecord :=
  { IdentityRecord.blank with
    vehicle := 7, cabFitted := true, priority := 2, stageCount := 2, powers := #v[10, 20, 0, 0], fallbackLimit := 12 }

/-- An ACTIVE node outside a train: both Ends OPEN. -/
def lone : State :=
  { State.reset with
    now := 1000
    power := { Power.reset with held := false, state := .active, loadOutcome := some .loaded, record := coach, locked := true }
    stage := { StageDrive.reset with ceiling := 12 } }

/-- An End that is UP. -/
def upEnd : LineEnd :=
  { LineEnd.reset with
    rawSense := .closed, sense := .closed, link := .up, linkIdle := some 200000, keepalive := some 50000
    lastAccepted := 4 }

/-- The end vehicle of a train: End 1 OPEN, End 2 UP. -/
def trainEnd : State := { lone with end2 := upEnd }

/-- A vehicle inside a train: both Ends UP. -/
def middle : State := { lone with end1 := upEnd, end2 := upEnd }

/-- The consist of two vehicles that the head of number 7 heads. -/
def consist : ActiveConsist :=
  { identity := { head := 7, generation := 1 }, length := 2
    entries := [lone.rosterEntry 1 .end1, { lone.rosterEntry 2 .end1 with vehicle := 8 }]
    position := 1, orientation := .normal, headward := .end1, lineSilence := 3000 }

/-- A HEADING node. -/
def head : State :=
  { trainEnd with
    inaug := { Inauguration.reset with role := .member consist, headRole := .heading, attempt := 1, generation := 1 }
    cycle := { Cycle.reset with state := .idleContinuous }
    grants := { GrantEngine.reset with inUse := true, table := consist.entries.map .start } }

/-- The consist as the vehicle in its middle holds it. -/
def threeCars : ActiveConsist :=
  { consist with identity := { head := 9, generation := 3 }, length := 3, position := 2 }

/-- A MEMBER node that is no head. -/
def member : State :=
  { middle with inaug := { Inauguration.reset with role := .member threeCars, silence := some 3001000 } }

/-- The MEMBER node with its tail-ward End DOWN. -/
def cutOff : State := { member with end2 := { upEnd with link := .down } }

/-- A count record of the head with number 9. -/
def countOfNine : CountRecord :=
  { head := 9, attempt := 1, position := 2, headward := .end1, timeout := 1000, stage := .awaitingTally, noted := none }

/-- A COUNTED node that is no head. -/
def counted : State :=
  { middle with inaug := { Inauguration.reset with role := .counted countOfNine, commitWait := some 2001000 } }

/-- A CLAIMING node. -/
def claimant : State :=
  { trainEnd with
    inaug :=
      { Inauguration.reset with
        role := .counted { countOfNine with head := 7, position := 1 }, headRole := .claiming, attempt := 1
        inaugurationTimer := some 1001000 } }

/-- A node in LOADING with its identity read begun. -/
def loading : State :=
  { State.reset with power := { Power.reset with held := false, sourceFitted := true, readTimer := some 50000 } }

/-- A node in STABLED, End 2 JOINING. -/
def stabled : State :=
  { lone with power := { lone.power with state := .stabled }
              end2 := { LineEnd.reset with rawSense := .closed, sense := .closed, link := .joining } }

/-- Operand bytes at both ports. -/
def ops (s : State) (a b c d e : Byte) : State :=
  (s.modPort .portA fun t => { t with operands := #v[a, b, c, d, e, 0] }).modPort .portB fun t =>
    { t with operands := #v[a, b, c, d, e, 0] }

/-- A message header: Destination, Recipient Role, Body Length 0, no origin yet. -/
def header (dest role : Byte) : List Byte := dest :: role :: List.replicate 62 0

/-- A buffer of the pool takes a state, a Post Identity and bytes. -/
def withBuffer (s : State) (n : Nat) (st : BufferState) (i : Option Identity) (bytes : List Byte) : State :=
  s.modBuffer n fun _ => { state := st, postIdentity := i, bytes := bytes }

/-! ## Values of the spec -/

theorem test_crc16_of_the_check_text : crc16 checkText = 0x29B1#16 := by decide +kernel
theorem test_idle_frame_has_no_payload : (idleFrame.wire 1).length = 6 := by decide +kernel
theorem test_a_sent_frame_is_intact :
    checkCopy ((wakeFrame 2).wire 5) = some { sequence := 5, frame := wakeFrame 2 } := by decide +kernel
theorem test_a_sequence_of_zero_is_bad : checkCopy ((wakeFrame 2).wire 0) = none := by decide +kernel
theorem test_level_of_two_stages : stageLevel [10, 20, 0, 0] 2 = 30 := by decide
theorem test_target_under_a_limit : highestLevel [10, 20, 0, 0] 29 2 = 1 := by decide
theorem test_wrap_skips_zero : nextWrap 255 255 = 1 := by decide
theorem test_cycle_timeout_of_32 : cycleTimeoutMs 32 = 42 := by decide


/-! ## What the statements assume: gates, resets, power -/

theorem test_commands_are_admitted :
    Admitted lone .portA (some .door) ∧ Admitted lone .portB (some .comfort) ∧ Admitted lone .portB none :=
  ⟨⟨⟨rfl, rfl, rfl⟩, rfl⟩, ⟨⟨rfl, rfl, rfl⟩, rfl⟩, ⟨⟨rfl, rfl, rfl⟩, rfl⟩⟩

theorem test_queue_with_a_command_and_without :
    ({ lone with pending := [.callOriginate] }).pending = .callOriginate :: [] ∧ lone.pending = [] := ⟨rfl, rfl⟩

theorem test_ends_of_a_head : EndsOk head := by
  refine ⟨?_, ?_, ?_⟩
  · unfold EndOk PairOk SlotsOk SlotOk OpenIsQuiet LinkFollowsHealth; decide +kernel
  · unfold EndOk PairOk SlotsOk SlotOk OpenIsQuiet LinkFollowsHealth; decide +kernel
  · intro h; exact absurd h (by decide +kernel)

theorem test_roles_of_a_head : RolesOk head := by
  refine ⟨?_, ?_, ?_, by decide +kernel, fun a h => ?_⟩
  · unfold HeadOk; decide +kernel
  · unfold RoleTimersOk; decide +kernel
  · refine ⟨by decide +kernel, by decide +kernel, by decide +kernel, by decide +kernel, fun _ e => ?_⟩
    cases e <;> decide +kernel
  · cases Option.some.inj h; unfold Identity.Fits; decide

theorem test_doors_of_a_head : DoorsOk head := by
  refine ⟨fun i => ?_, by decide +kernel, fun h => absurd h (by decide +kernel)⟩
  cases i <;> (unfold SideOk; decide +kernel)

theorem test_heating_of_a_head : HeatingOk head := by unfold HeatingOk; decide +kernel

theorem test_grants_of_a_head : GrantsOk head := by
  refine ⟨by decide +kernel, by decide +kernel, by decide +kernel, fun a h => ?_⟩
  have e : a = consist := by simpa [State.active, head] using h.symm
  subst e; decide +kernel

theorem test_all_buffers_are_free (n : Nat) : head.bufferState n = .free := by
  have h : head.msg.buffers = List.replicate 96 Buffer.reset := rfl
  simp only [State.bufferState, State.buffer, h, List.getD_eq_getElem?_getD, List.getElem?_replicate]
  split <;> rfl

theorem test_pool_of_a_head : PoolOk head := by
  refine ⟨by decide +kernel, by decide +kernel, ?_, fun p => ?_, ?_, by decide +kernel, fun n h => ?_⟩
  · refine ⟨by decide +kernel, by decide +kernel, by decide +kernel, by decide +kernel, by decide +kernel, fun p => ?_⟩
    cases p <;> decide +kernel
  · cases p <;>
      refine ⟨by decide +kernel, by decide +kernel, by decide +kernel, by decide +kernel, fun n _ => ?_, fun n _ => ?_,
        by decide +kernel⟩ <;> rw [test_all_buffers_are_free] <;> simp [State.queues, head, trainEnd, lone, State.reset,
          MessageUnit.reset, PortQueues.reset]
  · refine ⟨by decide +kernel, by decide +kernel, by decide +kernel, by decide +kernel, fun n _ => ?_, by decide +kernel,
      by decide +kernel⟩
    rw [test_all_buffers_are_free]
    simp [head, trainEnd, lone, State.reset, MessageUnit.reset]
  · simp [head, trainEnd, lone, State.reset, MessageUnit.reset] at h

theorem test_a_head_takes_a_step : step head = .next { head with now := 1001 } := by rfl

theorem test_reset_is_held_and_ends :
    State.reset.power.held = true ∧ (after .reset (.resetEnd false true true)).portA.role = .comfort := by
  decide +kernel

/-- A record whose check byte is right, one with a wrong check byte, and one of Vehicle Number 0. -/
theorem test_loading_meets_each_outcome :
    loading.power.held = false ∧ loading.power.state = .loading ∧ loading.power.readTimer = some 50000
      ∧ loading.valid = false ∧ coach.area.length = 25 ∧ judgeIdentity coach.area = .loaded
      ∧ judgeIdentity (coach.bytes24 ++ [0]) = .badCheck ∧ judgeIdentity IdentityRecord.blank.area = .badField := by
  decide +kernel

theorem test_stable_fits_a_lone_node_and_no_member :
    (lone.inaug.role = .unassigned ∧ lone.sideState .side1 = .withdrawn ∧ lone.sideState .side2 = .withdrawn
      ∧ lone.onCount = 0) ∧ member.inaug.role ≠ .unassigned := by decide +kernel

theorem test_wake_settle_runs_after_a_wake :
    (after stabled (.wakeCommand .portA)).power.wakeSettle = some (1000 + 20000)
      ∧ stabled.end1.sense = .opened ∧ stabled.end2.sense = .closed := by decide +kernel

theorem test_wake_causes_are_met :
    stabled.power.held = false ∧ stabled.power.state = .stabled ∧ stabled.end2.rawSense ≠ .opened
      ∧ stabled.portA.takesWrite 0x0E = true ∧ lone.power.state ≠ .stabled ∧ lone.portA.takesWrite 0x0E = true := by decide

/-- Chip select high leaves the data output undriven, low drives the summary byte. -/
theorem test_the_data_output_is_driven_in_a_transaction :
    lone.dataOut .portA = none ∧ (after lone (.transactionStart .portA none)).dataOut .portA = some 0
      ∧ (after (after lone (.transactionStart .portA none)) (.transactionEnd .portA)).dataOut .portA = none := by
  decide +kernel

theorem test_lock_is_open_and_shut :
    ({ lone with power := { lone.power with locked := false } }).power.locked = false ∧ lone.power.locked = true := by
  decide

/-! ## Ports -/

/-- A node with a read transaction open on the Cycle Status, the counter at the area's first byte. -/
def reading : State :=
  lone.modPort .portA fun t =>
    { t with transaction := some { direction := .read, counter := 0x40, area := 4, capture := none, heldBytes := [] } }

theorem test_transaction_begins_where_none_is_open : (lone.port .portA).transaction = none := rfl

theorem test_a_captured_area_is_read :
    (reading.port .portA).transaction.map (fun x => (x.direction, x.capture, captured x.area))
      = some (.read, none, true) ∧ (reading.areaBytes .portA 4).length = 13 := by decide +kernel

/-- Port A with the Stage Status area selected, and a latch held for stage 4. -/
def latched : State :=
  lone.modPort .portA fun t => { t with areaSelect := 9, latch := some { stage := 4, high := 3 } }

theorem test_stage_reads_with_and_without_a_latch :
    (latched.port .portA).takesRead 2 0x55 = true ∧ (latched.port .portA).takesRead 0 0x56 = true ∧ (latched.port .portA).area = 9
      ∧ (latched.port .portA).latch = some { stage := 4, high := 3 } ∧ (lone.port .portA).latch = none := by decide

/-- Port A reading the Stage Status area, with the counter at an address. -/
def readingAt (counter : Nat) : State :=
  latched.modPort .portA fun t =>
    { t with
      transaction := some
        { direction := .read, counter := counter, area := 9, capture := none, heldBytes := [] } }

theorem test_stage_reads_follow_the_counter :
    ((after (readingAt 0) (.stageTimerLowRead .portA 1)).port .portA).latch = some { stage := 1, high := 0 }
      ∧ ((after (readingAt 0x4B) (.stageTimerLowRead .portA 2)).port .portA).latch = some { stage := 2, high := 0 }
      ∧ after (readingAt 0x4A) (.stageTimerLowRead .portA 2) = readingAt 0x4A
      ∧ after (readingAt 0x55) (.stageTimerHighRead .portA 4) = readingAt 0x55
      ∧ ((after (readingAt 0x56) (.stageTimerHighRead .portA 4)).port .portA).shiftOut = 3
      ∧ ((after (readingAt 0x56) (.stageTimerHighRead .portA 4)).port .portA).latch = none
      ∧ ((after (readingAt 0x4A) (.stageTimerHighRead .portA 1)).port .portA).latch
        = some { stage := 4, high := 3 } := by decide +kernel

theorem test_writes_are_taken :
    lone.power.held = false ∧ lone.asleep = false ∧ (lone.port .portA).takesWrite 0x01 = true
      ∧ ((after lone (.registerWrite .portA 1 1)).port .portA).area = 1 := by decide +kernel

/-- Port A with a write transaction open, its counter at an address. -/
def writingAt (s : State) (counter : Nat) : State :=
  s.modPort .portA fun t =>
    { t with
      transaction := some
        { direction := .write, counter := counter, area := t.areaSelect, capture := none, heldBytes := [] } }

theorem test_a_write_reaches_the_counter_alone :
    ((writingAt lone 1).port .portA).takesWrite 1 = true ∧ ((writingAt lone 1).port .portA).takesWrite 2 = false
      ∧ ((after (writingAt lone 1) (.registerWrite .portA 1 5)).port .portA).areaSelect = 5
      ∧ ((after (writingAt lone 2) (.registerWrite .portA 1 5)).port .portA).areaSelect = 0 := by decide +kernel

/-- The Message Window of a port that holds buffer 0: its Body from byte 8 to byte 63, and the bytes beside it. -/
def windowed : State := (after middle (.take .portA)).modPort .portA fun t => { t with areaSelect := 11 }

theorem test_the_window_reaches_the_body :
    windowed.heldSelection .portA = some 0 ∧ (windowed.port .portA).area = 11
      ∧ byteAt ((after windowed (.registerWrite .portA 0x48 9)).buffer 0).bytes 8 = 9
      ∧ byteAt ((after windowed (.registerWrite .portA 0x7F 9)).buffer 0).bytes 63 = 9
      ∧ (after windowed (.registerWrite .portA 0x47 9)).buffer 0 = windowed.buffer 0
      ∧ (after windowed (.registerWrite .portA 0x80 9)).buffer 0 = windowed.buffer 0
      ∧ lone.heldSelection .portA = none := by decide +kernel

/-- A node whose Port A shows one event of the power group, enabled through to the interrupt line. -/
def raised : State :=
  lone.modPort .portA fun t =>
    { t with flags := { t.flags with power := 1 }, causeEnables := { t.causeEnables with power := 1 }, groupEnables := 0x40 }

theorem test_summaries_and_lines :
    raised.groupSummary .portA .power = true ∧ raised.irqLow .portA = true ∧ raised.groupSummary .portB .power = false
      ∧ raised.irqLow .portB = false ∧ raised.asleep = false ∧ hasBit (raised.summaryByte .portA) 6 = true
      ∧ stabled.asleep = true ∧ loading.loading = true := by decide +kernel

/-- Port A with the Identity Record area selected. -/
def writing (s : State) : State := s.modPort .portA fun t => { t with areaSelect := 12 }

theorem test_identity_writes_meet_each_judgement :
    ((writing lone).port .portA).area = 12 ∧ 4 ∈ identityFieldEnds ∧ 17 ∈ identityFieldEnds
      ∧ (writing loading).loading = true ∧ (writing lone).power.locked = true
      ∧ ({ writing lone with power := { lone.power with locked := false } }).power.locked = false
      ∧ fieldInRange 10 254 = true ∧ fieldInRange 10 255 = false := by decide +kernel

/-- An unlocked node that writes its Identity Record in one transaction, with bytes held before. -/
def writingHeld (s : State) (counter : Nat) (bytes : List (Nat × Byte)) : State :=
  { s.modPort .portA fun t =>
      { t with
        areaSelect := 12
        transaction := some
          { direction := .write, counter := counter, area := 12, capture := none, heldBytes := bytes } } with
    power := { s.power with locked := false } }

theorem test_fields_of_several_bytes_are_held :
    fieldValue [(3, 3), (2, 2), (1, 1)] 0 4 4 = 0x01020304 ∧ fieldValue [(16, 1)] 0 17 2 = 258
      ∧ fieldValue [] 0 10 254 = 254
      ∧ ((after (writingHeld lone 0x41 []) (.registerWrite .portA 0x41 5)).port .portA).heldBytes = [(1, 5)]
      ∧ ((after (writingHeld lone 0x50 [(1, 5)]) (.registerWrite .portA 0x50 6)).port .portA).heldBytes = [(16, 6), (1, 5)]
      ∧ (after (writingHeld lone 0x51 [(16, 6)]) (.identityFieldWrite .portA 17 7)).power.record.wakeSettle = 1543
      ∧ (after (writingHeld lone 0x51 [(16, 0)]) (.identityFieldWrite .portA 17 0)).power.lastIdentityWrite = .range
      ∧ (after (writingHeld lone 0x4A []) (.identityFieldWrite .portA 10 3)).power.lastIdentityWrite = .done
      ∧ (after (writingHeld member 0x44 [(3, 0), (2, 0), (1, 0)]) (.identityFieldWrite .portA 4 7)).valid = true
      ∧ (after (writingHeld member 0x44 [(3, 0), (2, 0), (1, 0)]) (.identityFieldWrite .portA 4 8)).valid = false := by
  decide +kernel

theorem test_roles_admit_or_not :
    commandNeed (.setDemand .portA) = some (.portA, some .comfort) ∧ lone.admits .portA (some .comfort) = false
      ∧ loading.loading = true ∧ loading.admits .portA (some .door) = true ∧ stabled.asleep = true := by decide +kernel

theorem test_selections_at_their_bounds :
    (ops lone 1 0 0 0 0).operandNum .portA 1 = 1 ∧ (ops lone 32 0 0 0 0).operandNum .portA 1 = 32
      ∧ (ops lone 33 0 0 0 0).operandNum .portA 1 = 33 ∧ (ops lone 95 0 0 0 0).operandNum .portA 1 = 95
      ∧ (ops lone 96 0 0 0 0).operandNum .portA 1 = 96
      ∧ (withBuffer lone 95 (.held .portA) none []).bufferState 95 = .held .portA
      ∧ lone.bufferState 95 ≠ .held .portA := by decide +kernel

/-! ## Ends -/

/-- A node whose sense at End 2 has begun to change. -/
def bouncing : State := after trainEnd (.rawSenseChange .end2 .opened)

theorem test_debounce_runs_and_ends :
    trainEnd.end2.rawSense ≠ .opened ∧ bouncing.end2.debounce = some 101000 ∧ bouncing.asleep = false
      ∧ (after lone (.rawSenseChange .end2 .closed)).end2.debounce = some 101000
      ∧ (after (after lone (.rawSenseChange .end2 .closed)) (.senseDebounceExpiry .end2)).end2.link = .joining := by
  decide +kernel

theorem test_copies_of_each_sort :
    CopyReaches trainEnd .end2 .pairA ∧ checkCopy [0x77] = none ∧ lone.end2.link = .opened
      ∧ ¬CopyReaches stabled .end2 .pairA := by
  unfold CopyReaches; decide +kernel

theorem test_a_first_copy_and_its_twin :
    trainEnd.end2.link ≠ .opened ∧ trainEnd.end2.lastAccepted = 4
      ∧ (checkCopy (idleFrame.wire 5)).map (·.sequence) = some 5
      ∧ (after trainEnd (.copyReceived .end2 .pairA (idleFrame.wire 5))).end2.twinWindow
        = some { awaited := .pairB, deadline := 3000 }
      ∧ idleFrame.kind = .idle ∧ trainEnd.handOn .end2 idleFrame = trainEnd := by decide +kernel

/-- The End of a train with a window open, and a pair that is DEGRADED. -/
def awaiting : State :=
  trainEnd.modEnd .end2 fun l =>
    { l with twinWindow := some { awaited := .pairB, deadline := 3000 }, pairA := { l.pairA with health := .degraded } }

theorem test_a_first_copy_closes_the_window_before :
    ((after awaiting (.copyReceived .end2 .pairA (idleFrame.wire 5))).end2.pairB.miss,
      (after awaiting (.copyReceived .end2 .pairA (idleFrame.wire 5))).end2.pairA.recovery) = (1, 1) := by decide +kernel

theorem test_link_timers_run :
    trainEnd.end2.linkIdle = some 200000 ∧ trainEnd.end2.link.usable = true ∧ trainEnd.end2.keepalive = some 50000
      ∧ trainEnd.inaug.role = .unassigned
      ∧ (after (after trainEnd (.keepaliveExpiry .end2)) (.arbiterTake .end2)).end2.sending
        = some (idleFrame.wire 1) := by decide +kernel

theorem test_the_arbiter_has_a_next_frame :
    NextFrame (after trainEnd (.keepaliveExpiry .end2)) .end2 idleFrame ∧ trainEnd.end2.sending = none
      ∧ lone.end2.link = .opened := by
  unfold NextFrame; decide +kernel

/-- An End whose Wake slot is full and holds a second frame, one with a frame passing, and one with an offer. -/
def crowded : State := (trainEnd.place .end2 .wake (wakeFrame 1)).place .end2 .wake (wakeFrame 2)
def passing : State := trainEnd.passThrough .end2 (wakeFrame 3)
def offering (k : OfferKind) : State :=
  { trainEnd with msg := { trainEnd.msg with
      offer := some { kind := k, frame := wakeFrame 3, at1 := false, at2 := true }
      inFlight := [{ sequence := 1, buffer := 0, destination := 3, deadline := none }] } }

theorem test_the_frame_taken_leaves_its_place :
    crowded.end2.slots.first = some (.wake, wakeFrame 1)
      ∧ crowded.end2.slots.wake = { slot := some (wakeFrame 1), held := some (wakeFrame 2) }
      ∧ (crowded.place .end2 .wake (wakeFrame 3)).end2.slots.wake.held = some (wakeFrame 3)
      ∧ (after crowded (.arbiterTake .end2)).end2.slots.wake = { slot := some (wakeFrame 2), held := none }
      ∧ passing.end2.slots.first = none ∧ (after passing (.arbiterTake .end2)).end2.throughQueue = []
      ∧ lone.place .end2 .wake (wakeFrame 1) = lone := by decide +kernel

theorem test_the_offer_taken_ends :
    NextFrame (offering .note) .end2 (wakeFrame 3)
      ∧ (after (offering .note) (.arbiterTake .end2)).msg.offer = none
      ∧ (after (offering (.unicast 0)) (.arbiterTake .end2)).msg.inFlight.map (·.deadline) = [some 251000]
      ∧ (after (withBuffer (offering (.broadcast 0)) 0 (.outbound .portA) none (header 255 1)) (.arbiterTake .end2)).bufferState 0
        = .inbound .portA := by
  unfold NextFrame; decide +kernel

/-- A broadcast and a unicast of buffer 0, waiting at the lost End 2 of a node, and the former at the lost End 1 of a
MEMBER node, which leaves its consist by that loss. -/
def stranded (k : OfferKind) : State :=
  (withBuffer (offering k) 0 (.outbound .portA) none (header 255 1)).modEnd .end2 fun l => { l with link := .down }
def orphaned : State :=
  { withBuffer member 0 (.outbound .portA) none (header 255 1) with
    end1 := { upEnd with link := .opened }
    msg := { (withBuffer member 0 (.outbound .portA) none (header 255 1)).msg with
      offer := some { kind := .broadcast 0, frame := wakeFrame 3, at1 := true, at2 := false } } }

theorem test_a_lost_end_takes_its_offer_first :
    (stranded (.broadcast 0)).usable .end2 = false ∧ (orphaned.reportEnd .end1 .up).inaug.lastCause = some .headWardLoss
      ∧ (orphaned.reportEnd .end1 .up).bufferState 0 = .inbound .portA
      ∧ byteAt ((orphaned.reportEnd .end1 .up).buffer 0).bytes 7 = 5
      ∧ ((stranded (.unicast 0)).reportEnd .end2 .up).msg.inFlight.map (·.deadline) = [some 251000]
      ∧ ((stranded .note).reportEnd .end2 .up).msg.offer = none := by decide +kernel

/-- A head with a frame of its own in a slot of its tail-ward End, and with an Outstanding Order of number 9. -/
def leaving (x : Source) (f : Frame) : State :=
  { head.place .end2 x f with
    track := { Tracking.reset with
      proved := true, lifetime := some 9000
      outstanding := some
        { id := 9, action := .release, side := .left, first := 1, last := 2, repeatsLeft := 3, firstSent := none
          outcomes := [.pending, .pending], complete := false } } }
def ownCall : Frame :=
  { kind := .call, payload := ({ identity := consist.identity, number := 0, flags := 0, silence := 3000 } : CallHeader).bytes }
def ownOrder (action : Byte) : Frame :=
  OrderFrame.frame
    { identity := consist.identity, id := 9, action := action, side := 1, first := 1, last := 2, flags := 1 }

theorem test_a_call_and_an_order_leave :
    (leaving .cycle ownCall).end2.slots.first = some (.cycle, ownCall)
      ∧ (after (leaving .cycle ownCall) (.arbiterTake .end2)).cycle.cycleTimeout = some 13000
      ∧ (after (leaving .cycle ownCall) (.arbiterTake .end2)).cycle.lastCallLeft = some { time := 1000, order := 1 }
      ∧ (after (leaving .door (ownOrder 1)) (.arbiterTake .end2)).door.lastReleaseSent = some { time := 1000, order := 1 }
      ∧ (after (leaving .door (ownOrder 1)) (.arbiterTake .end2)).track.proved = false
      ∧ (after (leaving .door (ownOrder 2)) (.arbiterTake .end2)).track.outstanding.map (·.firstSent)
        = some (some { time := 1000, order := 1 })
      ∧ (after (leaving .door (ownOrder 2)) (.arbiterTake .end2)).track.proved = true
      ∧ (after (leaving .wake (wakeFrame 1)) (.arbiterTake .end2)).moments = 0 := by decide +kernel

theorem test_a_member_keeps_its_unicast_in_flight :
    let s := { cutOff with msg := (stranded (.unicast 0)).msg }
    s.active = some threeCars ∧ s.heading = false
      ∧ (s.reportEnd .end2 .up).msg.inFlight.map (·.deadline) = [some 251000]
      ∧ (s.reportEnd .end2 .up).msg.offer = none := by decide +kernel

theorem test_end_reset_names_an_end_or_none :
    (ops trainEnd 1 0 0 0 0).operandNum .portA 1 = 1 ∧ (ops trainEnd 2 0 0 0 0).operandNum .portA 1 = 2
      ∧ (ops trainEnd 3 0 0 0 0).operandNum .portA 1 = 3
      ∧ (after (ops trainEnd 2 0 0 0 0) (.endReset .portA)).end2.link = .joining := by decide +kernel

theorem test_end_reset_is_reported :
    (after (ops member 1 0 0 0 0) (.endReset .portA)).inaug.lastCause = some .headWardLoss
      ∧ InSlot (after (ops member 2 0 0 0 0) (.endReset .portA)) .end1 .wake (wakeFrame 2)
      ∧ (after (ops head 2 0 0 0 0) (.endReset .portA)).claiming = true
      ∧ InSlot (after (ops head 2 0 0 0 0) (.endReset .portA)) .end2 .inauguration
        (CountFrame.frame { head := 7, attempt := 1, next := 2, timeout := 1000 })
      ∧ (after (ops (trainEnd.setReceiver .end2 .pairA .assembling) 2 0 0 0 0) (.endReset .portA)).receiver .end2 .pairA
        = .discarding
      ∧ (after (ops (passing.place .end2 .wake (wakeFrame 1)) 2 0 0 0 0) (.endReset .portA)).end2.slots = .empty
      ∧ (after (ops passing 2 0 0 0 0) (.endReset .portA)).end2.throughQueue = [] := by
  unfold InSlot; decide +kernel

/-! ## Inauguration -/

theorem test_claims_of_each_sort :
    ({ lone with power := { lone.power with locked := false } }).ready = false
      ∧ head.heading = true ∧ trainEnd.ready = true ∧ trainEnd.power.record.cabFitted = true
      ∧ trainEnd.claiming = false ∧ trainEnd.heading = false
      ∧ (middle.end1.sense = .closed ∧ middle.end2.sense = .closed)
      ∧ (lone.end1.sense = .opened ∧ lone.end2.link = .opened) ∧ SlotFree trainEnd .end2 .inauguration := by
  unfold SlotFree; decide +kernel

theorem test_a_claim_places_a_count :
    InSlot (after trainEnd (.claimCab .portA)) .end2 .inauguration
      (CountFrame.frame { head := 7, attempt := 1, next := 2, timeout := 1000 }) := by
  unfold InSlot; decide +kernel

theorem test_releases_of_each_sort :
    lone.inaug.headRole = .noClaim ∧ head.active = some consist ∧ SlotFree head .end2 .inauguration
      ∧ claimant.claiming = true ∧ claimant.counted = some { countOfNine with head := 7, position := 1 }
      ∧ (after middle (.claimCab .portA)).inaug.headRole = .claimFailed .notAtEnd := by
  unfold SlotFree; decide +kernel

/-- A COUNT of the head with number 9. -/
def countFrame (next : Nat) : Frame := CountFrame.frame { head := 9, attempt := 1, next := next, timeout := 1000 }

theorem test_counts_at_their_bounds :
    (CountFrame.ofPayload (countFrame 2).payload).valid = true ∧ (CountFrame.ofPayload (countFrame 33).payload).valid = true
      ∧ member.claiming = false ∧ member.heading = false ∧ member.valid = true
      ∧ SlotFree trainEnd .end2 .inauguration ∧ (trainEnd.handOn .end2 (countFrame 2)).updateInProgress = true := by
  unfold SlotFree; decide +kernel

/-- A COUNT that comes from the tail-ward End of a COUNTED node, from another head. -/
def countOfEight : Frame := CountFrame.frame { head := 8, attempt := 1, next := 2, timeout := 1000 }

theorem test_counts_of_each_sort :
    (CountFrame.ofPayload (countFrame 34).payload).valid = false
      ∧ InSlot (trainEnd.handOn .end2 (countFrame 33)) .end2 .inauguration (tallyFrame 9 1 0 2 [])
      ∧ ({ trainEnd with end1 := stabled.end2 }.handOn .end2 (countFrame 2)).inaug.hopTimer = some 101000
      ∧ (CountFrame.ofPayload countOfEight.payload).valid = true ∧ countOfEight.kind = .count
      ∧ (counted.handOn .end2 countOfEight).inaug.lastCause = some .contest
      ∧ (counted.handOn .end1 countOfEight).counted.map (·.head) = some 8
      ∧ (head.handOn .end2 countOfEight).inaug.headRole = .claimFailed .contest := by
  unfold InSlot; decide +kernel

theorem test_flagged_tallies :
    (tallyFrame 9 1 0 2 []).kind = .tally ∧ counted.counted = some countOfNine
      ∧ num32 (tallyFrame 9 1 0 2 []).payload 0 = 9 ∧ num8 (tallyFrame 9 1 0 2 []).payload 4 = 1
      ∧ TallyFlag.ofByte (byteAt (tallyFrame 9 1 0 2 []).payload 6) = .tooLong
      ∧ TallyFlag.ofByte (byteAt (tallyFrame 9 1 0 4 []).payload 6) = .contest
      ∧ SlotFree counted .end1 .inauguration := by
  unfold SlotFree; decide +kernel

/-- A COMMIT that fits the COUNTED node, or not, by the vehicle of its second entry. -/
def commitOf (vehicle : Nat) : Frame :=
  commitFrame { head := 9, generation := 4 } 3000 2
    [{ counted.rosterEntry 1 .end1 with vehicle := 9 }, { counted.rosterEntry 2 .end1 with vehicle := vehicle }]

theorem test_commits_that_fit_and_do_not :
    counted.loading = false ∧ num32 (commitOf 7).payload 0 = 9 ∧ num8 (commitOf 7).payload 8 = 2
      ∧ (commitEntries (commitOf 7).payload).map (·.position) = [1, 2]
      ∧ ((commitEntries (commitOf 7).payload)[1]?).map (·.vehicle) = some 7
      ∧ ((commitEntries (commitOf 8).payload)[1]?).map (·.vehicle) = some 8
      ∧ SlotFree counted .end2 .inauguration ∧ (counted.handOn .end1 (commitOf 7)).valid = true := by
  unfold SlotFree; decide +kernel

theorem test_commits_rejected_and_passed_on :
    (counted.handOn .end2 (commitOf 7)).inaug.lastCause = some .commitRejected
      ∧ InSlot (counted.handOn .end1 (commitOf 8)) .end1 .wake (wakeFrame 2)
      ∧ (member.handOn .end1 (commitOf 7)).inaug.lastCause = some .commitRejected
      ∧ InSlot (member.handOn .end1 (commitOf 7)) .end1 .wake (wakeFrame 2)
      ∧ middle.handOn .end1 (commitOf 7) = middle.place .end2 .inauguration (commitOf 7)
      ∧ head.handOn .end2 (commitOf 7) = head.place .end1 .inauguration (commitOf 7)
      ∧ claimant.handOn .end2 (commitOf 7) = claimant.place .end1 .inauguration (commitOf 7)
      ∧ SlotFree member .end1 .wake ∧ SlotFree counted .end1 .wake ∧ head.counted = none := by
  unfold SlotFree InSlot; decide +kernel

/-- A TALLY of the head with number 9 or 7, with one entry. -/
def tallyWith (head : Nat) (length : Nat) (flags : Byte) (position : Nat) : Frame :=
  tallyFrame head 1 length flags (lone.rosterEntry position .end1).bytes

theorem test_tallies_at_a_node :
    (tallyEntries (tallyWith 9 3 1 3).payload).head?.map (·.position) = some 3
      ∧ (counted.handOn .end2 (tallyWith 9 3 1 3)).inaug.role
        = .counted { countOfNine with stage := .tallySent, noted := some 3 }
      ∧ counted.handOn .end2 (tallyWith 9 4 0 4) = counted ∧ counted.handOn .end1 (tallyWith 9 3 0 3) = counted
      ∧ (counted.handOn .end2 (tallyWith 9 0 0 3)).counted.map (·.noted) = some none
      ∧ member.handOn .end2 (tallyWith 9 3 0 3) = member := by decide +kernel

theorem test_tallies_at_the_claiming_node :
    claimant.claiming = true ∧ claimant.handOn .end2 (tallyWith 9 2 0 2) = claimant
      ∧ claimant.handOn .end2 (tallyWith 7 3 0 2) = claimant
      ∧ (claimant.handOn .end2 (tallyWith 7 2 1 2)).active.map (fun a => (a.length, a.position)) = some (2, 1)
      ∧ (claimant.handOn .end2 (tallyWith 7 2 1 2)).inaug.truncated = true
      ∧ (claimant.handOn .end2 (tallyWith 7 2 4 2)).inaug.headRole = .claimFailed .contest
      ∧ (claimant.handOn .end2 (tallyWith 7 2 2 2)).inaug.headRole = .claimFailed .tooLong
      ∧ SlotFree claimant .end2 .inauguration := by
  unfold SlotFree; decide +kernel

theorem test_dissolves_taken_and_not :
    num8 (dissolveFrame { head := 9, generation := 3 }).payload 8 = 0
      ∧ num32 (dissolveFrame { head := 9, generation := 3 }).payload 0 = 9
      ∧ member.active = some threeCars ∧ lone.active = none ∧ SlotFree member .end2 .inauguration
      ∧ (member.handOn .end1 (dissolveFrame { head := 9, generation := 3 })).inaug.role = .unassigned := by
  unfold SlotFree; decide +kernel

/-- A node whose Hop Timer runs. -/
def hopping (s : State) : State := s.modInaug fun i => { i with hopTimer := some 101000 }

theorem test_claim_timers_run :
    (hopping counted).inaug.hopTimer = some 101000 ∧ (hopping counted).claiming = false
      ∧ (hopping claimant).claiming = true ∧ claimant.inaug.inaugurationTimer = some 1001000
      ∧ claimant.inaug.attempt = 1 ∧ claimant.end1.sense = .opened ∧ claimant.end2.link ≠ .opened
      ∧ (claimant.modInaug fun i => { i with attempt := 3 }).inaug.attempt = 3
      ∧ (after (hopping claimant) .hopTimerExpiry).heading = true := by decide +kernel

/-- A claiming node whose Inauguration Timer runs, with other Ends than it claimed at. -/
def claimantAt (end1 end2 : LineEnd) : State := { claimant with end1 := end1, end2 := end2 }

theorem test_an_attempt_is_repeated :
    claimant.updateInProgress = true
      ∧ InSlot (after claimant .inaugurationTimerExpiry) .end2 .inauguration
        (CountFrame.frame { head := 7, attempt := 2, next := 2, timeout := 1000 })
      ∧ (after (claimantAt upEnd upEnd) .inaugurationTimerExpiry).inaug.headRole = .claimFailed .notAtEnd
      ∧ (after (claimantAt upEnd upEnd) .inaugurationTimerExpiry).inaug.attempt = 2
      ∧ (after (claimantAt upEnd .reset) .inaugurationTimerExpiry).headward = some .end2
      ∧ (after (claimantAt upEnd .reset) .inaugurationTimerExpiry).inaug.attempt = 2
      ∧ (after (claimantAt .reset .reset) .inaugurationTimerExpiry).heading = true
      ∧ SlotFree (claimantAt upEnd .reset) .end1 .inauguration := by
  unfold InSlot SlotFree; decide +kernel

theorem test_commit_wait_and_silence_run :
    counted.inaug.commitWait = some 2001000 ∧ member.inaug.silence = some 3001000 ∧ member.heading = false
      ∧ SlotFree member .end1 .wake ∧ member.usable .end1 = true ∧ member.end1.throughQueue = [] := by
  unfold SlotFree; decide +kernel

/-- A state with the link of End 1 or of End 2 in a state. -/
def link1 (s : State) (l : LinkState) : State := s.modEnd .end1 fun x => { x with link := l }
def link2 (s : State) (l : LinkState) : State := s.modEnd .end2 fun x => { x with link := l }

/-- A COUNTED node in a Tally Stage, and a claiming one with its Hop Timer running. -/
def countedIn (x : TallyStage) : State :=
  counted.modInaug fun i => { i with role := .counted { countOfNine with stage := x } }

theorem test_end_changes_at_a_counted_node :
    ((link1 counted .down).reportEnd .end1 .up).inaug.lastCause = some .headWardLoss
      ∧ ((countedIn .awaitingHop).reportEnd .end2 .joining).counted.map (·.stage) = some .awaitingTally
      ∧ ((link2 (countedIn .awaitingHop) .opened).reportEnd .end2 .joining).counted.map (·.noted) = some (some 2)
      ∧ ((link2 (countedIn .awaitingTally) .down).reportEnd .end2 .up).counted.map (·.stage) = some .tallySent
      ∧ ((countedIn .tallySent).reportEnd .end2 .down).inaug = (countedIn .tallySent).inaug
      ∧ InSlot ((countedIn .tallySent).reportEnd .end2 .down) .end1 .wake (wakeFrame 2)
      ∧ SlotFree counted .end1 .wake ∧ SlotFree counted .end1 .inauguration ∧ counted.end1.throughQueue = [] := by
  unfold SlotFree InSlot; decide +kernel

theorem test_end_changes_at_a_claiming_node :
    ((link1 claimant .joining).reportEnd .end1 .opened).inaug.headRole = .claimFailed .notAtEnd
      ∧ ((hopping claimant).reportEnd .end2 .joining).counted.map (·.stage) = some .awaitingTally
      ∧ ((link2 (hopping claimant) .opened).reportEnd .end2 .joining).heading = true
      ∧ claimant.claimHeadward = some .end1 ∧ (claimant.reportEnd .end2 .down).inaug.attempt = 1
      ∧ ((link2 claimant .opened).reportEnd .end2 .up).heading = true := by decide +kernel

theorem test_end_changes_at_a_member_and_at_a_head :
    ((link1 member .down).reportEnd .end1 .degraded).inaug.lastCause = some .headWardLoss
      ∧ InSlot ((link2 member .down).reportEnd .end2 .up) .end1 .wake (wakeFrame 2)
      ∧ ((link1 head .joining).reportEnd .end1 .opened).inaug.headRole = .claimFailed .displaced
      ∧ ((link2 head .down).reportEnd .end2 .up).claiming = true ∧ head.claimHeadward = some .end1
      ∧ SlotFree member .end1 .wake ∧ SlotFree head .end2 .inauguration := by
  unfold SlotFree InSlot; decide +kernel

/-! ## The roll cycle -/

/-- A head of Length 1. -/
def single : State :=
  { head with
    inaug := { head.inaug with role := .member { consist with length := 1, entries := consist.entries.take 1 } }
    grants := { head.grants with table := head.grants.table.take 1 } }

theorem test_a_call_is_due_or_not :
    head.callDue consist = true ∧ head.orderWaits consist = false ∧ consist.length = 2
      ∧ single.callDue { consist with length := 1, entries := consist.entries.take 1 } = true
      ∧ SlotFree head .end2 .cycle
      ∧ ({ head with cycle := { head.cycle with periodTimer := some 9 } }).callDue consist = false := by
  unfold SlotFree; decide +kernel

theorem test_a_lone_head_settles_at_once : (after single .callOriginate).cycle.lastSettle.map (·.cycleNumber) = some 1 := by
  decide +kernel

/-- A CALL of the consist that the MEMBER node belongs to, with one record. -/
def callFrame (flags : Byte) : Frame :=
  { kind := .call
    payload := ({ identity := threeCars.identity, number := 5, flags := flags, silence := 500 } : CallHeader).bytes
      ++ [1, 0x30, 0, 0, 0, 0, 0] }

/-- The MEMBER node as the last of its consist. -/
def tail : State :=
  { member with inaug := { member.inaug with role := .member { threeCars with length := 2, entries := consist.entries } } }

theorem test_calls_meet_each_node :
    callRecordCount (callFrame 1).payload = 1 ∧ identityAt (callFrame 1).payload 0 = threeCars.identity
      ∧ num16 (callFrame 1).payload 9 = 500 ∧ hasBit (byteAt (callFrame 1).payload 8) 0 = true
      ∧ hasBit (byteAt (callFrame 0).payload 8) 0 = false ∧ member.usable .end2 = true ∧ cutOff.usable .end2 = false
      ∧ tail.active.map (fun a => (a.position, a.length)) = some (2, 2) ∧ middle.active = none
      ∧ SlotFree member .end1 .cycle ∧ SlotFree member .end2 .cycle
      ∧ (tail.handOn .end1 (callFrame 1)).cycle.lastCallRole = .tail
      ∧ (cutOff.handOn .end1 (callFrame 1)).cycle.lastCallRole = .short := by
  unfold SlotFree; decide +kernel

/-- The MEMBER node with one side RELEASED. -/
def releasedMember : State := member.modDoor fun d => { d with side2 := { d.side2 with state := .released } }

/-- A CALL with Standstill clear, with one record and with 32, closes the side that is RELEASED. -/
theorem test_a_call_closes_released_sides :
    releasedMember.sideState .side2 = .released ∧ releasedMember.sideState .side1 ≠ .released
      ∧ (∀ i, member.sideState i ≠ .released)
      ∧ (releasedMember.handOn .end1 (callFrame 0)).door.side2
        = { state := .closing, closeTimer := some 20001000, overdue := false }
      ∧ (releasedMember.handOn .end1 (callFrame 0)).door.side1 = releasedMember.door.side1
      ∧ (releasedMember.handOn .end1 { callFrame 0 with payload := (callFrame 0).payload ++ List.replicate 217 0 }).door.side2
        = { state := .closing, closeTimer := some 20001000, overdue := false } := by
  refine ⟨by decide +kernel, by decide +kernel, fun i => ?_, by decide +kernel, by decide +kernel, by decide +kernel⟩
  cases i <;> decide +kernel

/-- A CALL that carries 32 records. -/
def fullCall : Frame := { callFrame 1 with payload := (callFrame 1).payload ++ List.replicate 217 0 }

theorem test_a_full_call_comes_back :
    callRecordCount fullCall.payload = 32 ∧ (member.handOn .end1 fullCall).cycle.lastCallRole = .short
      ∧ (middle.handOn .end1 fullCall).cycle.lastCallRole = .short
      ∧ InSlot (member.handOn .end1 fullCall) .end1 .cycle (returnOfCall fullCall.payload true)
      ∧ (member.handOn .end1 fullCall).inaug.silence = some 501000 := by
  unfold InSlot; decide +kernel

/-- A head whose CALL is out, with some failures behind it. -/
def calling (n : Nat) : State :=
  { head with cycle := { head.cycle with state := .callOut, cycleTimeout := some 13000, failures := n } }

theorem test_cycle_timeouts_at_their_bounds :
    (calling 1).cycle.cycleTimeout = some 13000 ∧ (calling 1).cycle.state = .callOut ∧ (calling 1).cycle.failures < 2
      ∧ 2 ≤ (calling 2).cycle.failures ∧ (calling 2).active = some consist ∧ (calling 2).claimHeadward = some .end1
      ∧ (calling 2).end2.link ≠ .opened ∧ (after (calling 2) .cycleTimeoutExpiry).claiming = true
      ∧ LineTiming.default.inRange = true := by decide +kernel

/-- A record of a Ready, attended and closed node, and a RETURN of the head's consist in the cycle with number 0. -/
def closedRecord (position : Byte) : CycleRecord :=
  { position := position, doorFlags := 0x30, echo := 0, outcome := 0, demand := 30, applied := 30, nodeFlags := 0 }
def returnOf (positions : List Byte) (short : Bool) : Frame :=
  returnOfCall (({ identity := consist.identity, number := 0, flags := 1, silence := 500 } : CallHeader).bytes
    ++ positions.flatMap fun x => (closedRecord x).bytes) short

theorem test_returns_at_the_head :
    ((calling 0).handOn .end2 (returnOf [1, 2] false)).cycle.lastSettle.map (·.cycleNumber) = some 0
      ∧ ((calling 0).handOn .end2 (returnOf [1, 2] false)).cycle.lastFailure = none
      ∧ head.handOn .end2 (returnOf [1, 2] false) = head ∧ (calling 0).handOn .end1 (returnOf [1, 2] false) = calling 0
      ∧ SlotFree (calling 0) .end2 .cycle
      ∧ ((calling 1).handOn .end2 (returnOf [1, 2] true)).cycle.lastFailure = some .short
      ∧ ((calling 1).handOn .end2 (returnOf [1] false)).cycle.lastFailure = some .count
      ∧ ((calling 0).handOn .end2 (returnOf [1, 0] false)).cycle.lastFailure = some .unplaced
      ∧ ((calling 0).handOn .end2 (returnOf [1, 0] false)).claiming = true
      ∧ ((calling 2).handOn .end2 (returnOf [1] false)).claiming = true ∧ (calling 2).claimHeadward = some .end1 := by
  unfold SlotFree; decide +kernel

theorem test_returns_at_other_nodes :
    claimant.heading = false ∧ claimant.usable .end1 = false
      ∧ claimant.handOn .end2 (returnOf [1, 2] false) = claimant.modEnd .end1 (·.countDrops 1)
      ∧ (member.handOn .end2 (returnOfCall (callFrame 1).payload false)).end1.throughQueue.length = 1 := by decide +kernel

theorem test_pace_timers_run :
    ({ head with cycle := { head.cycle with periodTimer := some 9 } }).cycle.periodTimer = some 9
      ∧ head.cycle.state = .idleContinuous ∧ head.settleWaits consist = false
      ∧ ({ head with cycle := { head.cycle with state := .idleQuiet, refreshTimer := some 9 } }).cycle.periodTimer = none := by
  decide +kernel

theorem test_wakes_at_a_head_and_passing :
    (head.handOn .end2 (wakeFrame 2)).claiming = true ∧ head.claimHeadward = some .end1 ∧ head.valid = true
      ∧ (head.handOn .end2 (wakeFrame 1)).cycle.callRequested = true ∧ head.handOn .end2 (wakeFrame 0) = head
      ∧ member.end1.slots.wake = .empty ∧ (member.handOn .end2 (wakeFrame 1)).end1.throughQueue = [wakeFrame 1]
      ∧ ((member.place .end1 .wake (wakeFrame 2)).handOn .end2 (wakeFrame 1)).end1.throughQueue = [wakeFrame 3]
      ∧ member.usable .end1 = true := by decide +kernel

/-- The MEMBER node with frames passing toward its head-ward End and a WAKE of its own waiting there. -/
def queued (q : List Frame) : State :=
  (member.place .end1 .wake (wakeFrame 2)).modEnd .end1 fun l => { l with throughQueue := q }

theorem test_wakes_merge_and_drop :
    ((queued (List.replicate 6 idleFrame)).handOn .end2 (wakeFrame 1)).end1.throughDrop = 1
      ∧ ((queued (List.replicate 6 idleFrame)).handOn .end2 (wakeFrame 1)).end1.slots.wake = .empty
      ∧ ((link1 (queued []) .down).handOn .end2 (wakeFrame 1)).end1.slots.wake = .empty
      ∧ ((queued [wakeFrame 1, wakeFrame 0, idleFrame]).produceWake .end1 2).end1.throughQueue
        = [wakeFrame 1, wakeFrame 2, idleFrame]
      ∧ (member.produceWake .end1 2).end1.slots.wake.slot = some (wakeFrame 2) := by decide +kernel

theorem test_frames_pass_or_drop :
    ((queued (List.replicate 5 idleFrame)).passThrough .end1 idleFrame).end1.throughQueue.length = 6
      ∧ ((queued (List.replicate 6 idleFrame)).passThrough .end1 idleFrame).end1.throughDrop = 1
      ∧ ((queued (List.replicate 6 idleFrame)).passThrough .end1 idleFrame).flagSet .portA .throughOverflow = true
      ∧ ((link1 (queued []) .opened).passThrough .end1 idleFrame).end1.throughDrop = 1
      ∧ lone.passThrough .end1 { kind := .msg, payload := [0, 0, 0, 0, 0, 0, 255] } = lone := by decide +kernel

/-- Operands at the least values that Set Line Timing takes, and one Cycle Period below them. -/
theorem test_line_timing_at_its_bounds :
    (timingOperands (ops head 2 4 10 4 1) .portA).inRange = true
      ∧ (timingOperands (ops head 1 4 10 4 1) .portA).inRange = false
      ∧ (after (ops head 2 4 10 4 1) (.setLineTiming .portA)).cycle.timing.cyclePeriod = 20
      ∧ lone.heading = false ∧ head.heading = true := by decide +kernel

/-! ## Doors -/

/-- A head at standstill whose train may be open. -/
def openTrain : State := { head with door := { Door.reset with headStandstill := true, trainDoorsOpen := true } }

theorem test_standstill_of_each_sort :
    hasBit ((ops openTrain 0 0 0 0 0).operand .portA 1) 0 = false ∧ openTrain.door.headStandstill = true
      ∧ openTrain.door.trainDoorsOpen = true ∧ openTrain.active = some consist ∧ lone.heading = false
      ∧ (after (ops openTrain 0 0 0 0 0) (.setStandstill .portA)).door.orderCounter = 1 := by decide +kernel

/-- The automatic CLOSE closes a RELEASED side, and an unlocked one that is WITHDRAWN, and leaves a locked one. -/
theorem test_the_automatic_close_closes_sides :
    let s := (ops openTrain 0 0 0 0 0).modDoor fun d =>
      { d with side1 := { d.side1 with state := .released }, status := { d.status with closedLocked2 := true } }
    let x := after s (.setStandstill .portA)
    SlotFree s consist.tailward .door ∧ consist.position = 1 ∧ s.door.status.closedLocked .side2 = true
      ∧ openTrain.door.status.closedLocked .side2 = false
      ∧ x.door.side1 = { state := .closing, closeTimer := some 20001000, overdue := false } ∧ x.door.side2 = s.door.side2
      ∧ (after (ops openTrain 0 0 0 0 0) (.setStandstill .portA)).sideState .side2 = .closing
      ∧ InSlot x .end2 .door (OrderFrame.frame
        { identity := consist.identity, id := 1, action := 2, side := 3, first := 1, last := 32, flags := 0 }) := by
  unfold SlotFree InSlot; decide +kernel

theorem test_issues_of_each_sort :
    lone.heading = false ∧ orderOperands (ops head 1 3 1 32 0) .portA = none
      ∧ orderOperands (ops head 1 1 1 32 0) .portA = some (.release, .left)
      ∧ orderOperands (ops head 2 3 1 32 0) .portA = some (.close, .both)
      ∧ head.door.headStandstill = false ∧ openTrain.door.headStandstill = true ∧ SlotFree openTrain .end2 .door
      ∧ (after (ops openTrain 1 1 1 32 0) (.issueOrder .portA)).door.lastOutcome = .refusedUnattended := by
  unfold SlotFree; decide +kernel

/-- An attended head at standstill, which issues a RELEASE, a CLOSE and a WITHDRAW. -/
def attendedHead : State := { openTrain with door := { openTrain.door with attended := true } }
def issued (action : Byte) : State :=
  after (ops (attendedHead.modDoor fun d => { d with side2 := { d.side2 with state := .released } }) action 1 1 32 0)
    (.issueOrder .portA)

theorem test_an_order_acts_on_the_head_itself :
    (issued 1).sideState .side1 = .released ∧ (issued 1).door.lastOutcome = .applied
      ∧ (issued 2).sideState .side1 = .closing ∧ (issued 2).sideState .side2 = .released
      ∧ (issued 3).sideState .side1 = .withdrawn
      ∧ (after (ops attendedHead 1 1 2 32 0) (.issueOrder .portA)).door.lastOutcome = .notAddressed := by decide +kernel

/-- A head whose tail-ward End is OPEN, and a window that lies beyond its consist. -/
theorem test_an_order_leaves_at_an_open_end :
    let s := { ops head 1 1 3 32 0 with end2 := .reset, door := { head.door with headStandstill := true } }
    consist.identity.head < 2 ^ 32 ∧ consist.identity.generation < 2 ^ 16 ∧ (after s (.issueOrder .portA)).track.outstanding.map (fun r => (r.firstSent, r.complete))
        = some (some { time := 1000, order := 1 }, true)
      ∧ (after s (.issueOrder .portA)).door.lastReleaseSent = some { time := 1000, order := 1 } := by decide +kernel

/-- A head whose CLOSE of the whole train left before its CALL, with some repeats left, and a record's echo of it. -/
def ordering (repeats : Nat) : State :=
  { head with
    cycle := { head.cycle with lastCallLeft := some { time := 900, order := 2 } }
    track := { Tracking.reset with
      outstanding := some
        { id := 5, action := .close, side := .both, first := 1, last := 2, repeatsLeft := repeats
          firstSent := some { time := 800, order := 1 }, outcomes := [.pending, .pending], complete := false } } }
def echoing (ids : List Byte) : List CycleRecord := ids.map fun x => { closedRecord 1 with echo := x, outcome := 1 }

theorem test_the_outcome_list_fills :
    ((ordering 3).doorReturn consist (echoing [5, 5])).track.outstanding.map (fun r => (r.outcomes, r.complete))
        = some ([.applied, .applied], true)
      ∧ ((ordering 0).doorReturn consist (echoing [5, 4])).track.outstanding.map (fun r => (r.outcomes, r.complete))
        = some ([.applied, .lost], true)
      ∧ ((ordering 3).doorReturn consist (echoing [5, 4])).track.outstanding.map (fun r => (r.outcomes, r.repeatsLeft))
        = some ([.applied, .pending], 2)
      ∧ ({ ordering 3 with cycle := head.cycle }.doorReturn consist (echoing [5, 5])).track.outstanding
        = (ordering 3).track.outstanding
      ∧ SlotFree (ordering 3) .end2 .door ∧ consist.tailward = .end2 := by
  unfold SlotFree; decide +kernel

/-- An ORDER of the consist that the MEMBER node belongs to. -/
def orderFrame (id : Nat) (action : Byte) (first last : Nat) : Frame :=
  OrderFrame.frame { identity := threeCars.identity, id := id, action := action, side := 1, first := first, last := last, flags := 1 }

/-- The MEMBER node, attended. -/
def attendedMember : State := { member with door := { Door.reset with attended := true, attendanceTimer := some 501000 } }

theorem test_orders_meet_each_outcome :
    ((OrderFrame.ofPayload (orderFrame 3 1 2 2).payload).order.map fun o => (o.id, o.addresses 2)) = some (3, true)
      ∧ ((OrderFrame.ofPayload (orderFrame 3 1 3 3).payload).order.map (·.addresses 2)) = some false
      ∧ (OrderFrame.ofPayload (orderFrame 0 1 2 2).payload).order = none ∧ member.door.lastOrderId = 0
      ∧ mapSides .normal .left = [.side1] ∧ SlotFree member .end2 .door
      ∧ (member.handOn .end1 (orderFrame 3 1 2 2)).door.lastOutcome = .refusedUnattended
      ∧ (attendedMember.handOn .end1 (orderFrame 3 1 2 2)).sideState .side1 = .released
      ∧ (attendedMember.handOn .end1 (orderFrame 3 2 2 2)).door.lastOutcome = .applied := by
  unfold SlotFree; decide +kernel

theorem test_orders_and_settles_without_use :
    member.handOn .end2 (orderFrame 3 1 2 2) = member.place .end1 .door (orderFrame 3 1 2 2)
      ∧ middle.handOn .end1 (orderFrame 3 1 2 2) = middle.place .end2 .door (orderFrame 3 1 2 2)
      ∧ (OrderFrame.ofPayload (orderFrame 3 1 2 2).payload).identity ≠ consist.identity := by decide +kernel

theorem test_local_close_names_sides_or_none :
    closeSides 0 = [] ∧ closeSides 3 = [.side1, .side2] ∧ closeSides 4 = []
      ∧ (after (ops lone 0x30 0 0 0 0) (.writeDoorStatus .portA)).door.attended = true
      ∧ (after (ops lone 3 0 0 0 0) (.localClose .portA)).closeOut .side2 = true := by decide +kernel

theorem test_door_timers_run :
    (after (ops lone 3 0 0 0 0) (.localClose .portA)).door.side1.closeTimer = some 20001000
      ∧ attendedMember.door.attendanceTimer = some 501000
      ∧ ({ head with track := { Tracking.reset with proved := true, lifetime := some 9 } }).track.lifetime = some 9 := by
  decide +kernel

theorem test_the_proof_is_evaluated :
    (head.evaluateProof 2 [closedRecord 1, closedRecord 2]).track.lifetime = some 1013000
      ∧ (head.evaluateProof 2 [closedRecord 1, { closedRecord 2 with doorFlags := 0x10 }]).track.proved = false
      ∧ ({ head with door := { head.door with lastReleaseSent := some { time := 1, order := 1 } } }.evaluateProof 2
          [closedRecord 1]).track.proved = false := by decide +kernel

/-- A record of an open and of a closed node at position 1, a RETURN that is complete and one that is not. -/
theorem test_returns_of_each_sort :
    judgeReturn 1 false [CycleRecord.ofBytes [1, 1, 0, 0, 0, 0, 0]] = none
      ∧ judgeReturn 2 false [CycleRecord.ofBytes [1, 1, 0, 0, 0, 0, 0]] = some .count
      ∧ head.cycle.failures < 2 ∧ head.heading = true := by decide +kernel

/-! ## Heating -/

theorem test_demands_at_their_bounds :
    (ops lone 254 0 0 0 0).operandNum .portB 1 = 254 ∧ (ops lone 255 0 0 0 0).operandNum .portB 1 = 255
      ∧ (after (ops lone 254 0 0 0 0) (.setDemand .portB)).stage.target = 1
      ∧ lone.stage.demand = 0 := by decide +kernel

/-- A MEMBER node whose record changed since it was appended. -/
def changed (s : State) : State :=
  { s with cycle := { s.cycle with lastAppended := some (closedRecord 9) } }

theorem test_a_changed_record_asks_for_a_roll :
    InSlot (changed member).sourceChanged .end1 .wake (wakeFrame 1) ∧ SlotFree member .end1 .wake
      ∧ (changed member).sourceChanged.sourceChanged = (changed member).sourceChanged
      ∧ member.sourceChanged = member ∧ (changed head).sourceChanged.cycle.callRequested = true
      ∧ ((changed member).place .end1 .wake (wakeFrame 2)).sourceChanged.end1.slots.wake.slot = some (wakeFrame 3)
      ∧ ((changed member).passThrough .end1 (wakeFrame 2)).sourceChanged.end1.throughQueue = [wakeFrame 3]
      ∧ (changed (queued [wakeFrame 2, wakeFrame 0, idleFrame])).sourceChanged.end1.throughQueue
        = [wakeFrame 2, wakeFrame 1, idleFrame] := by
  unfold SlotFree InSlot; decide +kernel

/-- A head whose two cars hold grants of 30 each. -/
def granted : State :=
  { head with
    grants := { head.grants with budget := 60, table := head.grants.table.map fun g => { g with grant := 30, seeded := true } } }

theorem test_budgets_at_their_bounds :
    (ops granted 0x3E 0x80 0 0 0).operandNum .portB 1 * 256 + (ops granted 0x3E 0x80 0 0 0).operandNum .portB 2 = 16000
      ∧ granted.grants.inUse = true ∧ grantSum granted.grants.table = 60 ∧ granted.active = some consist
      ∧ lone.grants.inUse = false ∧ (∀ g ∈ granted.grants.table, g.effectiveClass ≤ 3)
      ∧ grantSum (after (ops granted 0 59 0 0 0) (.setSupplyBudget .portB)).grants.table = 40 := by decide +kernel

/-- The lower class is shed first, and in a class the higher position first. -/
theorem test_shedding_takes_its_order :
    (after (ops granted 0 45 0 0 0) (.setSupplyBudget .portB)).grants.table.map GrantEntry.grant = [30, 10]
      ∧ (after (ops granted 0 25 0 0 0) (.setSupplyBudget .portB)).grants.table.map GrantEntry.grant = [10, 0]
      ∧ (consist.entries.map RosterEntry.levels) = [[0, 10, 30], [0, 10, 30]] := by decide +kernel

theorem test_returns_seed_lower_and_raise :
    (∀ g ∈ head.grants.table, g.seeded = false) ∧ (∀ g ∈ head.grants.table, g.effectiveClass ≤ 3)
      ∧ (∀ x ∈ consist.entries, x.priority ≤ 3) ∧ head.grants.table.length = 2 ∧ consist.entries.length = 2
      ∧ ({ head with grants := { head.grants with budget := 60 } }.grantReturn consist
          [closedRecord 1, closedRecord 2]).grants.table.map GrantEntry.grant = [30, 30]
      ∧ (granted.grantReturn consist [{ closedRecord 1 with demand := 10 }, closedRecord 2]).grants.table.map GrantEntry.grant
        = [10, 30]
      ∧ (granted.grantReturn consist [{ closedRecord 1 with demand := 10 }, closedRecord 2]).grants.room = 0 := by
  decide +kernel

/-- Records whose sum at the seeding level is the budget, is within it while more is drawn, and exceeds it. -/
theorem test_the_seeding_return_within_and_beyond_the_budget :
    let seeded := fun (budget : Nat) (records : List CycleRecord) =>
      { head with grants := { head.grants with budget := budget } }.grantReturn consist records
    (seeded 60 [closedRecord 1, closedRecord 2]).grants.table.map GrantEntry.grant = [30, 30]
      ∧ (seeded 50 [{ closedRecord 1 with demand := 10 }, closedRecord 2]).grants.table.map GrantEntry.grant = [10, 30]
      ∧ (seeded 50 [{ closedRecord 1 with demand := 10 }, closedRecord 2]).grants.room = -10
      ∧ (seeded 50 [{ closedRecord 1 with demand := 10 }, closedRecord 2]).flagSet .portA .shedPerformed = false
      ∧ (seeded 59 [closedRecord 1, closedRecord 2]).grants.table.map GrantEntry.grant = [30, 10]
      ∧ (seeded 9 [closedRecord 1, closedRecord 2]).grants.table.map GrantEntry.grant = [0, 0]
      ∧ (seeded 59 [closedRecord 1, closedRecord 2]).flagSet .portB .shedPerformed = true := by decide +kernel

/-- A node with a stage that waits and one that rests. -/
def heated : State :=
  { lone with
    stage := { lone.stage with
      target := 1, rise := some { began := 0, stagger := 0, onMoment := 9000 }, demand := 254
      stages := #v[{ state := .waitingOn, timer := some 9000 }, .reset, .reset, { state := .resting, timer := some 5000 }] } }

theorem test_stage_timers_run :
    (heated.stage.stageAt 0).timer = some 9000 ∧ (heated.stage.stageAt 0).state = .waitingOn
      ∧ (heated.stage.stageAt 3).timer = some 5000 ∧ (heated.stage.stageAt 3).state = .resting ∧ 3 ≠ heated.onCount
      ∧ (after heated (.stageTimerExpiry 1)).appliedPower = 10 := by decide +kernel

/-- Stage drives whose next stage is off, resting, or part of a rise. -/
def drive (target : Nat) (stages : Vector Stage 4) (rise : Option Rise) : State :=
  { lone with stage := { lone.stage with target := target, stages := stages, rise := rise, lastOn := some 500 } }
def rests : Stage := { state := .resting, timer := some 9000 }
def waits : Stage := { state := .waitingOn, timer := some 9000 }
def isOn : Stage := { state := .on, timer := none }
def rising (onMoment : Nat) : Option Rise := some { began := 0, stagger := 0, onMoment := onMoment }

theorem test_a_rise_begins_and_goes_on :
    (lone.applyTarget 2 true).stage.stageAt 0 = isOn
      ∧ ((drive 0 #v[rests, .reset, .reset, .reset] none).applyTarget 2 true).stage.stageAt 0 = rests
      ∧ ((drive 1 #v[waits, .reset, .reset, .reset] (rising 9000)).applyTarget 2 true).stage.rise = rising 9000
      ∧ (after (drive 2 #v[waits, rests, .reset, .reset] (rising 9000)) (.stageTimerExpiry 1)).stage.stageAt 1 = rests
      ∧ (after (drive 1 #v[rests, .reset, .reset, .reset] (rising 8000)) (.stageTimerExpiry 1)).stageOut 1 = true
      ∧ (after (drive 1 #v[rests, .reset, .reset, .reset] (rising 9500)) (.stageTimerExpiry 1)).stage.stageAt 0
        = { state := .waitingOn, timer := some 9500 }
      ∧ ((drive 2 #v[isOn, waits, .reset, .reset] (rising 9000)).applyTarget 0 false).stage.rise = none
      ∧ ((drive 2 #v[isOn, waits, .reset, .reset] (rising 9000)).applyTarget 0 false).stage.stageAt 1 = .reset := by
  decide +kernel

/-- The MEMBER node at position 2 with a Stagger Unit of 1 s and a Step Delay of 0.5 s, whose first stage waits or rests to
9 ms, the present moment. -/
def meeting (target : Nat) (x : Stage) (rise : Option Rise) : State :=
  { member with
    now := 9000, power := { member.power with record := { coach with stagger := 100, stepDelay := 5 } }
    stage := { (drive target #v[x, .reset, .reset, .reset] rise).stage with ceiling := 30, demand := 10 * target } }

/-- The last sentence of R143: the second stage follows by the Step Delay in either order, and by the stagger where the
Demand rises later, or where a write of a Stage Power raises the target (R142). -/
theorem test_a_wait_and_a_rise_meet :
    HeatingOk (meeting 1 waits (rising 9000)) ∧ HeatingOk (meeting 0 rests none)
      ∧ ((meeting 1 waits (rising 9000)).stageTimerExpiry 1).stage.ended = rising 9000
      ∧ (((meeting 1 waits (rising 9000)).stageTimerExpiry 1).setDemand 30).stage
        = (((meeting 1 waits (rising 9000)).setDemand 30).stageTimerExpiry 1).stage
      ∧ (((meeting 1 waits (rising 9000)).stageTimerExpiry 1).setDemand 30).stage.stageAt 1
        = { state := .waitingOn, timer := some 509000 }
      ∧ (((meeting 1 waits (rising 9000)).stageTimerExpiry 1).idle.setDemand 30).stage.stageAt 1
        = { state := .waitingOn, timer := some 1009001 }
      ∧ (((meeting 1 waits (rising 9000)).stageTimerExpiry 1).fieldTaken 7 0).stage.stageAt 1
        = { state := .waitingOn, timer := some 1009000 }
      ∧ (((meeting 0 rests none).stageTimerExpiry 1).setDemand 10).stage
        = (((meeting 0 rests none).setDemand 10).stageTimerExpiry 1).stage := by
  unfold HeatingOk; decide +kernel

theorem test_node_reset_acts_on_the_stages :
    (after (drive 2 #v[isOn, waits, rests, .reset] (rising 9000)) (.nodeReset .portA)).stage.rise = none
      ∧ (after (drive 2 #v[isOn, waits, rests, .reset] (rising 9000)) (.nodeReset .portA)).stage.target = 0
      ∧ (after (drive 2 #v[isOn, waits, rests, .reset] (rising 9000)) (.nodeReset .portA)).stage.stageAt 2 = rests
      ∧ (after (drive 2 #v[isOn, waits, rests, .reset] (rising 9000)) (.nodeReset .portA)).stage.lastOn = some 500 := by
  decide +kernel

/-- A node whose first stage has 0 PU, with that stage in a state at a Node Reset. -/
def zeroFirst (x : Stage) (lastOn : Option Nat) : State :=
  let s := drive 0 #v[x, waits, isOn, .reset] (rising 9000)
  { s with
    power := { s.power with record := { coach with powers := #v[0, 20, 0, 0], stepDelay := 10, minOff := 2 } }
    stage := { s.stage with lastOn := lastOn } }

theorem test_node_reset_with_a_stage_of_no_power :
    (after (zeroFirst .reset none) (.nodeReset .portA)).stage.target = 1
      ∧ (after (zeroFirst .reset none) (.nodeReset .portA)).stage.stageAt 0 = isOn
      ∧ (after (zeroFirst .reset (some 500)) (.nodeReset .portA)).stage.stageAt 0
        = { state := .waitingOn, timer := some 1000500 }
      ∧ (after (zeroFirst rests (some 500)) (.nodeReset .portA)).stage.rise.map (·.onMoment) = some 1000500
      ∧ (after (zeroFirst rests none) (.nodeReset .portA)).stage.stageAt 0 = rests
      ∧ (after (zeroFirst rests none) (.nodeReset .portA)).stage.stageAt 1 = .reset
      ∧ (after (zeroFirst rests none) (.nodeReset .portA)).stage.stageAt 2
        = { state := .resting, timer := some 2001000 } := by decide +kernel

/-- A SETTLE of the consist that the MEMBER node belongs to, with its second grant given. -/
def settleOf (grant : Nat) : Frame := settleFrame threeCars.identity 5 .quiet false [30, grant, 30]

theorem test_settles_with_a_grant_and_with_hold :
    (settleOf 254).kind = .settle ∧ (settleOf 254).payload.length = 13 ∧ num8 (settleOf 254).payload 11 = 254
      ∧ num8 (settleOf 255).payload 11 = 255 ∧ SlotFree member .end2 .cycle ∧ member.grants.takenGrant ≠ some 254
      ∧ (member.handOn .end1 (settleOf 254)).stage.ceiling = 254
      ∧ (member.handOn .end1 (settleOf 255)).stage.ceiling = 12 := by
  unfold SlotFree; decide +kernel

theorem test_settles_without_use :
    member.handOn .end2 (settleOf 30) = member.place .end1 .cycle (settleOf 30)
      ∧ middle.handOn .end1 (settleOf 30) = middle.place .end2 .cycle (settleOf 30)
      ∧ (settleFrame threeCars.identity 5 .quiet false [30]).payload.length = 11
      ∧ (member.handOn .end1 (settleFrame threeCars.identity 5 .quiet false [30])).cycle.lastSettle = none := by
  decide +kernel

/-! ## Messages -/

/-- A node with the buffer 0 posted to a position, and a quota used up at Port B. -/
def posted (dest : Byte) (i : Identity) : State :=
  { withBuffer member 0 (.outbound .portA) (some i) (header dest 1) with
    msg := { (withBuffer member 0 (.outbound .portA) (some i) (header dest 1)).msg with
      queuesA := { PortQueues.reset with outbound := [0] } } }

theorem test_take_and_fetch_of_each_sort :
    lone.portCount .portA = 0 ∧ (lone.queues .portA).quota = 48 ∧ lone.bufferState 0 = .free ∧ lone.freeBuffers = 96
      ∧ ({ lone with msg := { lone.msg with queuesA := { PortQueues.reset with quota := 0 } } }).portCount .portA = 0
      ∧ ({ lone with msg := { lone.msg with buffers := [] } }).freeBuffers = 0 ∧ (lone.queues .portA).inbound = []
      ∧ ({ lone with msg := { lone.msg with queuesA := { PortQueues.reset with inbound := [95] } } }).queues .portA
        = { PortQueues.reset with inbound := [95] } := by decide +kernel

/-- A MEMBER node that has taken buffer 0 at Port A. -/
def holding : State := after member (.take .portA)

theorem test_a_held_buffer_is_returned_or_posted :
    lone.heldSelection .portA = none ∧ holding.heldSelection .portA = some 0 ∧ 4 ≤ (holding.buffer 0).bytes.length
      ∧ (after lone (.take .portA)).active = none ∧ holding.active = some threeCars
      ∧ postRange (ops holding 3 1 0 56 0) .portA threeCars = true
      ∧ postRange (ops holding 3 1 0 57 0) .portA threeCars = false
      ∧ (after (ops holding 3 1 0 56 0) (.post .portA)).bufferState 0 = .outbound .portA
      ∧ (after holding (.returnBuffer .portA)).bufferState 0 = .free := by decide +kernel

/-- A MEMBER node with a received message in buffer 4, and operands for a Post to position 3. -/
def received : State :=
  let s := withBuffer (ops member 3 1 9 5 0) 4 (.inbound .portA) none (header 2 2)
  { s with msg := { s.msg with queuesA := { PortQueues.reset with inbound := [4] } } }

theorem test_a_fetched_buffer_is_posted_again :
    received.portA.transaction = none ∧ ((writingAt received 0x0E).port .portA).takesWrite 0x0E = true
      ∧ (after received (.fetch .portA)).bufferState 4 = .held .portA
      ∧ (after (after received (.fetch .portA)) (.post .portA)).bufferState 4 = .outbound .portA
      ∧ ((after (after received (.fetch .portA)) (.post .portA)).buffer 4).bytes.take 4 = [3, 1, 9, 5]
      ∧ (after (after (writingAt received 0x0E) (.fetch .portA)) (.post .portA)).bufferState 4 = .held .portA
      ∧ (after (after (after (writingAt received 0x0E) (.fetch .portA)) (.transactionEnd .portA)) (.post .portA)).bufferState 4
        = .outbound .portA := by decide +kernel

theorem test_quotas_at_their_bounds :
    (after (ops lone 88 8 0 0 0) (.setQuotas .portA)).msg.queuesA.quota = 88
      ∧ (after (ops lone 7 8 0 0 0) (.setQuotas .portA)).portA.reason = some .range
      ∧ (ops holding 8 8 0 0 0).portCount .portA = 1 := by decide +kernel

theorem test_a_quota_below_the_count :
    ({ lone with msg := { lone.msg with buffers := List.replicate 9 { Buffer.reset with state := .held .portA } } }).portCount
      .portA = 9 := by decide +kernel

/-- A node with a NOTE waiting for an origin. -/
def noting : State :=
  { member with msg := { member.msg with noteQueue := [noteFrame threeCars.identity 1 2 5 1] } }

theorem test_the_server_has_work_of_each_sort :
    noting.power.state = .active ∧ noting.msg.offer = none ∧ num8 (noteFrame threeCars.identity 1 2 5 1).payload 6 = 1
      ∧ (posted 3 threeCars.identity).stale 0 = false ∧ (posted 3 consist.identity).stale 0 = true
      ∧ ((posted 3 consist.identity).buffer 0).state.owner = some .portA
      ∧ num8 ((posted 3 threeCars.identity).buffer 0).bytes 0 = 3 ∧ (posted 3 threeCars.identity).msg.inFlight = []
      ∧ (after (posted 3 threeCars.identity) .transmitServerStep).bufferState 0 = .inFlight .portA
      ∧ (after (posted 3 consist.identity) .transmitServerStep).bufferState 0 = .inbound .portA := by decide +kernel

/-- The same buffer posted at Port B, whose turn the pointer does not name. -/
def postedAtB : State :=
  { posted 3 threeCars.identity with
    msg := { (posted 3 threeCars.identity).msg with
      queuesA := .reset, queuesB := { PortQueues.reset with outbound := [0] } } }

theorem test_the_server_serves_the_other_queue :
    postedAtB.msg.pointer = .portA ∧ (after postedAtB .transmitServerStep).bufferState 0 = .inFlight .portB
      ∧ (after postedAtB .transmitServerStep).msg.pointer = .portA ∧ after member .transmitServerStep = member := by
  decide +kernel

theorem test_a_broadcast_is_offered_or_sent :
    (posted 255 threeCars.identity).usable .end1 = true
      ∧ (after (posted 255 threeCars.identity) .transmitServerStep).msg.offer.map (fun o => (o.kind, o.at1, o.at2))
        = some (.broadcast 0, true, true)
      ∧ (after (link1 (link2 (posted 255 threeCars.identity) .down) .down) .transmitServerStep).bufferState 0
        = .inbound .portA := by decide +kernel

/-- A MSG of the consist for a position and a role. -/
def msgTo (dest role : Byte) : Frame :=
  { kind := .msg, payload := threeCars.identity.bytes ++ [dest, role, 0, 0, 1, 1, 5] }

/-- The MEMBER node with its Note Queue full. -/
def fullNotes : State :=
  { member with msg := { member.msg with noteQueue := List.replicate 8 (noteFrame threeCars.identity 1 2 5 1) } }

theorem test_messages_of_each_sort :
    (member.handOn .end1 (msgTo 2 1)).bufferState 0 = .receiving .portA ∧ member.room 1 = some (.portA, 0)
      ∧ member.room 9 = none ∧ fullNotes.notePlaces = 8 ∧ member.notePlaces = 0
      ∧ (member.handOn .end1 (msgTo 255 1)).end2.throughQueue = [msgTo 255 1]
      ∧ (member.handOn .end1 (msgTo 3 1)).end2.throughQueue = [msgTo 3 1]
      ∧ identityAt (msgTo 2 1).payload 0 = threeCars.identity := by decide +kernel

/-- A MEMBER node with a message to position 3 In Flight, and a NOTE of the consist for an origin. -/
def flying : State := after (posted 3 threeCars.identity) .transmitServerStep
def noteTo (origin sequence : Nat) (outcome : Byte) : Frame := noteFrame threeCars.identity origin 3 sequence outcome

theorem test_notes_of_each_sort :
    flying.msg.inFlight.map (fun x => (x.sequence, x.destination)) = [(1, 3)]
      ∧ (flying.handOn .end2 (noteTo 2 1 1)).bufferState 0 = .inbound .portA
      ∧ byteAt ((flying.handOn .end2 (noteTo 2 1 2)).buffer 0).bytes 7 = 2
      ∧ flying.handOn .end2 (noteTo 2 9 1) = flying ∧ flying.handOn .end2 (noteTo 2 1 3) = flying
      ∧ flying.handOn .end2 (noteTo 1 1 1) = flying.passThrough .end1 (noteTo 1 1 1)
      ∧ middle.handOn .end2 (noteTo 2 1 1) = middle.passThrough .end1 (noteTo 2 1 1) := by decide +kernel

theorem test_messages_of_another_consist_pass :
    identityAt (msgTo 255 1).payload 0 ≠ consist.identity ∧ consist.position = 1
      ∧ head.handOn .end2 (msgTo 255 1) = head.passThrough .end1 (msgTo 255 1)
      ∧ head.handOn .end2 (msgTo 1 1) = head ∧ (member.handOn .end1 (msgTo 255 9)).end2.throughQueue = [msgTo 255 9]
      ∧ middle.handOn .end1 (msgTo 2 1) = middle.passThrough .end2 (msgTo 2 1) := by decide +kernel

/-- The node while a message is being stored, and while one is in flight with its deadline running. -/
theorem test_a_storing_and_a_deadline_end :
    (member.handOn .end1 (msgTo 2 1)).msg.storings.map (·.buffer) = [0]
      ∧ (after (member.handOn .end1 (msgTo 2 1)) (.storingEnd 0)).bufferState 0 = .inbound .portA
      ∧ ((after (after (posted 3 threeCars.identity) .transmitServerStep) (.arbiterTake .end2)).msg.inFlight.map
          fun x => (x.sequence, x.buffer, x.deadline)) = [(1, 0, some 251000)]
      ∧ (after (after (after (posted 3 threeCars.identity) .transmitServerStep) (.arbiterTake .end2))
          (.deadlineExpiry 1)).bufferState 0 = .inbound .portA := by decide +kernel

/-- A storing of two ends while the node sleeps (log 36). -/
theorem test_a_storing_ends_in_stabled :
    let s := { (member.handOn .end1 (msgTo 2 1)).handOn .end1 (msgTo 2 1) with power := stabled.power }
    s.msg.storings.map (·.buffer) = [0, 1] ∧ s.asleep = true ∧ (after s (.storingEnd 1)).bufferState 1 = .inbound .portA
      ∧ (after s (.storingEnd 1)).msg.storings.map (·.buffer) = [0] := by decide +kernel

/-! ## The register window -/

/-- The bytes of an area are those of its items. -/
def showsItems (s : State) (p : PortId) (code : Nat) : Bool := decide (s.areaBytes p code = (s.areaItems p code).bytes)

theorem test_areas_show_their_items :
    (List.range 14).all (showsItems head .portA) = true ∧ (List.range 14).all (showsItems granted .portB) = true
      ∧ (List.range 14).all (showsItems releasedMember .portA) = true
      ∧ [2, 3].all (showsItems claimant .portA) = true ∧ [2, 3].all (showsItems (claimantAt upEnd upEnd) .portB) = true
      ∧ [6, 7].all (showsItems (issued 2) .portA) = true ∧ [4, 6, 7].all (showsItems (ordering 2) .portB) = true
      ∧ [1, 9, 12].all (showsItems (meeting 1 waits (rising 9000)) .portA) = true
      ∧ showsItems latched .portA 9 = true ∧ showsItems loading .portA 12 = true := by decide +kernel

/-- Bytes of an area written out from the tables of 12.3 and 12.4. -/
theorem test_areas_as_the_tables_have_them :
    head.areaBytes .portA 2 = [2, 0, 1, 0, 0, 1]
      ∧ (after (claimantAt upEnd upEnd) .inaugurationTimerExpiry).areaBytes .portA 2 = [3, 3, 2, 0, 0, 0]
      ∧ (head.areaBytes .portA 3).take 12 = [0x09, 0, 0, 0, 7, 0, 1, 2, 1, 0x05, 0x0B, 0xB8]
      ∧ (head.areaBytes .portA 3).drop 21 = [1, 0, 0, 0, 7, 0x55, 10, 20, 0, 0]
      ∧ (releasedMember.areaBytes .portA 6).take 3 = [0x04, 0x02, 0x04]
      ∧ (granted.areaBytes .portA 8).take 14 = [0, 60, 1, 2, 0, 60, 0, 0, 0, 0xFF, 30, 0, 0, 0x12] := by decide +kernel

theorem test_the_window_awake_and_asleep :
    lone.asleep = false ∧ stabled.asleep = true
      ∧ (lone.fixedItems .portA).all (fun x => decide (lone.windowByte .portA x.1 = byteOf x.2)) = true
      ∧ (head.fixedItems .portB).all (fun x => decide (head.windowByte .portB x.1 = byteOf x.2)) = true
      ∧ (lone.fixedItems .portA).all (fun x => decide (x.1 < 0x40 ∧ x.1 ≠ 0x0E ∧ x.1 ≠ 0x02)) = true
      ∧ lone.windowByte .portA 0x02 = 0xFF ∧ stabled.windowByte .portA 0x38 = 2 ∧ stabled.windowByte .portA 0x10 = 0xFF
      ∧ lone.msg.buffers.length = 96 ∧ (∀ b ∈ lone.msg.buffers, b.bytes.length = 64) := by decide +kernel

end Sys2Proof.Tests
end

/-! SUPPORT. What the engines do to the Ends and to the event flags: one lemma per operation, each of which keeps an End
as its rules keep it and clears no flag. -/

namespace Sys2Proof.Machine

/-! ## Slots and traffic of an End -/

theorem slots_get_set_same (t : Slots) (x : Source) (v : SourceSlot) : (t.set x v).get x = v := by
  cases x <;> rfl

theorem slots_get_set_ne (t : Slots) (x y : Source) (v : SourceSlot) (h : y ≠ x) : (t.set x v).get y = t.get y := by
  cases x <;> cases y <;> first | rfl | exact absurd rfl h

theorem slotsOk_iff (t : Slots) : SlotsOk t ↔ ∀ x, SlotOk (t.get x) := by
  constructor
  · rintro ⟨hi, hc, hd, hw, hk⟩ x
    cases x <;> assumption
  · intro h
    exact ⟨h .inauguration, h .cycle, h .door, h .wake, h .keepalive⟩

theorem slotsOk_set (t : Slots) (x : Source) (v : SourceSlot) (ht : SlotsOk t) (hv : SlotOk v) : SlotsOk (t.set x v) := by
  rw [slotsOk_iff] at ht ⊢
  intro y
  by_cases h : y = x
  · subst h; rwa [slots_get_set_same]
  · rw [slots_get_set_ne _ _ _ _ h]; exact ht y

theorem slotsOk_empty : SlotsOk .empty := by
  rw [slotsOk_iff]; intro x; cases x <;> exact fun _ => rfl

theorem slotOk_place (q : SourceSlot) (f : Frame) : SlotOk (q.place f) := by
  unfold SourceSlot.place
  split
  · intro h; cases h
  · next g h => intro h'; rw [h] at h'; cases h'

theorem slotOk_advance (q : SourceSlot) : SlotOk q.advance := fun _ => rfl

theorem slotOk_withdraw (q : SourceSlot) (p : Frame → Bool) : SlotOk (q.withdraw p) := by
  unfold SourceSlot.withdraw
  simp only
  split
  · intro h; cases h
  · exact fun _ => rfl

/-- What passes through an End may change within the bounds of its traffic (R14, R15). -/
theorem EndOk.traffic {l : LineEnd} (h : EndOk l) (slots : Slots) (queue : List Frame) (drops : Nat) (hd : drops ≤ 255)
    (hq : queue.length ≤ 6) (hs : SlotsOk slots) (ho : l.link = .opened → slots = .empty ∧ queue = []) :
    EndOk { l with slots := slots, throughQueue := queue, throughDrop := drops } := by
  obtain ⟨stray, -, accepted, tx, -, pairA, pairB, -, quiet, follows⟩ := h
  refine ⟨stray, hd, accepted, tx, hq, pairA, pairB, hs, fun o => ?_, follows⟩
  obtain ⟨-, -, rest⟩ := quiet o
  exact ⟨(ho o).1, (ho o).2, rest⟩

theorem EndOk.queueBound {l : LineEnd} (h : EndOk l) : l.throughQueue.length ≤ 6 := by
  obtain ⟨-, -, -, -, queue, -⟩ := h
  exact queue

theorem EndOk.quiet {l : LineEnd} (h : EndOk l) : OpenIsQuiet l := by
  obtain ⟨-, -, -, -, -, -, -, -, quiet, -⟩ := h
  exact quiet

theorem EndOk.joins {l : LineEnd} (h : EndOk l) (j : l.link = .joining) : l.bothHealthy = true ∧ l.twinWindow = none := by
  obtain ⟨-, -, -, -, -, -, -, -, -, -, -, joining⟩ := h
  exact joining j

theorem EndOk.modSlot {l : LineEnd} (h : EndOk l) (x : Source) (g : SourceSlot → SourceSlot)
    (hs : SlotOk (g (l.slots.get x))) (ho : l.link = .opened → g .empty = .empty) : EndOk (l.modSlot x g) := by
  have ⟨_, drops, _, _, queue, _, _, slots, quiet, _⟩ := h
  refine h.traffic _ _ _ drops queue (slotsOk_set _ _ _ slots hs) fun o => ⟨?_, (quiet o).2.1⟩
  rw [(quiet o).1]
  cases x <;> simp [Slots.set, Slots.get, Slots.empty, ho o]

theorem EndOk.countDrops {l : LineEnd} (h : EndOk l) (n : Nat) : EndOk (l.countDrops n) := by
  have ⟨_, _, _, _, queue, _, _, slots, quiet, _⟩ := h
  exact h.traffic _ _ _ (Nat.min_le_left _ _) queue slots fun o => ⟨(quiet o).1, (quiet o).2.1⟩

theorem EndOk.setQueue {l : LineEnd} (h : EndOk l) (q : List Frame) (hq : q.length ≤ 6)
    (ho : l.link = .opened → q = []) : EndOk { l with throughQueue := q } := by
  have ⟨_, drops, _, _, _, _, _, slots, quiet, _⟩ := h
  exact h.traffic _ _ _ drops hq slots fun o => ⟨(quiet o).1, ho o⟩

theorem mergeYoungest_length (v : Byte) (q q' : List Frame) (h : mergeYoungest v q = some q') : q'.length = q.length := by
  induction q generalizing q' with
  | nil => cases h
  | cons f rest ih =>
    simp only [mergeYoungest] at h
    split at h
    · next r hr => cases h; simp [ih r hr]
    · split at h
      · cases h; rfl
      · cases h

/-! ## What the engines do to the Ends and the event flags -/

/-- The flags of one copy that are set stay set in another. -/
def FlagsKept (x y : GroupBytes) : Prop := ∀ g, y.get g = x.get g ||| y.get g

/-- From `r` on the engines have kept each End as its rules keep it, and have cleared no event flag. -/
structure Gentle (r s : State) : Prop where
  ends : ∀ e, EndOk (r.lineEnd e) → EndOk (s.lineEnd e)
  flags : ∀ p, FlagsKept (r.port p).flags (s.port p).flags

variable {r s : State}

theorem Gentle.refl (s : State) : Gentle s s := ⟨fun _ h => h, fun _ _ => by simp⟩

theorem Gentle.same {t : State} (h : Gentle r s) (he : ∀ e, t.lineEnd e = s.lineEnd e) (hp : ∀ p, t.port p = s.port p) :
    Gentle r t := ⟨fun e => by rw [he]; exact h.ends e, fun p => by rw [hp]; exact h.flags p⟩

theorem Gentle.modInaug {g : Inauguration → Inauguration} (h : Gentle r s) : Gentle r (s.modInaug g) :=
  h.same (by simp) (by simp)
theorem Gentle.modCycle {g : Cycle → Cycle} (h : Gentle r s) : Gentle r (s.modCycle g) := h.same (by simp) (by simp)
theorem Gentle.modDoor {g : Door → Door} (h : Gentle r s) : Gentle r (s.modDoor g) := h.same (by simp) (by simp)
theorem Gentle.modTrack {g : Tracking → Tracking} (h : Gentle r s) : Gentle r (s.modTrack g) := h.same (by simp) (by simp)
theorem Gentle.modGrants {g : GrantEngine → GrantEngine} (h : Gentle r s) : Gentle r (s.modGrants g) :=
  h.same (by simp) (by simp)
theorem Gentle.modStage {g : StageDrive → StageDrive} (h : Gentle r s) : Gentle r (s.modStage g) :=
  h.same (by simp) (by simp)
theorem Gentle.modMsg {g : MessageUnit → MessageUnit} (h : Gentle r s) : Gentle r (s.modMsg g) := h.same (by simp) (by simp)
theorem Gentle.modPower {g : Power → Power} (h : Gentle r s) : Gentle r (s.modPower g) := h.same (by simp) (by simp)
theorem Gentle.tickMoment (h : Gentle r s) : Gentle r s.tickMoment := h.same (by simp) (by simp)

theorem Gentle.modEnd {e : EndId} {g : LineEnd → LineEnd} (h : Gentle r s)
    (hg : EndOk (s.lineEnd e) → EndOk (g (s.lineEnd e))) : Gentle r (s.modEnd e g) := by
  refine ⟨fun d hd => ?_, fun p => by simpa using h.flags p⟩
  rw [lineEnd_modEnd]
  split
  · next he => subst he; exact hg (h.ends d hd)
  · exact h.ends d hd

@[simp] theorem groupBytes_get_set (b : GroupBytes) (g k : Group) (v : Byte) :
    (b.set g v).get k = if k = g then v else b.get k := by cases g <;> cases k <;> rfl

@[simp] theorem lineEnd_raiseAt (s : State) (p : PortId) (c : Cause) (e : EndId) : (s.raiseAt p c).lineEnd e = s.lineEnd e := by
  simp [State.raiseAt]
@[simp] theorem lineEnd_raise (s : State) (c : Cause) (e : EndId) : (s.raise c).lineEnd e = s.lineEnd e := by
  simp [State.raise]

theorem flagsKept_raise (x : GroupBytes) (q : Port) (c : Cause) (h : FlagsKept x q.flags) : FlagsKept x (q.raise c).flags := by
  intro k
  simp only [Port.raise, groupBytes_get_set]
  split
  · next same => rw [same, ← BitVec.or_assoc, ← h]
  · exact h k

theorem Gentle.raiseAt {p : PortId} {c : Cause} (h : Gentle r s) : Gentle r (s.raiseAt p c) := by
  refine ⟨fun e => by simpa using h.ends e, fun q => ?_⟩
  rw [State.raiseAt, port_modPort]
  split
  · exact flagsKept_raise _ _ _ (h.flags q)
  · exact h.flags q

theorem Gentle.raise {c : Cause} (h : Gentle r s) : Gentle r (s.raise c) := h.raiseAt.raiseAt

theorem Gentle.foldl {α : Type} {f : State → α → State} {l : List α} (h : Gentle r s)
    (hf : ∀ s x, Gentle r s → Gentle r (f s x)) : Gentle r (l.foldl f s) := by
  induction l generalizing s with
  | nil => exact h
  | cons x l ih => exact ih (hf s x h)

theorem Gentle.place {e : EndId} {x : Source} {f : Frame} (h : Gentle r s) : Gentle r (s.place e x f) := by
  unfold State.place
  split
  · exact h
  · next o =>
    refine h.modEnd fun hl => hl.modSlot _ _ (slotOk_place _ _) fun ho => ?_
    simp [State.isOpen, ho] at o

theorem Gentle.passThrough {e : EndId} {f : Frame} (h : Gentle r s) : Gentle r (s.passThrough e f) := by
  unfold State.passThrough
  split
  · next u =>
    split
    · next room =>
      refine h.modEnd fun hl => hl.setQueue _ ?_ fun ho => ?_
      · simpa [Config.throughSize] using room
      · simp [State.usable, ho, LinkState.usable] at u
    · exact (h.modEnd fun hl => hl.countDrops 1).raise
  · split
    · exact h
    · exact h.modEnd fun hl => hl.countDrops 1

theorem Gentle.produceWake {e : EndId} {v : Byte} (h : Gentle r s) : Gentle r (s.produceWake e v) := by
  unfold State.produceWake
  split
  · next q hq =>
    have len := mergeYoungest_length _ _ _ hq
    refine h.modEnd fun hl => hl.setQueue _ (by rw [len]; exact hl.queueBound) fun ho => ?_
    obtain ⟨-, empty, -⟩ := hl.quiet ho
    exact List.length_eq_zero_iff.1 (by rw [len, empty]; rfl)
  · exact h.place

theorem Gentle.statusWake {e : EndId} (h : Gentle r s) : Gentle r (s.statusWake e) := by
  unfold State.statusWake
  split
  · next f _ hf =>
    refine h.modEnd fun hl => hl.modSlot _ _ (fun n => by cases n) fun ho => ?_
    have empty := (hl.quiet ho).1
    rw [empty] at hf; cases hf
  · exact h.produceWake

theorem Gentle.topologyAlert {e : EndId} (h : Gentle r s) : Gentle r (s.topologyAlert e) := by
  unfold State.topologyAlert
  split
  · exact h.produceWake
  · exact h

theorem Gentle.passWake {e : EndId} {f : Frame} (h : Gentle r s) : Gentle r (s.passWake e f) :=
  (h.modEnd fun hl => hl.modSlot .wake (fun _ => .empty) (fun _ => rfl) fun _ => rfl).passThrough

theorem Gentle.withdrawOwn {i : Identity} {e : EndId} (h : Gentle r s) : Gentle r (s.withdrawOwn i e) :=
  h.modEnd fun hl => hl.modSlot _ _ (slotOk_withdraw _ _) fun _ => rfl

/-! ### Record sources and the Stage Drive -/

theorem Gentle.sourceChanged (h : Gentle r s) : Gentle r s.sourceChanged := by
  unfold State.sourceChanged
  split
  · split
    · split
      · exact h.modCycle
      · exact h.modCycle.statusWake
    · exact h
  · exact h

theorem Gentle.appended {x : CycleRecord} (h : Gentle r s) : Gentle r (s.appended x) := h.modCycle

/-- An operation of the Stage Drive on its stages alone. -/
theorem Gentle.stagesOnly {t : State} (h : Gentle r s) (f : t.forget [.stages] = s.forget [.stages]) : Gentle r t := by
  have c := (onlyChanges_iff_forget [.stages] s t).2 f
  exact h.same (fun e => c.2 (.endOf e) (by simp)) (fun p => c.2 (.portOf p) (by simp))

theorem Gentle.endRise (h : Gentle r s) : Gentle r s.endRise := h.modStage
theorem Gentle.applyTarget {t : Nat} {risen : Bool} (h : Gentle r s) : Gentle r (s.applyTarget t risen) :=
  h.stagesOnly (by simp)
theorem Gentle.recomputeTarget {risen : Bool} (h : Gentle r s) : Gentle r (s.recomputeTarget risen) :=
  h.applyTarget.sourceChanged
theorem Gentle.setCeiling {c : Nat} {b : Bool} (h : Gentle r s) : Gentle r (s.setCeiling c b) := h.modStage.recomputeTarget
theorem Gentle.fallBack (h : Gentle r s) : Gentle r s.fallBack := h.setCeiling
theorem Gentle.identityToStages (h : Gentle r s) : Gentle r s.identityToStages := by
  unfold State.identityToStages
  split
  · exact h.fallBack
  · exact h.recomputeTarget
theorem Gentle.ceilingFromGrant {g : Nat} (h : Gentle r s) : Gentle r (s.ceilingFromGrant g) := by
  unfold State.ceilingFromGrant
  split
  · exact h
  · exact h.setCeiling
theorem Gentle.stageNodeReset (h : Gentle r s) : Gentle r s.stageNodeReset := by
  unfold State.stageNodeReset
  exact (h.stagesOnly (t := (State.switchOffFrom (s.modStage _) 0).endRise) (by simp)).fallBack
theorem Gentle.stageStable (h : Gentle r s) : Gentle r s.stageStable := h.modStage.modStage
theorem Gentle.stageExpired {i : Nat} (h : Gentle r s) : Gentle r (s.stageExpired i) := by
  unfold State.stageExpired
  have rises : Gentle r ((s.switchOn i).nextStage false 5).sourceChanged :=
    (h.stagesOnly (t := (s.switchOn i).nextStage false 5) (by simp)).sourceChanged
  split
  · exact rises
  · split
    · split
      · split
        · exact rises
        · exact h.modStage
      · exact h.modStage
    · exact h.modStage
  · exact h
  · exact h
theorem Gentle.setDemand {v : Nat} (h : Gentle r s) : Gentle r (s.setDemand v) := by
  unfold State.setDemand
  split
  · exact h
  · exact h.modStage.sourceChanged.recomputeTarget

/-! ### Door Unit -/

theorem Gentle.setSide {i : SideId} {st : SideState} (h : Gentle r s) : Gentle r (s.setSide i st) := by
  unfold State.setSide
  split
  · exact h
  · exact h.modDoor.raise.sourceChanged
theorem Gentle.fromReleased {i : SideId} {st : SideState} (h : Gentle r s) : Gentle r (s.fromReleased st i) := by
  unfold State.fromReleased
  split
  · exact h.setSide
  · exact h
theorem Gentle.closeSide {i : SideId} (h : Gentle r s) : Gentle r (s.closeSide i) := by
  unfold State.closeSide
  split
  · exact h.setSide
  · split
    · exact h
    · exact h.setSide
  · exact h
theorem Gentle.withdrawSide {i : SideId} (h : Gentle r s) : Gentle r (s.withdrawSide i) := h.fromReleased
theorem Gentle.headFlags {b : Bool} (h : Gentle r s) : Gentle r (s.headFlags b) := by
  unfold State.headFlags
  split
  · exact h
  · exact h.fromReleased.fromReleased
theorem Gentle.doorReport (h : Gentle r s) : Gentle r s.doorReport :=
  h.withdrawSide.withdrawSide.modDoor.sourceChanged
theorem Gentle.setProof {v : Bool} (h : Gentle r s) : Gentle r (s.setProof v) := by
  unfold State.setProof
  split
  · exact h
  · exact h.modTrack.raise
theorem Gentle.unprove (h : Gentle r s) : Gentle r s.unprove := h.modTrack.setProof
theorem Gentle.evaluateProof {n : Nat} {x : List CycleRecord} (h : Gentle r s) : Gentle r (s.evaluateProof n x) := by
  unfold State.evaluateProof
  split
  · exact h.modTrack.setProof
  · exact h.unprove
theorem Gentle.applyAction {o : DoorOrder} {i : SideId} (h : Gentle r s) : Gentle r (s.applyAction o i) := by
  unfold State.applyAction
  split
  · split
    · exact h.setSide
    · exact h
  · exact h.closeSide
  · exact h.withdrawSide
theorem Gentle.takeOrder {a : ActiveConsist} {o : DoorOrder} (h : Gentle r s) : Gentle r (s.takeOrder a o) := by
  unfold State.takeOrder
  simp only
  split
  · exact h.modDoor.raise.sourceChanged.foldl fun _ _ h => h.applyAction
  · exact h.modDoor.raise.sourceChanged
theorem Gentle.judgeOrder {a : ActiveConsist} {f : Frame} (h : Gentle r s) : Gentle r (s.judgeOrder a f) := by
  unfold State.judgeOrder
  simp only
  split
  · exact h.place
  · split
    · exact h.place
    · exact h.place.takeOrder
theorem Gentle.requestCall (h : Gentle r s) : Gentle r s.requestCall := by
  unfold State.requestCall
  split
  · exact h.modCycle
  · exact h
theorem Gentle.orderLeaves {a : ActiveConsist} {f : Frame} (h : Gentle r s) : Gentle r (s.orderLeaves a f) := by
  unfold State.orderLeaves
  simp only
  split
  · exact h.tickMoment.modTrack.modDoor.unprove
  · exact h.tickMoment.modTrack
theorem Gentle.placeOrder {a : ActiveConsist} {f : Frame} (h : Gentle r s) : Gentle r (s.placeOrder a f) := by
  unfold State.placeOrder
  split
  · exact h.orderLeaves
  · exact h.place
theorem Gentle.checkComplete (h : Gentle r s) : Gentle r s.checkComplete := by
  unfold State.checkComplete
  split
  · split
    · exact h.modTrack.raise
    · exact h
  · exact h
theorem Gentle.issue {a : ActiveConsist} {x : DoorAction} {y : TrainSide} {m n : Nat} (h : Gentle r s) :
    Gentle r (s.issue a x y m n) := by
  unfold State.issue
  simp only
  split
  · exact h.modDoor.modTrack.checkComplete.takeOrder.placeOrder.unprove.requestCall
  · exact h.modDoor.modTrack.checkComplete.takeOrder.placeOrder.requestCall
theorem Gentle.emptyOrder (h : Gentle r s) : Gentle r s.emptyOrder := h.modTrack
theorem Gentle.repeatOrLose {a : ActiveConsist} {x : OutstandingOrder} (h : Gentle r s) : Gentle r (s.repeatOrLose a x) := by
  unfold State.repeatOrLose
  split
  · exact h
  · split
    · exact h.modTrack
    · exact h.modTrack.placeOrder
theorem Gentle.readEchoes {a : ActiveConsist} {x : List CycleRecord} (h : Gentle r s) : Gentle r (s.readEchoes a x) := by
  unfold State.readEchoes
  split
  · split
    · exact h.modTrack.repeatOrLose.checkComplete
    · exact h
  · exact h
theorem Gentle.doorReturn {a : ActiveConsist} {x : List CycleRecord} (h : Gentle r s) : Gentle r (s.doorReturn a x) :=
  h.modDoor.readEchoes.evaluateProof
theorem Gentle.doorLeavesHeading (h : Gentle r s) : Gentle r s.doorLeavesHeading := h.modDoor.unprove
theorem Gentle.doorNewConsist (h : Gentle r s) : Gentle r s.doorNewConsist := h.modDoor.unprove.modTrack
theorem Gentle.doorCommit (h : Gentle r s) : Gentle r s.doorCommit := h.emptyOrder.doorNewConsist
theorem Gentle.automaticClose {a : ActiveConsist} (h : Gentle r s) : Gentle r (s.automaticClose a) := by
  unfold State.automaticClose
  split
  · exact h.issue
  · exact h
theorem Gentle.setStandstill {v : Bool} (h : Gentle r s) : Gentle r (s.setStandstill v) := by
  unfold State.setStandstill
  simp only
  split
  · split
    · exact h.modDoor.automaticClose.requestCall
    · exact h.modDoor.requestCall
  · exact h.modDoor.requestCall
theorem Gentle.statusSide {i : SideId} (h : Gentle r s) : Gentle r (s.statusSide i) := by
  unfold State.statusSide
  simp only
  split
  · split
    · exact h.setSide.withdrawSide
    · exact h.setSide
  · split
    · exact h.withdrawSide
    · exact h
theorem Gentle.writeDoorStatus {t : DoorStatus} (h : Gentle r s) : Gentle r (s.writeDoorStatus t) :=
  h.modDoor.sourceChanged.statusSide.statusSide
theorem Gentle.localClose {l : List SideId} (h : Gentle r s) : Gentle r (s.localClose l) :=
  Gentle.foldl (f := State.closeSide) h fun _ _ h => h.closeSide
theorem Gentle.issueFromOperands {p : PortId} (h : Gentle r s) : Gentle r (s.issueFromOperands p) := by
  unfold State.issueFromOperands
  split
  · exact h.issue
  · exact h

/-! ### Grant Engine -/

theorem Gentle.grantCommit {a : ActiveConsist} (h : Gentle r s) : Gentle r (s.grantCommit a) := h.modGrants
theorem Gentle.grantLeavesHeading (h : Gentle r s) : Gentle r s.grantLeavesHeading := h.modGrants
theorem Gentle.shed {a : ActiveConsist} (h : Gentle r s) : Gentle r (s.shed a) := by
  unfold State.shed
  simp only
  split
  · exact h.modGrants
  · exact h.modGrants.raise
theorem Gentle.raiseGrants {a : ActiveConsist} (h : Gentle r s) : Gentle r (s.raiseGrants a) := by
  unfold State.raiseGrants
  exact h.modGrants
theorem Gentle.grantReturn {a : ActiveConsist} {x : List CycleRecord} (h : Gentle r s) : Gentle r (s.grantReturn a x) := by
  unfold State.grantReturn
  simp only
  split
  · exact h.modGrants.shed.raiseGrants
  · exact h.modGrants.raiseGrants
theorem Gentle.takeGrant {g : Nat} (h : Gentle r s) : Gentle r (s.takeGrant g) := by
  unfold State.takeGrant
  split
  · exact h
  · split
    · exact h
    · exact h.modGrants.raise
theorem Gentle.useSettle {l : LastSettle} (h : Gentle r s) : Gentle r (s.useSettle l) :=
  h.modCycle.ceilingFromGrant.takeGrant
theorem Gentle.setBudget {v : Nat} (h : Gentle r s) : Gentle r (s.setBudget v) := by
  unfold State.setBudget
  simp only
  split
  · split
    · exact h.modGrants.shed.requestCall
    · exact h.modGrants.requestCall
  · exact h.modGrants.requestCall

/-! ### Message Unit -/

/-- An operation of the Message Unit on its own block alone. -/
theorem Gentle.messagesOnly {t : State} (h : Gentle r s) (f : t.forget [.messages] = s.forget [.messages]) : Gentle r t := by
  have c := (onlyChanges_iff_forget [.messages] s t).2 f
  exact h.same (fun e => c.2 (.endOf e) (by simp)) (fun p => c.2 (.portOf p) (by simp))

theorem Gentle.takenEvents {p : PortId} (h : Gentle r s) : Gentle r (s.takenEvents p) := by
  unfold State.takenEvents
  simp only
  split
  · split
    · exact h.raise.raiseAt
    · exact h.raise
  · split
    · exact h.raiseAt
    · exact h
theorem Gentle.allot {n : Nat} {p : PortId} {st : BufferState} {b : List Byte} (h : Gentle r s) :
    Gentle r (s.allot n p st b) := h.modMsg.takenEvents
theorem Gentle.setQuota {p : PortId} {v : Nat} (h : Gentle r s) : Gentle r (s.setQuota p v) := by
  unfold State.setQuota
  simp only
  split
  · exact Gentle.raiseAt h.modMsg
  · exact h.modMsg
theorem Gentle.setQuotas {a b : Nat} (h : Gentle r s) : Gentle r (s.setQuotas a b) := h.setQuota.setQuota
theorem Gentle.discardOffer {e : EndId} (h : Gentle r s) : Gentle r (s.discardOffer e) := h.messagesOnly (by simp)
theorem Gentle.takeOffer {e : EndId} (h : Gentle r s) : Gentle r (s.takeOffer e) := h.messagesOnly (by simp)
theorem Gentle.msgReport (h : Gentle r s) : Gentle r s.msgReport := h.messagesOnly (by simp)
theorem Gentle.receiveNote {a : ActiveConsist} {b : List Byte} (h : Gentle r s) : Gentle r (s.receiveNote a b) :=
  h.messagesOnly (by simp)
theorem Gentle.beginStoring {p : PortId} {n : Nat} {b : List Byte} {f : Option Frame} (h : Gentle r s) :
    Gentle r (s.beginStoring p n b f) := h.allot.modMsg
theorem Gentle.receiveMsg {a : ActiveConsist} {b : List Byte} (h : Gentle r s) : Gentle r (s.receiveMsg a b) := by
  unfold State.receiveMsg State.receiveBroadcast State.receiveUnicast
  split
  · split
    · split
      · exact h.beginStoring
      · exact h
    · split
      · exact h
      · split
        · exact h.beginStoring
        · exact h.modMsg
  · exact h

/-! ### Inauguration Engine -/

theorem Gentle.leaveHeading {i : Identity} (h : Gentle r s) : Gentle r (s.leaveHeading i) :=
  h.modCycle.withdrawOwn.withdrawOwn.doorLeavesHeading.grantLeavesHeading
theorem Gentle.roleChanged (h : Gentle r s) : Gentle r s.roleChanged := h.modCycle.modGrants
theorem Gentle.reportRecount (h : Gentle r s) : Gentle r s.reportRecount := h.doorReport.msgReport
theorem Gentle.leaveMember {a : ActiveConsist} {n : NodeRole} {c : LeaveCause} (h : Gentle r s) :
    Gentle r (s.leaveMember a n c) := by
  unfold State.leaveMember
  simp only
  split
  · exact h.modInaug.roleChanged.raise.reportRecount.leaveHeading
  · exact h.modInaug.roleChanged.raise.reportRecount
theorem Gentle.goUnassigned {c : LeaveCause} (h : Gentle r s) : Gentle r (s.goUnassigned c) := by
  unfold State.goUnassigned
  split
  · exact h
  · exact h.modInaug.roleChanged.raise.fallBack
  · exact h.leaveMember.modInaug.fallBack
theorem Gentle.recount {x : CountRecord} (h : Gentle r s) : Gentle r (s.recount x) := by
  unfold State.recount
  split
  · exact h.leaveMember
  · exact h.modInaug.roleChanged.reportRecount
  · exact h.modInaug.reportRecount
theorem Gentle.failClaim {x : ClaimFailure} (h : Gentle r s) : Gentle r (s.failClaim x) := h.modInaug.emptyOrder.raise
theorem Gentle.dropClaim (h : Gentle r s) : Gentle r s.dropClaim := h.modInaug.emptyOrder
theorem Gentle.placeDissolve {e : EndId} {g : Nat} (h : Gentle r s) : Gentle r (s.placeDissolve e g) := h.place
theorem Gentle.commit {x : CountRecord} {n : Nat} {l : List RosterEntry} {b : Bool} (h : Gentle r s) :
    Gentle r (s.commit x n l b) :=
  h.modInaug.roleChanged.grantCommit.doorCommit.place.raise.raise.modCycle
theorem Gentle.loneHead {x : CountRecord} {b : Bool} (h : Gentle r s) : Gentle r (s.loneHead x b) := h.commit
theorem Gentle.startHop {t : TallyStage} (h : Gentle r s) : Gentle r (s.startHop t) := by
  unfold State.startHop
  exact h.modInaug
theorem Gentle.attemptFrom {e : EndId} {n : Nat} (h : Gentle r s) : Gentle r (s.attemptFrom e n) := by
  unfold State.attemptFrom
  simp only
  split
  · exact h.recount.modInaug.loneHead
  · exact h.recount.modInaug.place.startHop.modInaug
theorem Gentle.beginAttempt {n : Nat} (h : Gentle r s) : Gentle r (s.beginAttempt n) := by
  unfold State.beginAttempt
  simp only
  split
  · exact h.modInaug.attemptFrom
  · exact h.modInaug.goUnassigned.failClaim
theorem Gentle.reinaugurate (h : Gentle r s) : Gentle r s.reinaugurate := by
  unfold State.reinaugurate
  split
  · exact h.beginAttempt
  · exact h
theorem Gentle.claimCab (h : Gentle r s) : Gentle r s.claimCab := by
  unfold State.claimCab
  split
  · exact h.attemptFrom
  · exact h.failClaim
theorem Gentle.releaseCab (h : Gentle r s) : Gentle r s.releaseCab := by
  unfold State.releaseCab
  split
  · split
    · exact h.placeDissolve.goUnassigned.dropClaim
    · exact h.dropClaim
  · split
    · exact h.placeDissolve.goUnassigned.dropClaim
    · exact h.dropClaim
  · exact h.dropClaim
theorem Gentle.setRecord {x : CountRecord} (h : Gentle r s) : Gentle r (s.setRecord x) := h.modInaug
theorem Gentle.tailTally {x : CountRecord} {f : TallyFlag} (h : Gentle r s) : Gentle r (s.tailTally x f) :=
  h.place.modInaug.setRecord
theorem Gentle.answerCount {x : CountRecord} (h : Gentle r s) : Gentle r (s.answerCount x) := by
  unfold State.answerCount
  split
  · exact h.place
  · split
    · exact h.tailTally
    · exact h.place.startHop
theorem Gentle.takeCount {e : EndId} {c : CountFrame} (h : Gentle r s) : Gentle r (s.takeCount e c) :=
  h.recount.modInaug.answerCount
theorem Gentle.contest {x : CountRecord} {e : EndId} {c : CountFrame} (h : Gentle r s) : Gentle r (s.contest x e c) :=
  h.place.place.goUnassigned
theorem Gentle.headContest {e : EndId} {c : CountFrame} (h : Gentle r s) : Gentle r (s.headContest e c) :=
  h.place.place.goUnassigned.failClaim
theorem Gentle.receiveCount {e : EndId} {p : List Byte} (h : Gentle r s) : Gentle r (s.receiveCount e p) := by
  unfold State.receiveCount
  simp only
  split
  · exact h
  · split
    · exact h.headContest
    · split
      · split
        · exact h.contest
        · exact h.takeCount
      · exact h.takeCount
theorem Gentle.tallyAtNode {x : CountRecord} {f : Frame} (h : Gentle r s) : Gentle r (s.tallyAtNode x f) := by
  unfold State.tallyAtNode
  split
  · exact h.place.modInaug.setRecord
  · exact h.place.goUnassigned
  all_goals
    split
    · exact h.place.setRecord
    · exact h
theorem Gentle.tallyAtHead {x : CountRecord} {f : Frame} (h : Gentle r s) : Gentle r (s.tallyAtHead x f) := by
  unfold State.tallyAtHead
  simp only
  split
  · exact h.goUnassigned.failClaim
  · exact h.placeDissolve.goUnassigned.failClaim
  all_goals
    split
    · exact h.commit
    · exact h
theorem Gentle.receiveTally {e : EndId} {f : Frame} (h : Gentle r s) : Gentle r (s.receiveTally e f) := by
  unfold State.receiveTally
  split
  · exact h
  · simp only
    split
    · exact h
    · split
      · split
        · exact h.tallyAtHead
        · exact h
      · split
        · exact h.tallyAtNode
        · exact h
theorem Gentle.acceptCommit {x : CountRecord} {f : Frame} (h : Gentle r s) : Gentle r (s.acceptCommit x f) :=
  h.modInaug.roleChanged.doorNewConsist.raise.place
theorem Gentle.leaveWithAlert {e : EndId} {c : LeaveCause} (h : Gentle r s) : Gentle r (s.leaveWithAlert e c) :=
  h.goUnassigned.topologyAlert
theorem Gentle.rejectCommit {e : EndId} {f : Frame} (h : Gentle r s) : Gentle r (s.rejectCommit e f) := by
  unfold State.rejectCommit
  simp only
  split
  · exact h.place
  · split
    · exact h.place
    · exact h.place.leaveWithAlert
    · exact h.place.leaveWithAlert
theorem Gentle.receiveCommit {e : EndId} {f : Frame} (h : Gentle r s) : Gentle r (s.receiveCommit e f) := by
  unfold State.receiveCommit State.receiveDissolve
  simp only
  split
  · split
    · exact h.goUnassigned.place
    · exact h.place
  · split
    · split
      · exact h.acceptCommit
      · exact h.rejectCommit
    · exact h.rejectCommit
theorem Gentle.displace {a : ActiveConsist} (h : Gentle r s) : Gentle r (s.displace a) := h.placeDissolve.goUnassigned.failClaim
theorem Gentle.reportHeading {a : ActiveConsist} {c : EndChange} (h : Gentle r s) : Gentle r (s.reportHeading a c) := by
  unfold State.reportHeading
  split
  · split
    · exact h.displace
    · exact h
  · split
    · exact h.reinaugurate
    · exact h
theorem Gentle.reportClaiming {x : CountRecord} {c : EndChange} (h : Gentle r s) : Gentle r (s.reportClaiming x c) := by
  unfold State.reportClaiming
  split
  · split
    · exact h.placeDissolve.goUnassigned.failClaim
    · exact h
  · split
    · split
      · exact h.modInaug.setRecord
      · split
        · exact h.loneHead
        · exact h
    · split
      · exact h.beginAttempt
      · exact h
theorem Gentle.tailChange {x : CountRecord} {c : EndChange} (h : Gentle r s) : Gentle r (s.tailChange x c) := by
  unfold State.tailChange
  split
  · split
    · exact h.modInaug.setRecord
    · split
      · exact h.tailTally
      · exact h
  · split
    · exact h.tailTally
    · exact h
  · exact h
theorem Gentle.reportCounted {x : CountRecord} {c : EndChange} (h : Gentle r s) : Gentle r (s.reportCounted x c) := by
  unfold State.reportCounted
  split
  · split
    · exact h.goUnassigned
    · exact h
  · simp only
    split
    · exact h.tailChange.topologyAlert
    · exact h.tailChange
theorem Gentle.reportMember {a : ActiveConsist} {c : EndChange} (h : Gentle r s) : Gentle r (s.reportMember a c) := by
  unfold State.reportMember
  split
  · split
    · exact h.goUnassigned
    · exact h
  · split
    · exact h.topologyAlert
    · exact h
theorem Gentle.reportInauguration {c : EndChange} (h : Gentle r s) : Gentle r (s.reportInauguration c) := by
  unfold State.reportInauguration
  split
  · exact h
  · split
    · exact h.reportClaiming
    · exact h.reportCounted
  · split
    · exact h.reportHeading
    · exact h.reportMember
theorem Gentle.reportEnd {e : EndId} {o : LinkState} (h : Gentle r s) : Gentle r (s.reportEnd e o) := by
  unfold State.reportEnd
  simp only
  split
  · exact h
  · exact h.discardOffer.reportInauguration

/-! ### Cycle Engine -/

theorem Gentle.restartSilence {a : ActiveConsist} (h : Gentle r s) : Gentle r (s.restartSilence a) := by
  unfold State.restartSilence
  split
  · exact h
  · exact h.modInaug
theorem Gentle.setLineSilence {a : ActiveConsist} {v : Nat} (h : Gentle r s) : Gentle r (s.setLineSilence a v) := h.modInaug
theorem Gentle.noteCall {x : CallRole} (h : Gentle r s) : Gentle r (s.noteCall x) := h.modCycle
theorem Gentle.placeCycle {e : EndId} {f : Frame} (h : Gentle r s) : Gentle r (s.placeCycle e f) := h.place
theorem Gentle.useCall {a : ActiveConsist} {x : CallHeader} (h : Gentle r s) : Gentle r (s.useCall a x) :=
  h.setLineSilence.restartSilence.headFlags
theorem Gentle.placedCall {a : ActiveConsist} {e : EndId} {p : List Byte} (h : Gentle r s) : Gentle r (s.placedCall a e p) := by
  unfold State.placedCall
  simp only
  split
  · exact h.useCall.placeCycle.noteCall
  · split
    · exact h.useCall.appended.placeCycle.noteCall
    · split
      · exact h.useCall.appended.placeCycle.noteCall
      · exact h.useCall.appended.placeCycle.noteCall
theorem Gentle.unplacedCall {e : EndId} {p : List Byte} (h : Gentle r s) : Gentle r (s.unplacedCall e p) := by
  unfold State.unplacedCall
  simp only
  split
  · exact h.placeCycle.noteCall
  · split
    · exact h.placeCycle.noteCall
    · exact h.placeCycle.noteCall
theorem Gentle.receiveCall {e : EndId} {p : List Byte} (h : Gentle r s) : Gentle r (s.receiveCall e p) := by
  unfold State.receiveCall
  split
  · split
    · exact h.placedCall
    · exact h.unplacedCall
  · exact h.unplacedCall
theorem Gentle.settle {a : ActiveConsist} {b : Bool} {x : List CycleRecord} (h : Gentle r s) : Gentle r (s.settle a b x) :=
  h.modCycle.placeCycle.useSettle
theorem Gentle.memberSettles {a : ActiveConsist} {f : Frame} (h : Gentle r s) : Gentle r (s.memberSettles a f) := by
  unfold State.memberSettles
  simp only
  split
  · exact h.restartSilence.useSettle.placeCycle
  · exact h.restartSilence.placeCycle
theorem Gentle.receiveSettle {e : EndId} {f : Frame} (h : Gentle r s) : Gentle r (s.receiveSettle e f) := by
  unfold State.receiveSettle
  split
  · split
    · exact h.memberSettles
    · exact h.placeCycle
  · exact h.placeCycle
theorem Gentle.countFailure {c : CycleFailure} (h : Gentle r s) : Gentle r (s.countFailure c) := h.modCycle.raise
theorem Gentle.returnFails {a : ActiveConsist} {c : CycleFailure} {x : List CycleRecord} (h : Gentle r s) :
    Gentle r (s.returnFails a c x) := by
  unfold State.returnFails
  simp only
  split
  · exact h.countFailure.reinaugurate
  · exact h.countFailure.unprove.settle
theorem Gentle.evaluateReturn {a : ActiveConsist} {b : Bool} {x : List CycleRecord} (h : Gentle r s) :
    Gentle r (s.evaluateReturn a b x) := by
  unfold State.evaluateReturn
  split
  · exact h.returnFails
  · exact h.modCycle.doorReturn.grantReturn.settle
theorem Gentle.receiveReturn {e : EndId} {p : List Byte} (h : Gentle r s) : Gentle r (s.receiveReturn e p) := by
  unfold State.receiveReturn
  split
  · split
    · exact h.modCycle.evaluateReturn
    · exact h
  · exact h
theorem Gentle.callLeaves {a : ActiveConsist} (h : Gentle r s) : Gentle r (s.callLeaves a) := by
  unfold State.callLeaves
  exact h.tickMoment.modCycle
theorem Gentle.callOriginate (h : Gentle r s) : Gentle r s.callOriginate := by
  unfold State.callOriginate State.originate
  simp only
  split
  · split
    · split
      · exact h.modCycle.headFlags.appended.callLeaves.evaluateReturn
      · exact h.modCycle.headFlags.appended.placeCycle.modCycle
    · exact h
  · exact h
theorem Gentle.headWake {f : Frame} (h : Gentle r s) : Gentle r (s.headWake f) := by
  unfold State.headWake
  simp only
  split
  · exact h.reinaugurate
  · split
    · exact h.requestCall
    · exact h
theorem Gentle.receiveOrder {e : EndId} {f : Frame} (h : Gentle r s) : Gentle r (s.receiveOrder e f) := by
  unfold State.receiveOrder
  split
  · split
    · exact h.restartSilence.judgeOrder
    · exact h.place
  · exact h.place
theorem Gentle.setLineTiming {t : LineTiming} (h : Gentle r s) : Gentle r (s.setLineTiming t) := by
  unfold State.setLineTiming
  simp only
  split
  · split
    · split
      · exact h.modCycle.setLineSilence.requestCall
      · exact h.modCycle.requestCall
    · exact h.modCycle.requestCall
  · split
    · split
      · exact h.modCycle.setLineSilence
      · exact h.modCycle
    · exact h.modCycle

/-! ### Frames -/

theorem Gentle.receiveMsgFrame {e : EndId} {f : Frame} (h : Gentle r s) : Gentle r (s.receiveMsgFrame e f) := by
  unfold State.receiveMsgFrame
  split
  · split
    · exact h.receiveMsg
    · split
      · exact h.receiveMsg.passThrough
      · exact h.passThrough
  · exact h.passThrough
theorem Gentle.receiveNoteFrame {e : EndId} {f : Frame} (h : Gentle r s) : Gentle r (s.receiveNoteFrame e f) := by
  unfold State.receiveNoteFrame
  split
  · split
    · exact h.receiveNote
    · exact h.passThrough
  · exact h.passThrough
/-- Whatever a frame makes the node do, the Ends stay as their rules keep them. -/
theorem Gentle.handOn {e : EndId} {f : Frame} (h : Gentle r s) : Gentle r (s.handOn e f) := by
  unfold State.handOn
  split
  · exact h
  · exact h.receiveCount
  · exact h.receiveTally
  · exact h.receiveCommit
  · exact h.receiveCall
  · split
    · exact h.receiveReturn
    · exact h.passThrough
  · exact h.receiveSettle
  · exact h.receiveOrder
  · split
    · exact h.headWake
    · exact h.passWake
  · exact h.receiveMsgFrame
  · exact h.receiveNoteFrame
theorem Gentle.ownLeaves {e : EndId} {x : Source} {f : Frame} (h : Gentle r s) : Gentle r (s.ownLeaves e x f) := by
  unfold State.ownLeaves
  split
  · split
    · split
      · exact h.callLeaves
      · split
        · exact h.orderLeaves
        · exact h
    · exact h
  · exact h

end Sys2Proof.Machine

/-! SUPPORT. What each operation of an End makes of it: its pairs, its link state, its windows and timers (R2, R7, R8). -/

namespace Sys2Proof.Machine

variable {r s : State}

/-! ## Pairs and links: what each operation makes of an End -/

@[simp] theorem pair_other_other (p : Pair) : p.other.other = p := by cases p <;> rfl
@[simp] theorem end_other_other (e : EndId) : e.other.other = e := by cases e <;> rfl
theorem end_other_ne (e : EndId) : e.other ≠ e := by cases e <;> decide
theorem end_eq_or_other (e d : EndId) : d = e ∨ d = e.other := by cases e <;> cases d <;> decide

@[simp] theorem pair_modPair_same (l : LineEnd) (p : Pair) (f : PairState → PairState) :
    (l.modPair p f).pair p = f (l.pair p) := by cases p <;> rfl
@[simp] theorem pair_modPair_other (l : LineEnd) (p : Pair) (f : PairState → PairState) :
    (l.modPair p f).pair p.other = l.pair p.other := by cases p <;> rfl

/-- An End is its pairs and the rest of it. -/
theorem modPair_eq (l : LineEnd) (p : Pair) (f : PairState → PairState) :
    l.modPair p f = { l with
      pairA := if p = .pairA then f l.pairA else l.pairA, pairB := if p = .pairB then f l.pairB else l.pairB } := by
  cases p <;> rfl

/-- The link state that a usable End with these pairs has (R2). -/
def LineEnd.linkByHealth (l : LineEnd) : LinkState := if l.bothHealthy then .up else .degraded

theorem followHealth_eq (l : LineEnd) :
    l.followHealth = { l with link := if l.link.usable then l.linkByHealth else l.link } := by
  unfold LineEnd.followHealth LineEnd.linkByHealth
  split <;> simp_all

@[simp] theorem linkByHealth_usable (l : LineEnd) : l.linkByHealth.usable = true := by
  unfold LineEnd.linkByHealth
  split <;> rfl

@[simp] theorem pair_followHealth (l : LineEnd) (p : Pair) : l.followHealth.pair p = l.pair p := by
  rw [followHealth_eq]; cases p <;> rfl

theorem lineEnd_judgePair (s : State) (e : EndId) (p : Pair) (f : PairState → PairState) :
    (s.judgePair e p f).lineEnd e = ((s.lineEnd e).modPair p f).followHealth := by
  unfold State.judgePair
  simp only
  split <;> simp

theorem lineEnd_judgePair_other (s : State) (e : EndId) (p : Pair) (f : PairState → PairState) :
    (s.judgePair e p f).lineEnd e.other = s.lineEnd e.other := by
  unfold State.judgePair
  simp only
  split <;> simp

/-- Both pairs of an End are HEALTHY with their counts at 0, and its link state follows while it is usable (R2, R23). -/
theorem lineEnd_healPairs (s : State) (e : EndId) :
    (s.healPairs e).lineEnd e = { s.lineEnd e with
      pairA := (s.lineEnd e).pairA.heal, pairB := (s.lineEnd e).pairB.heal
      link := if (s.lineEnd e).link.usable then .up else (s.lineEnd e).link } := by
  simp only [State.healPairs, lineEnd_judgePair, followHealth_eq, modPair_eq]
  cases (s.lineEnd e).link <;> simp [LinkState.usable, LineEnd.linkByHealth, LineEnd.bothHealthy, PairState.heal] <;>
    by_cases healthy : (s.lineEnd e).pairB.health = .healthy <;> simp [healthy]

theorem lineEnd_healPairs_other (s : State) (e : EndId) : (s.healPairs e).lineEnd e.other = s.lineEnd e.other := by
  simp only [State.healPairs, lineEnd_judgePair_other]

theorem lineEnd_closeWindow_other (s : State) (e : EndId) : (s.closeWindow e).lineEnd e.other = s.lineEnd e.other := by
  unfold State.closeWindow
  split
  · rfl
  · rw [lineEnd_judgePair_other]; simp

theorem lineEnd_enterJoining (s : State) (e : EndId) :
    (s.enterJoining e).lineEnd e = { s.lineEnd e with
      link := .joining, lastAccepted := 0, linkIdle := some (s.now + 200000), keepalive := some (s.now + 50000)
      pairA := (s.lineEnd e).pairA.heal, pairB := (s.lineEnd e).pairB.heal } := by
  simp [State.enterJoining, lineEnd_healPairs, LinkState.usable, State.timerMs, State.timerUs, Config.ms,
    Config.linkIdleMs, Config.keepaliveMs]

theorem lineEnd_enterJoining_other (s : State) (e : EndId) : (s.enterJoining e).lineEnd e.other = s.lineEnd e.other := by
  simp [State.enterJoining, lineEnd_healPairs_other]

theorem lineEnd_enterOpen (s : State) (e : EndId) :
    (s.enterOpen e).lineEnd e = { s.lineEnd e with
      throughDrop := satAdd (s.lineEnd e).throughDrop (s.lineEnd e).throughQueue.length, throughQueue := []
      link := .opened, linkIdle := none, keepalive := none, twinWindow := none, slots := .empty, sending := none } := by
  simp [State.enterOpen, LineEnd.dropQueue, LineEnd.countDrops]

theorem lineEnd_enterOpen_other (s : State) (e : EndId) : (s.enterOpen e).lineEnd e.other = s.lineEnd e.other := by
  simp [State.enterOpen]

theorem lineEnd_enterDown (s : State) (e : EndId) :
    (s.enterDown e).lineEnd e = { s.lineEnd e with
      throughDrop := satAdd (s.lineEnd e).throughDrop (s.lineEnd e).throughQueue.length, throughQueue := []
      link := .down, linkIdle := none } := by
  simp [State.enterDown, LineEnd.dropQueue, LineEnd.countDrops]

theorem lineEnd_enterDown_other (s : State) (e : EndId) : (s.enterDown e).lineEnd e.other = s.lineEnd e.other := by
  simp [State.enterDown]

/-! ## Ends in order -/

theorem pairOk_credit (q : PairState) (h : PairOk q) : PairOk q.credit := by
  obtain ⟨miss, recovery, errors, healthy⟩ := h
  unfold PairState.credit
  split
  · next hq => exact ⟨by simp, recovery, errors, fun _ => ⟨by simp, (healthy hq).2⟩⟩
  · next hq =>
    split
    · exact ⟨by simp, by simp, errors, fun _ => by simp⟩
    · next below =>
      have below : q.recovery + 1 < 64 := Nat.lt_of_not_le below
      exact ⟨by simp, below, errors, fun g => by simp [hq] at g⟩

theorem pairOk_missed (q : PairState) (h : PairOk q) : PairOk q.missed := by
  obtain ⟨miss, recovery, errors, healthy⟩ := h
  unfold PairState.missed
  split
  · next hq =>
    split
    · exact ⟨by simp [Config.missLimit], by simp, errors, fun g => by simp at g⟩
    · next below =>
      have below : q.miss + 1 < 8 := Nat.lt_of_not_le below
      exact ⟨by simp only; omega, recovery, errors, fun _ => ⟨below, (healthy hq).2⟩⟩
  · next hq => exact ⟨by simp [Config.missLimit], by simp, errors, fun g => by simp [hq] at g⟩

theorem pairOk_heal (q : PairState) (h : PairOk q) : PairOk q.heal :=
  ⟨by simp [PairState.heal], by simp [PairState.heal], h.2.2.1, fun _ => by simp [PairState.heal]⟩

theorem pairOk_bad (q : PairState) (h : PairOk q) : PairOk q.bad := ⟨h.1, h.2.1, Nat.min_le_left _ _, h.2.2.2⟩

theorem credit_healthy (q : PairState) (h : q.health = .healthy) : q.credit.health = .healthy := by
  simp [PairState.credit, h]

theorem pairOk_of_endOk {l : LineEnd} (h : EndOk l) (p : Pair) : PairOk (l.pair p) := by
  obtain ⟨-, -, -, -, -, hA, hB, -⟩ := h
  cases p <;> assumption

/-- Nothing of an End's health and link changes with its pairs' receivers and error counts. -/
theorem EndOk.modPair {l : LineEnd} (h : EndOk l) (p : Pair) (f : PairState → PairState) (hf : PairOk (f (l.pair p)))
    (hh : (f (l.pair p)).health = (l.pair p).health) : EndOk (l.modPair p f) := by
  obtain ⟨stray, drops, accepted, tx, queue, pairA, pairB, slots, quiet, follows⟩ := h
  have both : (l.modPair p f).bothHealthy = l.bothHealthy := by
    cases p <;> simp_all [LineEnd.bothHealthy, LineEnd.modPair, LineEnd.pair] <;> rfl
  have follows : LinkFollowsHealth (l.modPair p f) := by
    unfold LinkFollowsHealth; rw [both]; cases p <;> exact follows
  cases p
  · exact ⟨stray, drops, accepted, tx, queue, hf, pairB, slots, quiet, follows⟩
  · exact ⟨stray, drops, accepted, tx, queue, pairA, hf, slots, quiet, follows⟩

theorem linkFollowsHealth_byHealth (l : LineEnd) : LinkFollowsHealth { l with link := l.linkByHealth } := by
  have same : ∀ x, ({ l with link := x } : LineEnd).bothHealthy = l.bothHealthy := fun _ => rfl
  cases both : l.bothHealthy <;> simp [LinkFollowsHealth, LineEnd.linkByHealth, same, both]

theorem openIsQuiet_of_usable (l : LineEnd) (h : l.link.usable = true) : OpenIsQuiet l := by
  intro o; rw [o] at h; cases h

/-- A change of a pair, which the link state follows (R2, R8); in JOINING the pairs stay HEALTHY. -/
theorem EndOk.judged {l : LineEnd} (h : EndOk l) (p : Pair) (f : PairState → PairState) (hf : PairOk (f (l.pair p)))
    (hj : l.link = .joining → (l.pair p).health = .healthy → (f (l.pair p)).health = .healthy) :
    EndOk (l.modPair p f).followHealth := by
  by_cases hu : l.link.usable = true
  · have link : (l.modPair p f).followHealth = { l.modPair p f with link := (l.modPair p f).linkByHealth } := by
      rw [followHealth_eq, if_pos (by cases p <;> exact hu)]
    have follows := linkFollowsHealth_byHealth (l.modPair p f)
    have quiet := openIsQuiet_of_usable { l.modPair p f with link := (l.modPair p f).linkByHealth } (by simp)
    obtain ⟨stray, drops, accepted, tx, queue, pairA, pairB, slots, -, -⟩ := h
    rw [link]
    cases p
    · exact ⟨stray, drops, accepted, tx, queue, hf, pairB, slots, quiet, follows⟩
    · exact ⟨stray, drops, accepted, tx, queue, pairA, hf, slots, quiet, follows⟩
  · have link : (l.modPair p f).followHealth = l.modPair p f := by
      rw [followHealth_eq, if_neg (by cases p <;> exact hu)]
    obtain ⟨stray, drops, accepted, tx, queue, pairA, pairB, slots, quiet, up, degraded, joining⟩ := h
    have follows : LinkFollowsHealth (l.modPair p f) := by
      refine ⟨fun o => absurd ?_ hu, fun o => absurd ?_ hu, fun o => ?_⟩
      · rw [show l.link = .up by cases p <;> exact o]; rfl
      · rw [show l.link = .degraded by cases p <;> exact o]; rfl
      · have o : l.link = .joining := by cases p <;> exact o
        have both := (joining o).1
        have stays := hj o
        cases p <;> simp_all [LineEnd.bothHealthy, LineEnd.modPair, LineEnd.pair]
    rw [link]
    cases p
    · exact ⟨stray, drops, accepted, tx, queue, hf, pairB, slots, quiet, follows⟩
    · exact ⟨stray, drops, accepted, tx, queue, pairA, hf, slots, quiet, follows⟩

/-- An End in JOINING: no Twin Window, both pairs HEALTHY (R2). -/
theorem EndOk.joining {l : LineEnd} (h : EndOk l) (twin : l.twinWindow = none) (idle keep : Timer) :
    EndOk { l with link := .joining, lastAccepted := 0, linkIdle := idle, keepalive := keep
                   pairA := l.pairA.heal, pairB := l.pairB.heal } := by
  obtain ⟨stray, drops, accepted, tx, queue, pairA, pairB, slots, quiet, follows⟩ := h
  exact ⟨stray, drops, by simp, tx, queue, pairOk_heal _ pairA, pairOk_heal _ pairB, slots, (nomatch ·),
    (nomatch ·), (nomatch ·), fun _ => ⟨by simp [LineEnd.bothHealthy, PairState.heal], twin⟩⟩

/-- An OPEN End with nothing in it (table of 1.8). -/
theorem EndOk.opened {l : LineEnd} (h : EndOk l) (a b : PairState) (ha : PairOk a) (hb : PairOk b) (drops accepted : Nat)
    (hd : drops ≤ 255) (hl : accepted ≤ 255) :
    EndOk { l with throughDrop := drops, throughQueue := [], link := .opened, linkIdle := none, keepalive := none
                   twinWindow := none, slots := .empty, sending := none, pairA := a, pairB := b
                   lastAccepted := accepted } := by
  obtain ⟨stray, -, -, tx, -⟩ := h
  exact ⟨stray, hd, hl, tx, by simp, ha, hb, slotsOk_empty, fun _ => ⟨rfl, rfl, rfl, rfl, rfl, rfl⟩,
    (nomatch ·), (nomatch ·), (nomatch ·)⟩

theorem EndOk.down {l : LineEnd} (h : EndOk l) (n : Nat) :
    EndOk { l with throughDrop := satAdd l.throughDrop n, throughQueue := [], link := .down, linkIdle := none } := by
  obtain ⟨stray, drops, accepted, tx, queue, pairA, pairB, slots, quiet, follows⟩ := h
  exact ⟨stray, Nat.min_le_left _ _, accepted, tx, by simp, pairA, pairB, slots, (nomatch ·),
    (nomatch ·), (nomatch ·), (nomatch ·)⟩

theorem EndOk.shutWindow {l : LineEnd} (h : EndOk l) : EndOk { l with twinWindow := none } := by
  obtain ⟨stray, drops, accepted, tx, queue, pairA, pairB, slots, quiet, up, degraded, joining⟩ := h
  refine ⟨stray, drops, accepted, tx, queue, pairA, pairB, slots, fun o => ?_, up, degraded, fun j => ⟨(joining j).1, rfl⟩⟩
  obtain ⟨empty, queued, sends, -, rest⟩ := quiet o
  exact ⟨empty, queued, sends, rfl, rest⟩

theorem EndOk.clearLine {l : LineEnd} (h : EndOk l) : EndOk l.clearLine := by
  obtain ⟨stray, drops, accepted, tx, queue, pairA, pairB, slots, quiet, up, degraded, joining⟩ := h
  refine ⟨stray, drops, accepted, tx, by simp [LineEnd.clearLine], pairA, pairB, slotsOk_empty, fun o => ?_, up, degraded,
    fun j => ⟨(joining j).1, rfl⟩⟩
  obtain ⟨-, -, -, -, idle, keep⟩ := quiet o
  exact ⟨rfl, rfl, rfl, rfl, idle, keep⟩

/-! ## The operations of the Ends -/

theorem flagsKept_judgePair (s : State) (e : EndId) (p : Pair) (f : PairState → PairState) (q : PortId) :
    FlagsKept (s.port q).flags ((s.judgePair e p f).port q).flags := by
  unfold State.judgePair
  simp only
  split
  · simp [FlagsKept]
  · have := ((Gentle.refl (s.modEnd e fun l => (l.modPair p f).followHealth)).raise (c := .pairHealthChanged)).flags q
    simpa using this

theorem FlagsKept.trans {x y z : GroupBytes} (h : FlagsKept x y) (k : FlagsKept y z) : FlagsKept x z := by
  intro g
  rw [k g, ← BitVec.or_assoc, ← h g]

theorem flagsKept_healPairs (s : State) (e : EndId) (q : PortId) :
    FlagsKept (s.port q).flags ((s.healPairs e).port q).flags :=
  (flagsKept_judgePair s e _ _ q).trans (flagsKept_judgePair _ e _ _ q)

/-- An operation that makes something of one End. -/
theorem Gentle.atEnd {t : State} {e : EndId} (h : Gentle r s) (here : EndOk (s.lineEnd e) → EndOk (t.lineEnd e))
    (beside : t.lineEnd e.other = s.lineEnd e.other) (flags : ∀ p, FlagsKept (s.port p).flags (t.port p).flags) :
    Gentle r t := by
  refine ⟨fun d hd => ?_, fun p => (h.flags p).trans (flags p)⟩
  rcases end_eq_or_other e d with rfl | rfl
  · exact here (h.ends _ hd)
  · rw [beside]; exact h.ends _ hd

theorem Gentle.judgePair {e : EndId} {p : Pair} {f : PairState → PairState} (h : Gentle r s)
    (hf : ∀ q, PairOk q → PairOk (f q))
    (hj : (s.lineEnd e).link = .joining → ((s.lineEnd e).pair p).health = .healthy →
      (f ((s.lineEnd e).pair p)).health = .healthy) : Gentle r (s.judgePair e p f) :=
  h.atEnd (fun hl => by rw [lineEnd_judgePair]; exact hl.judged p f (hf _ (pairOk_of_endOk hl p)) hj)
    (lineEnd_judgePair_other s e p f) (flagsKept_judgePair s e p f)

theorem Gentle.healPairs {e : EndId} (h : Gentle r s) : Gentle r (s.healPairs e) :=
  (h.judgePair pairOk_heal fun _ _ => rfl).judgePair pairOk_heal fun _ _ => rfl

theorem Gentle.closeWindow {e : EndId} (h : Gentle r s) : Gentle r (s.closeWindow e) := by
  unfold State.closeWindow
  split
  · exact h
  · next w hw =>
    refine h.atEnd (e := e) (fun hl => ?_) ?_ fun p => ?_
    · rw [lineEnd_judgePair, lineEnd_modEnd_same]
      refine hl.shutWindow.judged _ _ (pairOk_missed _ (pairOk_of_endOk hl.shutWindow _)) fun j => ?_
      obtain ⟨-, none⟩ := hl.joins j
      rw [hw] at none; cases none
    · rw [lineEnd_judgePair_other]; simp
    · simpa using flagsKept_judgePair (s.modEnd e fun l => { l with twinWindow := none }) e w.awaited PairState.missed p

theorem Gentle.enterOpen {e : EndId} (h : Gentle r s) : Gentle r (s.enterOpen e) :=
  h.modEnd fun hl =>
    hl.opened _ _ (pairOk_of_endOk hl .pairA) (pairOk_of_endOk hl .pairB) _ _ (Nat.min_le_left _ _) hl.2.2.1

theorem Gentle.enterJoining {e : EndId} (h : Gentle r s)
    (twin : EndOk (s.lineEnd e) → (s.lineEnd e).twinWindow = none) : Gentle r (s.enterJoining e) := by
  refine h.atEnd (fun hl => ?_) (lineEnd_enterJoining_other s e) fun p => ?_
  · rw [lineEnd_enterJoining]; exact hl.joining (twin hl) _ _
  · simpa [State.enterJoining] using flagsKept_healPairs (s.modEnd e fun l =>
      { l with link := .joining, lastAccepted := 0, linkIdle := s.timerMs Config.linkIdleMs
               keepalive := s.timerMs Config.keepaliveMs }) e p

theorem Gentle.enterDown {e : EndId} (h : Gentle r s) : Gentle r (s.enterDown e) := (h.modEnd fun hl => hl.down _).raise

end Sys2Proof.Machine

/-! SUPPORT. Ends at rest while the node sleeps, the gates of commands, and the coupler sense. -/

namespace Sys2Proof.Machine

variable {r s : State}

/-! ## Ends that rest while the node sleeps -/

theorem skeleton_still {t : State} (h : t.skeleton = s.skeleton) (e : EndId) : (t.lineEnd e).still = (s.lineEnd e).still := by
  cases e
  · exact congrArg Skeleton.end1 h
  · exact congrArg Skeleton.end2 h

theorem skeleton_link {t : State} (h : t.skeleton = s.skeleton) (e : EndId) : (t.lineEnd e).link = (s.lineEnd e).link := by
  have same := congrArg LineEnd.link (skeleton_still h e)
  exact same

theorem skeleton_linkIdle {t : State} (h : t.skeleton = s.skeleton) (e : EndId) :
    (t.lineEnd e).linkIdle = (s.lineEnd e).linkIdle := by
  have same := congrArg LineEnd.linkIdle (skeleton_still h e)
  exact same

theorem skeleton_power {t : State} (h : t.skeleton = s.skeleton) : t.power = s.power := congrArg Skeleton.power h

theorem skeleton_now {t : State} (h : t.skeleton = s.skeleton) : t.now = s.now := congrArg Skeleton.now h

theorem skeleton_asleep {t : State} (h : t.skeleton = s.skeleton) : t.asleep = s.asleep := by
  simp [State.asleep, skeleton_power h]

/-- While the node sleeps each End is JOINING or OPEN, with its Link Idle Timer stopped (R24). -/
def EndsRest (s : State) : Prop :=
  s.asleep = true → ∀ e, ((s.lineEnd e).link = .joining ∨ (s.lineEnd e).link = .opened) ∧ (s.lineEnd e).linkIdle = none

theorem endsOk_iff (s : State) : EndsOk s ↔ (∀ e, EndOk (s.lineEnd e)) ∧ EndsRest s := by
  constructor
  · rintro ⟨h1, h2, rest⟩
    exact ⟨fun e => by cases e <;> assumption, rest⟩
  · rintro ⟨ends, rest⟩
    exact ⟨ends .end1, ends .end2, rest⟩

/-- The Ends stay in order where an operation keeps each and the node does not fall asleep by it. -/
theorem EndsOk.keep {t : State} (h : EndsOk s) (g : Gentle s t)
    (rest : t.asleep = true → s.asleep = true ∧ ∀ e, (t.lineEnd e).link = (s.lineEnd e).link
      ∧ (t.lineEnd e).linkIdle = (s.lineEnd e).linkIdle) : EndsOk t := by
  rw [endsOk_iff] at h ⊢
  obtain ⟨ends, rests⟩ := h
  refine ⟨fun e => g.ends e (ends e), fun z e => ?_⟩
  obtain ⟨asleep, same⟩ := rest z
  rw [(same e).1, (same e).2]
  exact rests asleep e

theorem EndsOk.engine {t : State} (h : EndsOk s) (g : Gentle s t) (k : t.skeleton = s.skeleton) : EndsOk t :=
  h.keep g fun z => ⟨by rwa [skeleton_asleep k] at z, fun e =>
    ⟨skeleton_link k e, skeleton_linkIdle k e⟩⟩

theorem EndsOk.awake {t : State} (h : EndsOk s) (g : Gentle s t) (z : t.asleep = false) : EndsOk t :=
  h.keep g fun z' => by rw [z] at z'; cases z'

/-- Nothing but the Ends and the power state counts for the Ends. -/
theorem EndsOk.same {t : State} (h : EndsOk s) (he : ∀ e, t.lineEnd e = s.lineEnd e) (hp : t.power = s.power) : EndsOk t := by
  rw [endsOk_iff] at h ⊢
  obtain ⟨ends, rests⟩ := h
  refine ⟨fun e => by rw [he]; exact ends e, fun z e => ?_⟩
  rw [he]
  exact rests (by rwa [State.asleep, hp] at z) e

theorem EndsOk.modPort {p : PortId} {g : Port → Port} (h : EndsOk s) : EndsOk (s.modPort p g) := h.same (by simp) (by simp)

theorem EndsOk.reach {d : Nat} (h : EndsOk s) : EndsOk (s.reach d) := h.same (by simp) (by simp)

/-! ## The gates of commands -/

theorem EndsOk.live {f : State → State} (h : EndsOk s) (hf : EndsOk (f s)) : EndsOk (s.live f) := by
  unfold State.live
  split
  · exact h
  · exact hf

theorem EndsOk.whileAwake {f : State → State} (h : EndsOk s) (hf : s.asleep = false → EndsOk (f s)) : EndsOk (s.awake f) := by
  unfold State.awake
  split
  · exact h
  · next g => exact hf (by simp_all)

theorem EndsOk.expire {t : Timer} {f : State → State} (h : EndsOk s) (hf : ∀ d, t = some d → EndsOk (f (s.reach d))) :
    EndsOk (s.expire t f) := by
  unfold State.expire
  split
  · exact h
  · exact hf _ rfl

theorem EndsOk.write {p : PortId} {a : Nat} {f : State → State} (h : EndsOk s)
    (hf : ∀ u : State, EndsOk u → u.asleep = false → EndsOk (f u)) : EndsOk (s.write p a f) := by
  refine h.live ?_
  split
  · simp only
    split
    · exact h.modPort
    · next z => exact hf _ h.modPort (by simpa using z)
  · exact h

theorem EndsOk.writeArea {p : PortId} {code offset : Nat} {f : State → State} (h : EndsOk s)
    (hf : ∀ u : State, EndsOk u → u.asleep = false → EndsOk (f u)) : EndsOk (s.writeArea p code offset f) := by
  unfold State.writeArea
  split
  · exact h.write hf
  · exact h

theorem EndsOk.command {p : PortId} {need : Need} {check : State → Option Reason} {act : State → State}
    {data : State → Nat} (h : EndsOk s) (ha : ∀ u : State, EndsOk u → u.asleep = false → EndsOk (act u)) :
    EndsOk (s.command p need check act data) := by
  refine h.write fun u hu z => ?_
  split
  · exact hu.modPort
  · exact (ha u hu z).modPort

/-- A command whose action is an engine's. -/
theorem EndsOk.engineCommand {p : PortId} {need : Need} {check : State → Option Reason} {act : State → State}
    {data : State → Nat} (h : EndsOk s) (g : ∀ u : State, Gentle u (act u)) (k : ∀ u : State, (act u).skeleton = u.skeleton) :
    EndsOk (s.command p need check act data) := h.command fun u hu _ => hu.engine (g u) (k u)

/-- A timer's expiry whose action is an engine's. -/
theorem EndsOk.engineExpiry {t : Timer} {f : State → State} (h : EndsOk s) (g : ∀ u : State, Gentle u (f u))
    (k : ∀ u : State, (f u).skeleton = u.skeleton) : EndsOk (s.live fun s => s.expire t f) :=
  h.live (h.expire fun _ _ => h.reach.engine (g _) (k _))

/-! ## The Ends' own commands -/

/-- A change of one End that leaves its link and the Link Idle Timer alone. -/
theorem EndsOk.modEnd {e : EndId} {g : LineEnd → LineEnd} (h : EndsOk s) (hg : EndOk (s.lineEnd e) → EndOk (g (s.lineEnd e)))
    (hl : ∀ l, (g l).link = l.link ∧ (g l).linkIdle = l.linkIdle) : EndsOk (s.modEnd e g) :=
  h.keep ((Gentle.refl s).modEnd hg) fun z => ⟨by simpa [State.asleep] using z, fun d => by
    rw [lineEnd_modEnd]
    split
    · exact hl _
    · exact ⟨rfl, rfl⟩⟩

theorem EndsOk.wakeBy {c : WakeCause} (h : EndsOk s) : EndsOk (s.wakeBy c) := by
  unfold State.wakeBy
  split
  · next stabled =>
    refine h.keep (Gentle.refl s).modPower fun _ => ⟨?_, fun d => ?_⟩
    · simp [State.asleep, stabled]
    · simp
  · exact h

theorem EndsOk.startDebounce {e : EndId} (h : EndsOk s) : EndsOk (s.startDebounce e) := by
  unfold State.startDebounce
  exact h.modEnd id fun _ => ⟨rfl, rfl⟩

theorem EndsOk.rawChange {e : EndId} {level : Sense} (h : EndsOk s) : EndsOk (s.rawChange e level) := by
  unfold State.rawChange
  split
  · exact h
  · have raw : EndsOk (s.modEnd e fun l => { l with rawSense := level }) := h.modEnd id fun _ => ⟨rfl, rfl⟩
    exact raw.live raw.startDebounce.wakeBy

theorem link_modPair (l : LineEnd) (p : Pair) (f : PairState → PairState) :
    (l.modPair p f).link = l.link ∧ (l.modPair p f).linkIdle = l.linkIdle := by cases p <;> exact ⟨rfl, rfl⟩

theorem EndsOk.setReceiver {e : EndId} {p : Pair} {x : Receiver} (h : EndsOk s) : EndsOk (s.setReceiver e p x) :=
  h.modEnd (fun hl => hl.modPair p _ (pairOk_of_endOk hl p) rfl) fun _ => link_modPair _ _ _

theorem EndsOk.badCopy {e : EndId} {p : Pair} (h : EndsOk s) : EndsOk (s.badCopy e p) :=
  h.modEnd (fun hl => hl.modPair p _ (pairOk_bad _ (pairOk_of_endOk hl p)) rfl) fun _ => link_modPair _ _ _

theorem EndsOk.copyStart {e : EndId} {p : Pair} (h : EndsOk s) : EndsOk (s.copyStart e p) := by
  unfold State.copyStart
  split
  · exact h.setReceiver.wakeBy
  · simp only
    split
    · exact h.badCopy.setReceiver
    · exact h.setReceiver

theorem EndsOk.idleAbort {e : EndId} {p : Pair} (h : EndsOk s) : EndsOk (s.idleAbort e p) := by
  unfold State.idleAbort
  simp only
  split
  · exact h.setReceiver.badCopy
  · exact h.setReceiver

@[simp] theorem asleep_modEnd (s : State) (e : EndId) (g : LineEnd → LineEnd) : (s.modEnd e g).asleep = s.asleep := by
  simp [State.asleep]

@[simp] theorem asleep_raise (s : State) (c : Cause) : (s.raise c).asleep = s.asleep := by
  simp [State.asleep, State.raise, State.raiseAt]

@[simp] theorem asleep_reach (s : State) (d : Nat) : (s.reach d).asleep = s.asleep := rfl

/-- The power state is another block than the Ends and the ports. -/
theorem asleep_of_forget {t : State} (h : t.forget [.endOf .end1, .endOf .end2, .portOf .portA, .portOf .portB]
    = s.forget [.endOf .end1, .endOf .end2, .portOf .portA, .portOf .portB]) : t.asleep = s.asleep := by
  have same := ((onlyChanges_iff_forget _ s t).2 h).2 .power (by simp)
  unfold State.asleep
  rw [show t.power = s.power from same]

@[simp] theorem asleep_linkBySense (s : State) (e : EndId) : (s.linkBySense e).asleep = s.asleep :=
  asleep_of_forget (by simp)

theorem Gentle.linkBySense {e : EndId} (h : Gentle r s) : Gentle r (s.linkBySense e) := by
  unfold State.linkBySense
  split
  · exact h.enterOpen
  · next opened =>
    refine h.enterJoining fun ok => ?_
    obtain ⟨-, -, -, none, -⟩ := ok.quiet opened
    exact none
  · exact h

theorem EndsOk.debounceExpiry {e : EndId} (h : EndsOk s) : EndsOk (s.debounceExpiry e) := by
  refine h.expire fun d _ => ?_
  simp only
  have sensed : EndsOk (((s.reach d).modEnd e fun l => { l with sense := l.rawSense, debounce := none }).raise
      (.couplingChanged e)) := by
    have taken : EndsOk ((s.reach d).modEnd e fun l => { l with sense := l.rawSense, debounce := none }) :=
      h.reach.modEnd id fun _ => ⟨rfl, rfl⟩
    exact taken.same (by simp) (by simp [State.raise, State.raiseAt])
  split
  · exact sensed
  · next z =>
    exact sensed.awake (Gentle.refl _).linkBySense.reportEnd
      (by rw [skeleton_asleep (skel_reportEnd _ _ _)]; simpa using z)

end Sys2Proof.Machine

/-! SUPPORT. Copies, timers and the transmitter of an End keep it as its rules keep it. -/

namespace Sys2Proof.Machine

variable {r s : State}

/-! ## Copies at an End -/

@[simp] theorem usable_followHealth (l : LineEnd) : l.followHealth.link.usable = l.link.usable := by
  rw [followHealth_eq]
  simp only
  split <;> simp_all

theorem usable_judgePair (s : State) (e : EndId) (p : Pair) (f : PairState → PairState) :
    ((s.judgePair e p f).lineEnd e).link.usable = (s.lineEnd e).link.usable := by
  rw [lineEnd_judgePair, usable_followHealth, (link_modPair _ _ _).1]

theorem usable_closeWindow (s : State) (e : EndId) :
    ((s.closeWindow e).lineEnd e).link.usable = (s.lineEnd e).link.usable := by
  unfold State.closeWindow
  split
  · rfl
  · rw [usable_judgePair]; simp

/-- An intact copy at an End that is not OPEN (R2, R3). -/
def LineEnd.heard (l : LineEnd) (idle : Timer) : LineEnd :=
  { l with linkIdle := idle, link := match l.link with
      | .joining => .up
      | .down => l.linkByHealth
      | .opened | .up | .degraded => l.link }

theorem lineEnd_hearCopy (s : State) (e : EndId) :
    (s.hearCopy e).lineEnd e = (s.lineEnd e).heard (some (s.now + 200000)) := by
  simp only [State.hearCopy, lineEnd_modEnd_same]
  rfl

theorem heard_usable (l : LineEnd) (idle : Timer) (h : l.link ≠ .opened) : (l.heard idle).link.usable = true := by
  unfold LineEnd.heard
  cases hl : l.link <;> simp_all [LinkState.usable]
  exact linkByHealth_usable l

theorem EndOk.heard {l : LineEnd} (h : EndOk l) (idle : Timer) (ho : l.link ≠ .opened) : EndOk (l.heard idle) := by
  have quiet := openIsQuiet_of_usable _ (heard_usable l idle ho)
  obtain ⟨stray, drops, accepted, tx, queue, pairA, pairB, slots, -, up, degraded, joining⟩ := h
  refine ⟨stray, drops, accepted, tx, queue, pairA, pairB, slots, quiet, ?_⟩
  unfold LineEnd.heard
  cases hl : l.link
  case opened => exact absurd hl ho
  case joining => exact ⟨fun _ => (joining hl).1, (nomatch ·), (nomatch ·)⟩
  case up => exact ⟨fun _ => up hl, (nomatch ·), (nomatch ·)⟩
  case degraded => exact ⟨(nomatch ·), fun _ => degraded hl, (nomatch ·)⟩
  case down => exact linkFollowsHealth_byHealth l

/-- A Twin Window opens at a usable End (R6, R7). -/
theorem EndOk.openWindow {l : LineEnd} (h : EndOk l) (w : TwinWindow) (hu : l.link.usable = true) :
    EndOk { l with twinWindow := some w } := by
  obtain ⟨stray, drops, accepted, tx, queue, pairA, pairB, slots, -, up, degraded, -⟩ := h
  refine ⟨stray, drops, accepted, tx, queue, pairA, pairB, slots, openIsQuiet_of_usable { l with twinWindow := some w } hu, up, degraded, fun j => ?_⟩
  rw [show l.link = .joining from j] at hu
  cases hu

theorem EndOk.accept {l : LineEnd} (h : EndOk l) (n : Nat) (hn : n ≤ 255) : EndOk { l with lastAccepted := n } := by
  obtain ⟨stray, drops, -, rest⟩ := h
  exact ⟨stray, drops, hn, rest⟩

theorem Gentle.hearCopy {e : EndId} (h : Gentle r s) (ho : (s.lineEnd e).link ≠ .opened) : Gentle r (s.hearCopy e) :=
  h.atEnd (e := e) (fun hl => by rw [lineEnd_hearCopy]; exact hl.heard _ ho) (by simp [State.hearCopy]) fun p => by
    simp [FlagsKept, State.hearCopy]

theorem Gentle.credit {e : EndId} {p : Pair} (h : Gentle r s) : Gentle r (s.judgePair e p PairState.credit) :=
  h.judgePair pairOk_credit fun _ hq => credit_healthy _ hq

theorem Gentle.acceptCopy {e : EndId} {p : Pair} {n : Nat} (h : Gentle r s) (hn : n ≤ 255)
    (hu : (s.lineEnd e).link.usable = true) : Gentle r (s.acceptCopy e p n) := by
  unfold State.acceptCopy
  refine Gentle.modEnd (Gentle.credit (h.closeWindow.modEnd fun hl => hl.accept n hn)) fun hl => hl.openWindow _ ?_
  rw [usable_judgePair, lineEnd_modEnd_same]
  exact (usable_closeWindow s e).trans hu

theorem Gentle.twin {e : EndId} {p : Pair} (h : Gentle r s) : Gentle r (s.twin e p) := by
  unfold State.twin
  split
  · split
    · exact (h.modEnd EndOk.shutWindow).credit
    · exact h
  · exact h

theorem checkCopy_sequence {bytes : List Byte} {c : IntactCopy} (h : checkCopy bytes = some c) : c.sequence ≤ 255 := by
  unfold checkCopy at h
  split at h
  · simp only at h
    split at h
    · cases h
    · split at h
      · cases h; simp only; omega
      · cases h
  · cases h

theorem Gentle.filterCopy {e : EndId} {p : Pair} {c : IntactCopy} (h : Gentle r s) (hc : c.sequence ≤ 255)
    (ho : (s.lineEnd e).link ≠ .opened) : Gentle r (s.filterCopy e p c) := by
  unfold State.filterCopy
  simp only
  split
  · exact (h.hearCopy ho).twin.reportEnd
  · refine ((h.hearCopy ho).acceptCopy hc ?_).reportEnd.handOn
    rw [lineEnd_hearCopy]; exact heard_usable _ _ ho

@[simp] theorem asleep_of_skeleton_reportEnd (s : State) (e : EndId) (o : LinkState) :
    (s.reportEnd e o).asleep = s.asleep := skeleton_asleep (skel_reportEnd s e o)

@[simp] theorem asleep_handOn (s : State) (e : EndId) (f : Frame) : (s.handOn e f).asleep = s.asleep :=
  skeleton_asleep (skel_handOn s e f)

theorem asleep_filterCopy (s : State) (e : EndId) (p : Pair) (c : IntactCopy) :
    (s.filterCopy e p c).asleep = s.asleep := by
  unfold State.filterCopy
  simp only
  split
  · rw [asleep_of_skeleton_reportEnd]; exact asleep_of_forget (by simp)
  · rw [asleep_handOn, asleep_of_skeleton_reportEnd]; exact asleep_of_forget (by simp)

theorem EndOk.stray {l : LineEnd} (h : EndOk l) : EndOk { l with strayCount := satAdd l.strayCount 1 } :=
  ⟨Nat.min_le_left _ _, h.2⟩

theorem EndsOk.copyReceived {e : EndId} {p : Pair} {bytes : List Byte} (h : EndsOk s) : EndsOk (s.copyReceived e p bytes) := by
  unfold State.copyReceived
  simp only
  split
  · exact h.setReceiver
  · next reaches =>
    have heard : EndsOk (s.setReceiver e p .idle) := h.setReceiver
    have z : (s.setReceiver e p .idle).asleep = false := by
      simp only [Bool.or_eq_true, not_or, Bool.not_eq_true] at reaches
      exact (asleep_of_forget (by simp)).trans reaches.2
    unfold State.judgeCopy
    split
    · exact heard.badCopy
    · next c hc =>
      split
      · exact heard.modEnd EndOk.stray fun _ => ⟨rfl, rfl⟩
      · next ho =>
        refine heard.awake ((Gentle.refl _).filterCopy (checkCopy_sequence hc) ?_) ((asleep_filterCopy _ _ _ _).trans z)
        simpa [State.isOpen] using ho

/-! ## The timers of an End -/

theorem link_closeWindow_rest (s : State) (h : EndsRest s) (e : EndId) (z : s.asleep = true) (d : EndId) :
    ((s.closeWindow e).lineEnd d).link = (s.lineEnd d).link ∧ ((s.closeWindow e).lineEnd d).linkIdle = (s.lineEnd d).linkIdle := by
  rcases end_eq_or_other e d with rfl | rfl
  · unfold State.closeWindow
    split
    · exact ⟨rfl, rfl⟩
    · rw [lineEnd_judgePair, followHealth_eq, lineEnd_modEnd_same, modPair_eq]
      have rest := (h z d).1
      rcases rest with hl | hl <;> simp [hl, LinkState.usable]
  · rw [lineEnd_closeWindow_other]; exact ⟨rfl, rfl⟩

theorem EndsOk.twinExpiry {e : EndId} (h : EndsOk s) : EndsOk (s.twinExpiry e) := by
  refine h.expire fun d _ => h.reach.keep (Gentle.refl _).closeWindow fun z => ?_
  have z : (s.reach d).asleep = true := by rwa [asleep_of_forget (s := s.reach d) (by simp)] at z
  exact ⟨z, link_closeWindow_rest _ ((endsOk_iff _).1 h.reach).2 e z⟩

theorem EndOk.stopIdle {l : LineEnd} (h : EndOk l) : EndOk { l with linkIdle := none } := by
  obtain ⟨stray, drops, accepted, tx, queue, pairA, pairB, slots, quiet, follows⟩ := h
  refine ⟨stray, drops, accepted, tx, queue, pairA, pairB, slots, fun o => ?_, follows⟩
  obtain ⟨empty, queued, sends, twin, -, keep⟩ := quiet o
  exact ⟨empty, queued, sends, twin, rfl, keep⟩

theorem EndsOk.linkIdleExpiry {e : EndId} (h : EndsOk s) : EndsOk (s.linkIdleExpiry e) := by
  refine h.expire fun d hd => ?_
  have z : s.asleep = false := by
    by_contra z
    have none := (((endsOk_iff s).1 h).2 (by simpa using z) e).2
    rw [hd] at none; cases none
  have z : (s.reach d).asleep = false := z
  simp only
  split
  iterate 3
    exact h.reach.awake (Gentle.refl _).enterDown.reportEnd
      (by rw [asleep_of_skeleton_reportEnd]; exact (asleep_of_forget (by simp)).trans z)
  iterate 2 exact h.reach.awake ((Gentle.refl _).modEnd EndOk.stopIdle) (by simpa using z)

theorem EndOk.keepaliveTimer {l : LineEnd} (h : EndOk l) (d : Timer) (ho : l.link ≠ .opened) : EndOk { l with keepalive := d } := by
  obtain ⟨stray, drops, accepted, tx, queue, pairA, pairB, slots, -, follows⟩ := h
  exact ⟨stray, drops, accepted, tx, queue, pairA, pairB, slots, fun o => absurd o ho, follows⟩

theorem slotOk_placeIdle (q : SourceSlot) (h : SlotOk q) : SlotOk q.placeIdle := by
  unfold SourceSlot.placeIdle
  split
  · intro g; cases g
  · exact h

theorem EndOk.slot {l : LineEnd} (h : EndOk l) (x : Source) : SlotOk (l.slots.get x) := by
  obtain ⟨-, -, -, -, -, -, -, slots, -⟩ := h
  exact (slotsOk_iff _).1 slots x

theorem EndOk.not_opened_of_keepalive {l : LineEnd} (h : EndOk l) {d : Nat} (hd : l.keepalive = some d) : l.link ≠ .opened := by
  intro o
  obtain ⟨-, -, -, -, -, none⟩ := h.quiet o
  rw [hd] at none; cases none

theorem EndsOk.keepaliveExpiry {e : EndId} (h : EndsOk s) : EndsOk (s.keepaliveExpiry e) := by
  refine h.expire fun d hd => h.reach.modEnd (fun hl => ?_) fun _ => ⟨rfl, rfl⟩
  have ho := hl.not_opened_of_keepalive (d := d) (by simpa using hd)
  exact (hl.modSlot .keepalive _ (slotOk_placeIdle _ (hl.slot .keepalive)) fun o => absurd o ho).keepaliveTimer none ho

/-! ## The transmitter -/

theorem nextWrap_le (top n : Nat) (ht : 1 ≤ top) : nextWrap top n ≤ top := by
  unfold nextWrap
  split <;> omega

theorem EndOk.sends {l : LineEnd} (h : EndOk l) (x : Option (List Byte)) (n : Nat) (hn : n ≤ 255) (ho : l.link ≠ .opened) :
    EndOk { l with txSequence := n, sending := x } := by
  obtain ⟨stray, drops, accepted, -, queue, pairA, pairB, slots, -, follows⟩ := h
  exact ⟨stray, drops, accepted, hn, queue, pairA, pairB, slots, fun o => absurd o ho, follows⟩

theorem EndsOk.send {e : EndId} {f : Frame} (h : EndsOk s) (ho : (s.lineEnd e).link ≠ .opened) : EndsOk (s.send e f) := by
  unfold State.send
  exact h.modEnd (fun hl => hl.sends _ _ (nextWrap_le _ _ (by decide)) ho) fun _ => ⟨rfl, rfl⟩

theorem chooseFrame_through {e : EndId} {f : Frame} {rest : List Frame} (h : s.chooseFrame e = some (.through f rest)) :
    (s.lineEnd e).throughQueue = f :: rest := by
  unfold State.chooseFrame at h
  split at h
  · cases h
  · next hq => cases h; exact hq
  · cases ho : s.offeredTo e <;> rw [ho] at h <;> cases h

theorem EndsOk.arbiterTake {e : EndId} (h : EndsOk s) : EndsOk (s.arbiterTake e) := by
  unfold State.arbiterTake
  split
  · exact h
  · next free =>
    have ho : (s.lineEnd e).link ≠ .opened := by
      simp only [not_or] at free
      simpa [State.isOpen] using free.1
    split
    · exact h
    · next x f _ =>
      have left : EndsOk (s.modEnd e (·.modSlot x SourceSlot.advance)) :=
        h.modEnd (fun hl => hl.modSlot x _ (slotOk_advance _) fun o => absurd o ho) fun _ => ⟨rfl, rfl⟩
      exact (left.send (by rw [lineEnd_modEnd_same]; exact ho)).engine (Gentle.refl _).ownLeaves (skel_ownLeaves _ _ _ _)
    · next f rest hq =>
      have left : EndsOk (s.modEnd e fun l => { l with throughQueue := rest }) := by
        refine h.modEnd (fun hl => hl.setQueue rest ?_ fun o => absurd o ho) fun _ => ⟨rfl, rfl⟩
        have bound := hl.queueBound
        rw [chooseFrame_through hq] at bound
        exact Nat.le_of_succ_le bound
      exact left.send (by simpa using ho)
    · exact (h.send ho).engine (Gentle.refl _).takeOffer (skel_takeOffer _ _)

theorem EndsOk.transmitComplete {e : EndId} (h : EndsOk s) : EndsOk (s.transmitComplete e) := by
  unfold State.transmitComplete
  simp only
  split
  · next bytes hs =>
    refine h.modEnd (fun hl => ?_) fun _ => ⟨rfl, rfl⟩
    have ho : (s.lineEnd e).link ≠ .opened := by
      intro o
      obtain ⟨-, -, none, -⟩ := hl.quiet o
      rw [hs] at none; cases none
    exact (hl.sends none _ hl.2.2.2.1 ho).keepaliveTimer _ ho
  · exact h

end Sys2Proof.Machine

/-! PROOF. Every command keeps both Ends as their rules keep them (O3). -/

namespace Sys2Proof.Machine

variable {r s : State}

/-! ## End Reset, stabling and waking -/

theorem EndOk.zeroCounts {l : LineEnd} (h : EndOk l) : EndOk l.zeroCounts := by
  obtain ⟨stray, drops, accepted, tx, queue, pairA, pairB, slots, quiet, follows⟩ := h
  exact ⟨Nat.zero_le _, Nat.zero_le _, Nat.zero_le _, Nat.zero_le _, queue, ⟨pairA.1, pairA.2.1, Nat.zero_le _, pairA.2.2.2⟩,
    ⟨pairB.1, pairB.2.1, Nat.zero_le _, pairB.2.2.2⟩, slots, quiet, follows⟩

/-- An End that was reset, before its link state is set (R23). -/
def State.freshEnd (s : State) (e : EndId) : State := (s.modEnd e fun l => l.clearLine.zeroCounts).healPairs e

theorem Gentle.freshEnd {e : EndId} (h : Gentle r s) : Gentle r (s.freshEnd e) :=
  (h.modEnd fun hl => hl.clearLine.zeroCounts).healPairs

theorem freshEnd_twinWindow (s : State) (e : EndId) : ((s.freshEnd e).lineEnd e).twinWindow = none := by
  rw [State.freshEnd, lineEnd_healPairs, lineEnd_modEnd_same]; rfl

theorem Gentle.endActive {e : EndId} (h : Gentle r s)
    (twin : EndOk (s.lineEnd e) → (s.lineEnd e).twinWindow = none) : Gentle r (s.endActive e) := by
  unfold State.endActive
  split
  · exact h.enterJoining twin
  · exact h.enterOpen

theorem lineEnd_endActive_other (s : State) (e : EndId) : (s.endActive e).lineEnd e.other = s.lineEnd e.other := by
  unfold State.endActive
  split
  · exact lineEnd_enterJoining_other s e
  · exact lineEnd_enterOpen_other s e

@[simp] theorem asleep_endActive (s : State) (e : EndId) : (s.endActive e).asleep = s.asleep := asleep_of_forget (by simp)

theorem endReset_eq (s : State) (e : EndId) :
    s.endReset e = ((s.freshEnd e).endActive e).reportEnd e (s.lineEnd e).link := rfl

theorem EndsOk.endReset {e : EndId} (h : EndsOk s) (z : s.asleep = false) : EndsOk (s.endReset e) := by
  rw [endReset_eq]
  refine h.awake ((Gentle.refl s).freshEnd.endActive fun _ => freshEnd_twinWindow s e).reportEnd ?_
  rw [asleep_of_skeleton_reportEnd]
  exact (asleep_of_forget (by simp [State.freshEnd])).trans z

theorem lineEnd_endStable (s : State) (e : EndId) :
    (s.endStable e).lineEnd e = { (s.lineEnd e).clearLine with
      link := if (s.lineEnd e).sense = .closed then .joining else .opened
      lastAccepted := 0, linkIdle := none, keepalive := none
      pairA := (s.lineEnd e).clearLine.pairA.heal, pairB := (s.lineEnd e).clearLine.pairB.heal } := by
  rw [State.endStable, lineEnd_healPairs, lineEnd_modEnd_same]
  cases hs : (s.lineEnd e).sense <;> simp [LineEnd.clearLine, hs, LinkState.usable]

theorem lineEnd_endStable_other (s : State) (e : EndId) : (s.endStable e).lineEnd e.other = s.lineEnd e.other := by
  rw [State.endStable, lineEnd_healPairs_other]; simp

theorem EndOk.stable {l : LineEnd} (h : EndOk l) :
    EndOk { l.clearLine with
      link := if l.sense = .closed then .joining else .opened
      lastAccepted := 0, linkIdle := none, keepalive := none
      pairA := l.clearLine.pairA.heal, pairB := l.clearLine.pairB.heal } := by
  have pairA := pairOk_of_endOk h .pairA
  have pairB := pairOk_of_endOk h .pairB
  split
  · exact h.clearLine.joining rfl none none
  · exact h.clearLine.opened _ _ (pairOk_heal l.pairA.lose pairA) (pairOk_heal l.pairB.lose pairB) _ 0 h.2.1 (Nat.zero_le _)

/-- On entry to STABLED both Ends are in order, and at rest (R24). -/
theorem EndsOk.enterStabled (h : EndsOk s) : EndsOk s.enterStabled := by
  rw [endsOk_iff] at h ⊢
  have ends : ∀ e, s.enterStabled.lineEnd e = (s.endStable e).lineEnd e := by
    intro e
    have stopped : s.enterStabled.lineEnd e = ((s.endStable .end1).endStable .end2).lineEnd e := by
      simp [State.enterStabled, State.releaseLatches, State.stageStable, State.endRise]
    rw [stopped]
    cases e
    · exact lineEnd_endStable_other (s.endStable .end1) .end2
    · rw [lineEnd_endStable, lineEnd_endStable, show (s.endStable .end1).lineEnd .end2 = s.lineEnd .end2 from
        lineEnd_endStable_other s .end1]
  refine ⟨fun e => ?_, fun _ e => ?_⟩
  · rw [ends, lineEnd_endStable]
    exact (h.1 e).stable
  · rw [ends, lineEnd_endStable]
    refine ⟨?_, rfl⟩
    simp only
    split
    · exact .inl rfl
    · exact .inr rfl

theorem EndsOk.wakeSettled (h : EndsOk s) (roles : RolesOk s) : EndsOk s.wakeSettled := by
  refine h.expire fun d hd => ?_
  obtain ⟨-, -, ⟨-, waking, -⟩, -⟩ := roles
  have z : s.asleep = true := by simp [State.asleep, waking (by rw [hd]; rfl)]
  have twin : ∀ e, (s.lineEnd e).twinWindow = none := by
    intro e
    have ok := ((endsOk_iff s).1 h).1 e
    rcases (((endsOk_iff s).1 h).2 z e).1 with joining | opened
    · exact (ok.joins joining).2
    · exact (ok.quiet opened).2.2.2.1
  have other : (((s.reach d).modPower fun p => { p with state := .active, wakeSettle := none }).endActive .end1).lineEnd .end2
      = s.lineEnd .end2 := lineEnd_endActive_other _ .end1
  refine h.awake (((((Gentle.refl s).same (t := s.reach d) (by simp) (by simp)).modPower.endActive
    fun _ => by simpa using twin .end1).endActive fun _ => by rw [other]; exact twin .end2).recomputeTarget.raise) ?_
  rw [asleep_raise, skeleton_asleep (skel_recomputeTarget _ _), asleep_endActive, asleep_endActive]
  rfl

/-! ## Resets and loading -/

theorem EndOk.hardReset (l : LineEnd) : EndOk l.hardReset := by
  have pair : ∀ x : Receiver, PairOk { PairState.reset with receiver := x } := fun _ =>
    ⟨by simp [PairState.reset], by simp [PairState.reset], by simp [PairState.reset], fun _ => by simp [PairState.reset]⟩
  exact ⟨by simp [LineEnd.hardReset, LineEnd.reset], by simp [LineEnd.hardReset, LineEnd.reset],
    by simp [LineEnd.hardReset, LineEnd.reset], by simp [LineEnd.hardReset, LineEnd.reset],
    by simp [LineEnd.hardReset, LineEnd.reset], pair _, pair _, slotsOk_empty, fun _ => ⟨rfl, rfl, rfl, rfl, rfl, rfl⟩,
    (nomatch ·), (nomatch ·), (nomatch ·)⟩

theorem endsOk_hardReset (s : State) : EndsOk s.hardReset := ⟨.hardReset _, .hardReset _, fun z => by cases z⟩

theorem EndsOk.identityToStages (h : EndsOk s) : EndsOk s.identityToStages :=
  h.engine (Gentle.refl s).identityToStages (skel_identityToStages s)

theorem EndsOk.finishLoading {o : LoadOutcome} {x : IdentityRecord} {b : Bool} (h : EndsOk s) :
    EndsOk (s.finishLoading o x b) :=
  h.awake (Gentle.refl s).modPower.raise.identityToStages
    (by rw [State.finishLoading, skeleton_asleep (skel_identityToStages _), asleep_raise]; rfl)

theorem EndsOk.resetEnd {role1 role0 idsrc : Bool} (h : EndsOk s) : EndsOk (s.resetEnd role1 role0 idsrc) := by
  unfold State.resetEnd
  split
  · simp only
    generalize htimer : (if idsrc = true then s.timerMs Config.identityReadMs else none) = timer
    have loading : EndsOk (s.modPower fun p =>
        { p with held := false, state := .loading, sourceFitted := idsrc, loadOutcome := none, readTimer := timer }) :=
      h.awake (Gentle.refl s).modPower rfl
    split
    · exact loading.modPort.modPort.startDebounce.startDebounce
    · exact EndsOk.finishLoading loading.modPort.modPort.startDebounce.startDebounce
  · exact h

theorem EndsOk.loadComplete {read : Option (List Byte)} (h : EndsOk s) : EndsOk (s.loadComplete read) := by
  unfold State.loadComplete
  split
  · split
    · exact h.finishLoading
    · split
      · exact h.finishLoading
      · exact h.finishLoading
  · exact h

theorem EndsOk.nodeReset (h : EndsOk s) : EndsOk s.nodeReset := by
  have blocks : EndsOk s.resetBlocks := h.same (fun e => by cases e <;> rfl) rfl
  have reset : EndsOk s.resetBlocks.stageNodeReset :=
    blocks.engine (Gentle.refl _).stageNodeReset (skel_stageNodeReset _)
  unfold State.nodeReset
  simp only
  split
  · exact reset.engine (Gentle.refl _).modInaug.raise (by simp)
  · exact reset

/-! ## Written bytes -/

theorem EndOk.clearCount {l : LineEnd} (h : EndOk l) (c : EndCount) : EndOk (l.clearCount c) := by
  obtain ⟨stray, drops, accepted, tx, queue, pairA, pairB, slots, quiet, follows⟩ := h
  cases c
  · exact ⟨stray, drops, accepted, tx, queue, ⟨pairA.1, pairA.2.1, Nat.zero_le _, pairA.2.2.2⟩, pairB, slots, quiet, follows⟩
  · exact ⟨stray, drops, accepted, tx, queue, pairA, ⟨pairB.1, pairB.2.1, Nat.zero_le _, pairB.2.2.2⟩, slots, quiet, follows⟩
  · exact ⟨Nat.zero_le _, drops, accepted, tx, queue, pairA, pairB, slots, quiet, follows⟩
  · exact ⟨stray, Nat.zero_le _, accepted, tx, queue, pairA, pairB, slots, quiet, follows⟩

theorem EndsOk.clearCount {e : EndId} {c : EndCount} (h : EndsOk s) : EndsOk (s.modEnd e fun l => l.clearCount c) :=
  h.modEnd (fun hl => hl.clearCount c) fun _ => by cases c <;> exact ⟨rfl, rfl⟩

theorem EndsOk.fieldTaken {offset n : Nat} (h : EndsOk s) : EndsOk (s.fieldTaken offset n) := by
  unfold State.fieldTaken
  simp only
  have taken : EndsOk (s.modPower fun x => { x with record := x.record.setField offset n }) :=
    h.keep (Gentle.refl s).modPower fun z => ⟨z, fun e => by simp⟩
  have left : EndsOk ((s.modPower fun x => { x with record := x.record.setField offset n }).goUnassigned .identityChange) :=
    taken.engine (Gentle.refl _).goUnassigned (skel_goUnassigned _ _)
  split
  · split
    · exact left.identityToStages
    · exact taken.identityToStages
  · split
    · exact left
    · exact taken

theorem EndsOk.judgeField {p : PortId} {offset : Nat} {v : Byte} (h : EndsOk s) : EndsOk (s.judgeField p offset v) := by
  unfold State.judgeField
  simp only
  have judged : ∀ o, EndsOk (({ s with freeCount := s.freeCount + 32 } : State).modPower fun x =>
      { x with lastIdentityWrite := o }) := fun o =>
    h.keep ((Gentle.refl s).same (fun e => by cases e <;> rfl) (fun p => by cases p <;> rfl)) fun z => ⟨z, fun e => by cases e <;> exact ⟨rfl, rfl⟩⟩
  split
  · exact (judged _).fieldTaken
  · exact judged _

theorem EndsOk.registerWrite {p : PortId} {address : Nat} {v : Byte} (h : EndsOk s) : EndsOk (s.registerWrite p address v) := by
  refine h.write fun u hu _ => ?_
  split
  · unfold State.writeFixed
    repeat' split
    all_goals first | exact hu.modPort | exact hu
  · unfold State.writeInArea State.writeIdentity
    simp only
    split
    · split
      · exact hu.clearCount
      · exact hu
    · split
      · unfold State.writeMessageWindow
        split
        · split
          · exact hu.engine (Gentle.refl u).modMsg rfl
          · exact hu
        · exact hu
      · split
        · split
          · exact hu.judgeField
          · split
            · exact hu.modPort
            · exact hu
        · exact hu

/-! ## Timers, transactions and messages -/

theorem EndsOk.portAndMessages {t : State} (h : EndsOk s)
    (f : t.forget [.messages, .portOf .portA, .portOf .portB] = s.forget [.messages, .portOf .portA, .portOf .portB]) :
    EndsOk t := by
  have c := (onlyChanges_iff_forget _ s t).2 f
  exact h.same (fun e => c.2 (.endOf e) (by simp)) (c.2 .power (by simp))

theorem EndsOk.lockIdentity (h : EndsOk s) : EndsOk s.lockIdentity := by
  have locked : EndsOk (s.modPower fun p => { p with locked := true }) :=
    h.keep (Gentle.refl s).modPower fun z => ⟨z, fun e => by simp⟩
  exact locked.engine (Gentle.refl _).sourceChanged (skel_sourceChanged _)

theorem EndsOk.endResetNamed {p : PortId} (h : EndsOk s) (z : s.asleep = false) : EndsOk (s.endResetNamed p) := by
  unfold State.endResetNamed
  split
  · exact h.endReset z
  · exact h

theorem EndsOk.wakeCommand {p : PortId} (h : EndsOk s) : EndsOk (s.live fun s => s.wakeWritten p) := by
  refine h.live ?_
  unfold State.wakeWritten
  split
  · simp only
    split
    · exact (EndsOk.wakeBy h.modPort).modPort
    · exact EndsOk.modPort h.modPort
  · exact h

/-- What HOP_TIMER_EXPIRY does at its moment (R27, R31). -/
def State.hopExpired (s : State) : State :=
  let s := s.modInaug fun i => { i with hopTimer := none }
  match s.counted with
  | some r => if s.claiming then s.loneHead r true else s.tailTally r .truncated
  | none => s

theorem hopExpiry_eq (s : State) : s.hopExpiry = s.expire s.inaug.hopTimer State.hopExpired := rfl

theorem Gentle.hopExpired (h : Gentle r s) : Gentle r s.hopExpired := by
  unfold State.hopExpired
  simp only
  split
  · split
    · exact h.modInaug.loneHead
    · exact h.modInaug.tailTally
  · exact h.modInaug

theorem skel_hopExpired (s : State) : s.hopExpired.skeleton = s.skeleton := by
  unfold State.hopExpired
  simp only
  split
  · split <;> simp
  · simp

/-- What INAUGURATION_TIMER_EXPIRY does at its moment (R41). -/
def State.inaugurationExpired (s : State) : State :=
  let s := s.modInaug fun i => { i with inaugurationTimer := none }
  if s.claiming then
    if s.inaug.attempt < 3 then s.beginAttempt (s.inaug.attempt + 1)
    else (s.goUnassigned .claimEnded).failClaim .timeout
  else s

theorem inaugurationExpiry_eq (s : State) :
    s.inaugurationExpiry = s.expire s.inaug.inaugurationTimer State.inaugurationExpired := rfl

theorem Gentle.inaugurationExpired (h : Gentle r s) : Gentle r s.inaugurationExpired := by
  unfold State.inaugurationExpired
  simp only
  split
  · split
    · exact h.modInaug.beginAttempt
    · exact h.modInaug.goUnassigned.failClaim
  · exact h.modInaug

theorem skel_inaugurationExpired (s : State) : s.inaugurationExpired.skeleton = s.skeleton := by
  unfold State.inaugurationExpired
  simp only
  split
  · split <;> simp
  · simp

/-- What SILENCE_EXPIRY does at its moment (R63). -/
def State.silenceExpired (s : State) : State :=
  let s := s.modInaug fun i => { i with silence := none }
  match s.active with
  | some a => s.leaveWithAlert a.headward .silenceExpiry
  | none => s

theorem silenceExpiry_eq (s : State) : s.silenceExpiry = s.expire s.inaug.silence State.silenceExpired := rfl

theorem Gentle.silenceExpired (h : Gentle r s) : Gentle r s.silenceExpired := by
  unfold State.silenceExpired
  simp only
  split
  · exact h.modInaug.leaveWithAlert
  · exact h.modInaug

theorem skel_silenceExpired (s : State) : s.silenceExpired.skeleton = s.skeleton := by
  unfold State.silenceExpired
  simp only
  split <;> simp

/-- What CYCLE_TIMEOUT_EXPIRY does at its moment (R76, R77). -/
def State.cycleTimedOut (s : State) : State :=
  let s := s.modCycle fun c => { c with cycleTimeout := none }
  if s.cycle.state = .callOut then
    let s := s.unprove.countFailure .timeout
    if s.failureEnds .timeout then s.reinaugurate
    else s.modCycle fun c => { c with state := .idleContinuous }
  else s

theorem cycleTimeoutExpiry_eq (s : State) : s.cycleTimeoutExpiry = s.expire s.cycle.cycleTimeout State.cycleTimedOut := rfl

theorem Gentle.cycleTimedOut (h : Gentle r s) : Gentle r s.cycleTimedOut := by
  unfold State.cycleTimedOut
  simp only
  split
  · split
    · exact h.modCycle.unprove.countFailure.reinaugurate
    · exact h.modCycle.unprove.countFailure.modCycle
  · exact h.modCycle

theorem skel_cycleTimedOut (s : State) : s.cycleTimedOut.skeleton = s.skeleton := by
  unfold State.cycleTimedOut
  simp only
  split
  · split <;> simp
  · simp

theorem EndsOk.stageTimerExpiry {k : Nat} (h : EndsOk s) : EndsOk (s.stageTimerExpiry k) := by
  unfold State.stageTimerExpiry
  split
  · exact h.expire fun _ _ => h.reach.engine (Gentle.refl _).stageExpired (skel_stageExpired _ _)
  · exact h

theorem EndsOk.serverStep (h : EndsOk s) : EndsOk (if s.power.state = .active then s.serverStep else s) := by
  split
  · exact h.portAndMessages (by simp)
  · exact h

theorem EndsOk.deadlineExpiry {n : Nat} (h : EndsOk s) : EndsOk (s.deadlineExpiry n) := by
  unfold State.deadlineExpiry
  split
  · exact h.expire fun d _ => (h.reach (d := d)).portAndMessages (by simp)
  · exact h

theorem EndsOk.transactionStart {p : PortId} {c : Option Byte} (h : EndsOk s) : EndsOk (s.transactionStart p c) := by
  unfold State.transactionStart
  split
  · exact h
  · exact h.modPort

theorem EndsOk.areaCapture {p : PortId} (h : EndsOk s) : EndsOk (s.areaCapture p) := by
  unfold State.areaCapture
  split
  · simp only
    split
    · exact EndsOk.modPort h.modPort
    · exact h
  · exact h

theorem EndsOk.stageRead {p : PortId} {stage plain offset : Nat} {f : State → State} (h : EndsOk s)
    (hf : ∀ u : State, EndsOk u → EndsOk (f u)) : EndsOk (s.stageRead p stage plain offset f) := by
  refine h.live ?_
  split
  · exact hf s h
  · exact h

theorem EndsOk.stageLowRead {p : PortId} {k : Nat} (h : EndsOk s) : EndsOk (s.stageLowRead p k) := by
  unfold State.stageLowRead
  simp only
  split
  · exact h.modPort
  · exact EndsOk.modPort h.modPort

theorem EndsOk.stageHighRead {p : PortId} {k : Nat} (h : EndsOk s) : EndsOk (s.stageHighRead p k) := by
  unfold State.stageHighRead
  simp only
  split
  · exact h.modPort
  · split
    · split
      · exact EndsOk.modPort h.modPort
      · exact h.modPort
    · exact h.modPort

/-! ## Every command -/

/-- A command is answered with a next state that has a property. -/
def Answers (P : State → Prop) : Host.Outcome State Fault Refusal → Prop
  | .next t => P t
  | .fault _ | .refused _ => False

/-- The port commands, those of the table of 10.3. -/
theorem portCommand_endsOk (h : EndsOk s) (c : Instr) (hc : (commandNeed c).isSome = true) : Answers EndsOk (exec c s) := by
  cases c
  case claimCab p => exact h.engineCommand (fun u => (Gentle.refl u).claimCab) skel_claimCab
  case releaseCab p => exact h.engineCommand (fun u => (Gentle.refl u).releaseCab) skel_releaseCab
  case setStandstill p => exact h.engineCommand (fun u => (Gentle.refl u).setStandstill) fun u => skel_setStandstill u _
  case issueOrder p => exact h.engineCommand (fun u => (Gentle.refl u).issueFromOperands) fun u => skel_issueFromOperands u p
  case writeDoorStatus p => exact h.engineCommand (fun u => (Gentle.refl u).writeDoorStatus) fun u => skel_writeDoorStatus u _
  case localClose p => exact h.engineCommand (fun u => (Gentle.refl u).localClose) fun u => skel_localClose u _
  case setLineTiming p => exact h.engineCommand (fun u => (Gentle.refl u).setLineTiming) fun u => skel_setLineTiming u _
  case setDemand p => exact h.engineCommand (fun u => (Gentle.refl u).setDemand) fun u => skel_setDemand u _
  case setSupplyBudget p => exact h.engineCommand (fun u => (Gentle.refl u).setBudget) fun u => skel_setBudget u _
  case selectPosition p => exact h.command fun u hu _ => hu.modPort
  case take p => exact h.command fun u hu _ => hu.portAndMessages (by simp)
  case selectBuffer p => exact h.command fun u hu _ => hu.modPort
  case post p => exact h.command fun u hu _ => hu.portAndMessages (by simp)
  case fetch p => exact h.command fun u hu _ => hu.portAndMessages (by simp)
  case returnBuffer p => exact h.command fun u hu _ => hu.portAndMessages (by simp)
  case setQuotas p => exact h.command fun u hu _ => hu.portAndMessages (by simp)
  case nodeReset p => exact h.command fun u hu _ => hu.nodeReset
  case endReset p => exact h.command fun u hu z => hu.endResetNamed z
  case stable p => exact h.command fun u hu _ => hu.enterStabled
  case lockIdentity p => exact h.command fun u hu _ => hu.lockIdentity
  all_goals cases hc

theorem writeOpcode_endsOk (h : EndsOk s) (p : PortId) (opcode : Nat) : Answers EndsOk (writeOpcode p opcode s) := by
  unfold writeOpcode
  split
  · exact portCommand_endsOk h (.claimCab p) rfl
  · exact portCommand_endsOk h (.releaseCab p) rfl
  · exact portCommand_endsOk h (.setStandstill p) rfl
  · exact portCommand_endsOk h (.issueOrder p) rfl
  · exact portCommand_endsOk h (.writeDoorStatus p) rfl
  · exact portCommand_endsOk h (.localClose p) rfl
  · exact portCommand_endsOk h (.setLineTiming p) rfl
  · exact portCommand_endsOk h (.setDemand p) rfl
  · exact portCommand_endsOk h (.setSupplyBudget p) rfl
  · exact portCommand_endsOk h (.selectPosition p) rfl
  · exact portCommand_endsOk h (.take p) rfl
  · exact portCommand_endsOk h (.selectBuffer p) rfl
  · exact portCommand_endsOk h (.post p) rfl
  · exact portCommand_endsOk h (.fetch p) rfl
  · exact portCommand_endsOk h (.returnBuffer p) rfl
  · exact portCommand_endsOk h (.setQuotas p) rfl
  · exact portCommand_endsOk h (.nodeReset p) rfl
  · exact portCommand_endsOk h (.endReset p) rfl
  · exact portCommand_endsOk h (.stable p) rfl
  · exact h.wakeCommand
  · exact portCommand_endsOk h (.lockIdentity p) rfl
  · exact h.write fun u hu _ => hu.modPort

/-- Every command keeps both Ends as their rules keep them. -/
theorem exec_endsOk (h : EndsOk s) (roles : RolesOk s) (c : Instr) : Answers EndsOk (exec c s) := by
  cases c
  case powerOnReset => exact endsOk_hardReset s
  case resetPin => exact endsOk_hardReset s
  case resetEnd => exact h.resetEnd
  case loadComplete => exact h.live h.loadComplete
  case identityReadTimeout => exact h.live (h.expire fun _ _ => h.reach.finishLoading)
  case rawSenseChange => exact h.rawChange
  case senseDebounceExpiry => exact h.live h.debounceExpiry
  case copyStart => exact h.live h.copyStart
  case lineIdleAbort => exact h.live h.idleAbort
  case copyReceived => exact h.live h.copyReceived
  case twinWindowExpiry => exact h.live h.twinExpiry
  case linkIdleExpiry => exact h.live h.linkIdleExpiry
  case keepaliveExpiry => exact h.whileAwake fun _ => h.keepaliveExpiry
  case arbiterTake => exact h.whileAwake fun _ => h.arbiterTake
  case transmitComplete => exact h.whileAwake fun _ => h.transmitComplete
  case callOriginate => exact h.whileAwake fun _ => h.engine (Gentle.refl s).callOriginate (skel_callOriginate s)
  case hopTimerExpiry => exact h.engineExpiry (fun u => (Gentle.refl u).hopExpired) skel_hopExpired
  case inaugurationTimerExpiry => exact h.engineExpiry (fun u => (Gentle.refl u).inaugurationExpired) skel_inaugurationExpired
  case commitWaitExpiry => exact h.engineExpiry (fun u => (Gentle.refl u).modInaug.goUnassigned) fun u => by simp
  case silenceExpiry => exact h.engineExpiry (fun u => (Gentle.refl u).silenceExpired) skel_silenceExpired
  case cycleTimeoutExpiry => exact h.engineExpiry (fun u => (Gentle.refl u).cycleTimedOut) skel_cycleTimedOut
  case periodTimerExpiry => exact h.engineExpiry (fun u => (Gentle.refl u).modCycle) fun u => by simp
  case refreshTimerExpiry => exact h.engineExpiry (fun u => (Gentle.refl u).modCycle) fun u => by simp
  case closeTimerExpiry => exact h.engineExpiry (fun u => (Gentle.refl u).modDoor.raise) fun u => by simp
  case attendanceTimerExpiry =>
    exact h.engineExpiry (fun u => (Gentle.refl u).modDoor.sourceChanged.withdrawSide.withdrawSide.raise)
      fun u => by simp [State.bothSides]
  case proofLifetimeExpiry => exact h.engineExpiry (fun u => (Gentle.refl u).unprove) skel_unprove
  case stageTimerExpiry stage => exact h.live h.stageTimerExpiry
  case transmitServerStep => exact h.live h.serverStep
  case storingEnd => exact h.live (h.engine ((Gentle.refl s).messagesOnly (by simp)) (skel_storingEnd s _))
  case deadlineExpiry => exact h.live h.deadlineExpiry
  case wakeSettleExpiry => exact h.live (h.wakeSettled roles)
  case transactionStart => exact h.live h.transactionStart
  case transactionEnd => exact h.live h.modPort
  case areaCapture => exact h.live h.areaCapture
  case stageTimerLowRead => exact h.stageRead fun u hu => hu.stageLowRead
  case stageTimerHighRead => exact h.stageRead fun u hu => hu.stageHighRead
  case flagClear => exact h.write fun u hu _ => hu.modPort
  case enableWrite => exact h.write fun u hu _ => hu.modPort
  case countClearWrite => exact h.writeArea fun u hu _ => hu.clearCount
  case identityFieldWrite p offset v =>
    show EndsOk (if identityFieldEnds.contains offset = true then _ else s)
    split
    · exact h.writeArea fun u hu _ => hu.judgeField
    · exact h
  case registerWrite p address v =>
    show Answers EndsOk (if address = opcodeAddress then writeOpcode p v.toNat s else .next (s.registerWrite p address v))
    split
    · exact writeOpcode_endsOk h p v.toNat
    · exact h.registerWrite
  case wakeCommand => exact h.wakeCommand
  all_goals exact portCommand_endsOk h _ rfl

/-- Settles O3, by the invariant of each End under every operation of its own and under the engines' traffic. -/
theorem everyStepKeepsTheEnds : Obligations.EveryStepKeepsTheEnds := by
  intro s t roles h hs
  unfold step at hs
  split at hs
  · cases hs
    exact h.same (fun e => by cases e <;> rfl) rfl
  · next c rest _ =>
    have queue : EndsOk { s with pending := rest } := h.same (fun e => by cases e <;> rfl) rfl
    have answers := exec_endsOk queue roles c
    rw [hs] at answers
    exact answers

end Sys2Proof.Machine

/-! SUPPORT. Flags that stay set, blocks that stay the same, and what reports and frames handed on leave of an End. -/

namespace Sys2Proof.Machine

variable {r s t : State}

/-! ## Flags that stay set -/

/-- A cause's flag is stored in a copy of the events. -/
def GroupBytes.holds (x : GroupBytes) (c : Cause) : Prop := x.get c.group &&& c.mask = c.mask

/-- Bits that are set stay set where others are set beside them. -/
theorem or_and_of_and {x m : Byte} (h : x &&& m = m) (y : Byte) : (x ||| y) &&& m = m := by
  ext i hi
  have bit := congrArg (fun v : Byte => v[i]) h
  simp only [BitVec.getElem_and, BitVec.getElem_or] at bit ⊢
  revert bit
  cases x[i] <;> cases m[i] <;> simp

theorem FlagsKept.holds {x y : GroupBytes} {c : Cause} (h : FlagsKept x y) (hx : x.holds c) : y.holds c := by
  unfold GroupBytes.holds
  rw [h c.group]
  exact or_and_of_and hx _

theorem holds_raise (s : State) (c : Cause) (p : PortId) : ((s.raise c).port p).flags.holds c := by
  have stored : ((s.raise c).port p).flags.get c.group = c.mask ||| (s.port p).flags.get c.group := by
    cases p <;> simp [State.raise, State.raiseAt, State.port, State.modPort, Port.raise, BitVec.or_comm]
  unfold GroupBytes.holds
  rw [stored]
  exact or_and_of_and BitVec.and_self _

theorem mask_ne_zero (c : Cause) : c.mask ≠ 0 := by
  cases c with
  | couplingChanged e => cases e <;> decide
  | _ => decide

/-- A port reads at least the stored flags. -/
theorem flagByte_eq_or (s : State) (p : PortId) (g : Group) : ∃ x, s.flagByte p g = (s.port p).flags.get g ||| x := by
  unfold State.flagByte
  simp only
  split
  · split
    · exact ⟨_, BitVec.or_self.symm⟩
    · exact ⟨_, rfl⟩
  · exact ⟨_, BitVec.or_self.symm⟩

theorem raisedAt_of_holds {c : Cause} (h : ∀ p, (t.port p).flags.holds c) : RaisedAt c t := by
  intro p
  obtain ⟨x, read⟩ := flagByte_eq_or t p c.group
  have set : t.flagByte p c.group &&& c.mask = c.mask := by
    rw [read]
    exact or_and_of_and (h p) x
  unfold State.flagSet
  rw [set, bne_iff_ne]
  exact mask_ne_zero c

theorem Gentle.raised {c : Cause} (h : Gentle (s.raise c) t) : RaisedAt c t :=
  raisedAt_of_holds fun p => (h.flags p).holds (holds_raise s c p)

/-! ## Blocks that stay the same -/

theorem sameBlock_of_forget {L : List Block} (h : t.forget L = s.forget L) (b : Block) (hb : b ∉ L) : SameBlock s t b :=
  ((onlyChanges_iff_forget L s t).2 h).2 b hb

/-- What stays outside some blocks stays outside more of them. -/
theorem forget_mono {L M : List Block} (h : t.forget L = s.forget L) (sub : ∀ b ∈ L, b ∈ M) :
    t.forget M = s.forget M := by
  rw [← onlyChanges_iff_forget] at h ⊢
  exact ⟨h.1, fun b hb => h.2 b fun m => hb (sub b m)⟩

/-! ## What engines leave of an End -/

/-- An End after an engine is the End before it with other frames waiting. -/
theorem lineEnd_of_skeleton (h : t.skeleton = s.skeleton) (e : EndId) : ∃ slots queue drops,
    t.lineEnd e = { s.lineEnd e with slots := slots, throughQueue := queue, throughDrop := drops } := by
  refine ⟨(t.lineEnd e).slots, (t.lineEnd e).throughQueue, (t.lineEnd e).throughDrop, ?_⟩
  have still := skeleton_still h e
  revert still
  cases t.lineEnd e
  cases s.lineEnd e
  simp only [LineEnd.still, LineEnd.mk.injEq, true_and]
  exact id

theorem skeleton_usable (h : t.skeleton = s.skeleton) (e : EndId) : t.usable e = s.usable e := by
  unfold State.usable
  rw [skeleton_link h e]

end Sys2Proof.Machine

/-! SUPPORT. The coupler sense of an End and its timers: the statements about them (R1, R2, R3, R19). -/

namespace Sys2Proof.Machine

variable {s t : State}

/-! ## The coupler sense -/

@[simp] theorem lineEnd_wakeBy (s : State) (c : WakeCause) (e : EndId) : (s.wakeBy c).lineEnd e = s.lineEnd e := by
  unfold State.wakeBy
  split <;> simp

theorem wakeBy_eq_self (c : WakeCause) (h : s.power.state ≠ .stabled) : s.wakeBy c = s := if_neg h

/-- A raw level that changes starts the debounce, and may wake the node (R1, R184). -/
theorem rawChange_eq {e : EndId} {level : Sense} (hold : s.power.held = false) (changes : (s.lineEnd e).rawSense ≠ level) :
    s.rawChange e level = ((s.modEnd e fun l => { l with rawSense := level }).startDebounce e).wakeBy (.sense e) := by
  unfold State.rawChange
  rw [if_neg changes]
  exact live_of_free _ _ (by simpa using hold)

theorem lineEnd_rawChange {e : EndId} {level : Sense} (hold : s.power.held = false)
    (changes : (s.lineEnd e).rawSense ≠ level) : (s.rawChange e level).lineEnd e = { s.lineEnd e with
      rawSense := level, debounce := if level = (s.lineEnd e).sense then none else some (s.now + 100000) } := by
  rw [rawChange_eq hold changes]
  simp [State.startDebounce, State.timerMs, State.timerUs, Config.ms, Config.debounceMs]

/-- The debounced sense takes up the raw level at a moment (R1). -/
def State.sensed (s : State) (e : EndId) (d : Nat) : State :=
  (({ s with now := max s.now d }).modEnd e fun l => { l with sense := l.rawSense, debounce := none }).raise
    (.couplingChanged e)

theorem debounceExpiry_eq {e : EndId} {d : Nat} (hd : (s.lineEnd e).debounce = some d) :
    s.debounceExpiry e = if s.asleep then s.sensed e d
      else ((s.sensed e d).linkBySense e).reportEnd e (s.lineEnd e).link := by
  unfold State.debounceExpiry
  rw [hd, expire_some]
  have asleep : ((s.reach d).modEnd e fun l => { l with sense := l.rawSense, debounce := none }).asleep = s.asleep := by
    simp
  simp only [lineEnd_reach, asleep_raise, asleep]
  rfl

theorem lineEnd_sensed (s : State) (e : EndId) (d : Nat) : (s.sensed e d).lineEnd e =
    { s.lineEnd e with sense := (s.lineEnd e).rawSense, debounce := none } := by
  unfold State.sensed
  rw [lineEnd_raise, lineEnd_modEnd_same]
  cases e <;> rfl

theorem sensed_now (s : State) (e : EndId) (d : Nat) : (s.sensed e d).now = max s.now d := by
  cases e <;> rfl

theorem forget_sensed (L : List Block) (s : State) (e : EndId) (d : Nat) (ht : Block.clock ∈ L) (he : Block.endOf e ∈ L)
    (hP : ∀ p, Block.portOf p ∈ L) : (s.sensed e d).forget L = s.forget L := by
  unfold State.sensed
  rw [forget_raise _ _ _ hP, forget_modEnd _ _ _ _ he]
  exact forget_reach L s d ht

/-- The link state takes up a sense without touching sense and debounce (R1, R2). -/
theorem sense_linkBySense (s : State) (e : EndId) : ((s.linkBySense e).lineEnd e).sense = (s.lineEnd e).sense
    ∧ ((s.linkBySense e).lineEnd e).debounce = (s.lineEnd e).debounce := by
  unfold State.linkBySense
  split
  · rw [lineEnd_enterOpen]; exact ⟨rfl, rfl⟩
  · rw [lineEnd_enterJoining]; exact ⟨rfl, rfl⟩
  · exact ⟨rfl, rfl⟩

theorem linkBySense_opened {e : EndId} (h : (s.lineEnd e).sense = .opened) : s.linkBySense e = s.enterOpen e := by
  unfold State.linkBySense
  rw [h]

theorem linkBySense_joining {e : EndId} (h : (s.lineEnd e).sense = .closed) (o : (s.lineEnd e).link = .opened) :
    s.linkBySense e = s.enterJoining e := by
  unfold State.linkBySense
  rw [h, o]

theorem linkBySense_now (s : State) (e : EndId) : (s.linkBySense e).now = s.now :=
  sameBlock_of_forget (L := [.endOf e, .portOf .portA, .portOf .portB]) (by simp) .clock (by simp)

/-- The link state that a closed sense takes an OPEN End into (R1, R2). -/
theorem lineEnd_report_joining {e : EndId} (old : LinkState) (c : (s.lineEnd e).sense = .closed)
    (o : (s.lineEnd e).link = .opened) (l : LineEnd) (hl : ((s.linkBySense e).reportEnd e old).lineEnd e = l) :
    l.link = .joining ∧ l.lastAccepted = 0 ∧ l.pairA.health = .healthy ∧ l.pairA.miss = 0
      ∧ l.pairB.health = .healthy ∧ l.pairB.miss = 0 ∧ l.linkIdle = some (s.now + 200000)
      ∧ l.keepalive = some (s.now + 50000) := by
  obtain ⟨slots, queue, drops, same⟩ := lineEnd_of_skeleton (skel_reportEnd (s.linkBySense e) e old) e
  rw [← hl, same, linkBySense_joining c o, lineEnd_enterJoining]
  exact ⟨rfl, rfl, rfl, rfl, rfl, rfl, rfl, rfl⟩

theorem lineEnd_report_opened {e : EndId} (old : LinkState) (c : (s.lineEnd e).sense = .opened) (l : LineEnd)
    (hl : ((s.linkBySense e).reportEnd e old).lineEnd e = l) :
    l.link = .opened ∧ l.sending = none ∧ l.twinWindow = none ∧ l.linkIdle = none ∧ l.keepalive = none := by
  obtain ⟨slots, queue, drops, same⟩ := lineEnd_of_skeleton (skel_reportEnd (s.linkBySense e) e old) e
  rw [← hl, same, linkBySense_opened c, lineEnd_enterOpen]
  exact ⟨rfl, rfl, rfl, rfl, rfl⟩

/-- The debounced sense and its timer after the expiry, asleep or awake (R1). -/
theorem sense_debounceExpiry {e : EndId} {d : Nat} (hd : (s.lineEnd e).debounce = some d) :
    ((s.debounceExpiry e).lineEnd e).sense = (s.lineEnd e).rawSense ∧ ((s.debounceExpiry e).lineEnd e).debounce = none := by
  rw [debounceExpiry_eq hd]
  split
  · rw [lineEnd_sensed]; exact ⟨rfl, rfl⟩
  · obtain ⟨slots, queue, drops, same⟩ :=
      lineEnd_of_skeleton (skel_reportEnd ((s.sensed e d).linkBySense e) e (s.lineEnd e).link) e
    rw [same]
    have kept := sense_linkBySense (s.sensed e d) e
    rw [lineEnd_sensed] at kept
    exact kept

theorem now_debounceExpiry {e : EndId} {d : Nat} (hd : (s.lineEnd e).debounce = some d) :
    (s.debounceExpiry e).now = max s.now d := by
  rw [debounceExpiry_eq hd]
  split
  · exact sensed_now s e d
  · rw [skeleton_now (skel_reportEnd _ _ _), linkBySense_now, sensed_now]

theorem raised_debounceExpiry {e : EndId} {d : Nat} (hd : (s.lineEnd e).debounce = some d) :
    RaisedAt (.couplingChanged e) (s.debounceExpiry e) := by
  rw [debounceExpiry_eq hd]
  refine Gentle.raised
    (s := ({ s with now := max s.now d }).modEnd e fun l => { l with sense := l.rawSense, debounce := none }) ?_
  split
  · exact Gentle.refl _
  · exact (Gentle.refl _).linkBySense.reportEnd

/-- Settles O26: the expiry takes up the raw level, and an awake End then goes where its sense says and reports it. -/
theorem senseIsDebouncedFor100Milliseconds : Obligations.SenseIsDebouncedFor100Milliseconds := by
  unfold Obligations.SenseIsDebouncedFor100Milliseconds
  constructor
  · intro s e level hold changes
    refine ⟨s.rawChange e level, rfl, lineEnd_rawChange hold changes, fun awake => ?_, ?_⟩
    · rw [rawChange_eq hold changes, wakeBy_eq_self _ (by simpa [State.startDebounce] using awake)]
      simp [State.startDebounce]
    · rw [onlyChanges_iff_forget, rawChange_eq hold changes]
      simp
  · intro s e d hold hd
    have awakeCase (z : s.asleep = false) :
        s.debounceExpiry e = ((s.sensed e d).linkBySense e).reportEnd e (s.lineEnd e).link := by
      rw [debounceExpiry_eq hd, z]; rfl
    have sense : ((s.sensed e d).lineEnd e).sense = (s.lineEnd e).rawSense := by rw [lineEnd_sensed]
    refine ⟨s.debounceExpiry e, congrArg Host.Outcome.next (live_of_free _ _ hold), now_debounceExpiry hd,
      (sense_debounceExpiry hd).1, (sense_debounceExpiry hd).2, raised_debounceExpiry hd, ?_, ?_, awakeCase, ?_, ?_⟩
    · rw [onlyChanges_iff_forget, debounceExpiry_eq hd]
      have sensed : (s.sensed e d).forget (.clock :: roleBlocks) = s.forget (.clock :: roleBlocks) :=
        forget_sensed _ _ _ _ (by simp [roleBlocks]) (by simp [roleBlocks]) (by simp [roleBlocks])
      split
      · exact sensed
      · rw [← sensed]; simp [roleBlocks]
    · intro z
      rw [debounceExpiry_eq hd, z]
      refine ⟨by rw [if_pos rfl, lineEnd_sensed], fun p => ?_, ?_⟩
      · rw [if_pos rfl, State.sensed, raise_raisedOnly _ _ p, port_modEnd]
        cases p <;> rfl
      · rw [onlyChanges_iff_forget]
        exact forget_sensed _ _ _ _ (by simp) (by simp) (by simp)
    · intro z raw
      exact lineEnd_report_opened (s.lineEnd e).link (sense.trans raw) _ (by rw [awakeCase z])
    · intro z raw link
      rw [now_debounceExpiry hd, ← sensed_now s e d]
      exact lineEnd_report_joining (s.lineEnd e).link (sense.trans raw) (by rw [lineEnd_sensed]; exact link) _
        (by rw [awakeCase z])

end Sys2Proof.Machine

/-! SUPPORT. Copies that start, break off, are bad, stray or lost (R5, R184, R187). -/

namespace Sys2Proof.Machine

variable {s t : State}

/-! ## A pair at an End -/

@[simp] theorem lineEnd_modPairAt (s : State) (e : EndId) (p : Pair) (f : PairState → PairState) :
    (s.modPairAt e p f).lineEnd e = (s.lineEnd e).modPair p f := by simp [State.modPairAt]

@[simp] theorem lineEnd_setReceiver (s : State) (e : EndId) (p : Pair) (x : Receiver) :
    (s.setReceiver e p x).lineEnd e = (s.lineEnd e).modPair p fun q => { q with receiver := x } :=
  lineEnd_modPairAt s e p _

@[simp] theorem lineEnd_badCopy (s : State) (e : EndId) (p : Pair) :
    (s.badCopy e p).lineEnd e = (s.lineEnd e).modPair p PairState.bad := lineEnd_modPairAt s e p _

theorem modPair_modPair (l : LineEnd) (p : Pair) (f g : PairState → PairState) :
    (l.modPair p f).modPair p g = l.modPair p fun q => g (f q) := by cases p <;> rfl

theorem modPair_const (l : LineEnd) (p : Pair) (f : PairState → PairState) :
    l.modPair p f = l.modPair p fun _ => f (l.pair p) := by cases p <;> rfl

theorem bad_eq (q : PairState) : q.bad = { q with frameErrors := min 255 (q.frameErrors + 1) } := rfl

/-! ## What a copy does to the counts -/

/-- A start while a copy is in assembly ends that copy as bad (R5). -/
theorem lineEnd_copyStart {e : EndId} {p : Pair} (z : s.asleep = false) : (s.copyStart e p).lineEnd e =
    (s.lineEnd e).modPair p fun q =>
      { (if q.receiver = .assembling then q.bad else q) with receiver := .assembling } := by
  unfold State.copyStart
  rw [if_neg (by simp [z])]
  rw [modPair_const]
  by_cases assembling : s.receiver e p = .assembling
  · have here : ((s.lineEnd e).pair p).receiver = .assembling := assembling
    simp only [assembling, if_true, lineEnd_setReceiver, lineEnd_badCopy, modPair_modPair]
    rw [modPair_const, here, if_pos rfl]
  · have here : ((s.lineEnd e).pair p).receiver ≠ .assembling := assembling
    simp only [assembling, if_false, lineEnd_setReceiver]
    rw [modPair_const, if_neg here]

theorem forget_copyStart_awake (L : List Block) {e : EndId} {p : Pair} (z : s.asleep = false) (he : Block.endOf e ∈ L) :
    (s.copyStart e p).forget L = s.forget L := by
  unfold State.copyStart
  rw [if_neg (by simp [z])]
  simp only
  split <;> simp [he]

theorem lineEnd_idleAbort (s : State) (e : EndId) (p : Pair) : (s.idleAbort e p).lineEnd e =
    (s.lineEnd e).modPair p fun q =>
      { (if q.receiver = .assembling ∧ s.asleep = false then q.bad else q) with receiver := .idle } := by
  unfold State.idleAbort
  simp only
  rw [modPair_const]
  by_cases lost : s.receiver e p = .assembling ∧ s.asleep = false
  · have here : ((s.lineEnd e).pair p).receiver = .assembling := lost.1
    rw [if_pos lost, lineEnd_badCopy, lineEnd_setReceiver, modPair_modPair, modPair_const, here, if_pos ⟨rfl, lost.2⟩]
    rfl
  · have here : ¬(((s.lineEnd e).pair p).receiver = .assembling ∧ s.asleep = false) := lost
    rw [if_neg lost, lineEnd_setReceiver, modPair_const, if_neg here]

/-- A copy that reaches an End is judged; one that was lost only frees its receiver (R5, R184). -/
theorem copyReceived_reaches {e : EndId} {p : Pair} {bytes : List Byte} (h : CopyReaches s e p) :
    s.copyReceived e p bytes = (s.setReceiver e p .idle).judgeCopy e p bytes := by
  obtain ⟨-, awake, whole⟩ := h
  unfold State.copyReceived
  simp [awake, whole]

theorem copyReceived_lost {e : EndId} {p : Pair} {bytes : List Byte} (hold : s.power.held = false) (h : ¬CopyReaches s e p) :
    s.copyReceived e p bytes = s.setReceiver e p .idle := by
  have lost : s.receiver e p = .discarding ∨ s.asleep = true := by
    by_contra neither
    simp only [not_or, Bool.not_eq_true] at neither
    exact h ⟨hold, neither.2, neither.1⟩
  unfold State.copyReceived
  rw [if_pos (by simpa using lost)]

theorem judgeCopy_bad {e : EndId} {p : Pair} {bytes : List Byte} (c : checkCopy bytes = none) :
    s.judgeCopy e p bytes = s.badCopy e p := by
  unfold State.judgeCopy
  rw [c]

theorem judgeCopy_stray {e : EndId} {p : Pair} {bytes : List Byte} {c : IntactCopy} (hc : checkCopy bytes = some c)
    (o : (s.lineEnd e).link = .opened) :
    s.judgeCopy e p bytes = s.modEnd e fun l => { l with strayCount := satAdd l.strayCount 1 } := by
  unfold State.judgeCopy
  rw [hc]
  exact if_pos (by simpa [State.isOpen] using o)

theorem judgeCopy_intact {e : EndId} {p : Pair} {bytes : List Byte} {c : IntactCopy} (hc : checkCopy bytes = some c)
    (o : (s.lineEnd e).link ≠ .opened) : s.judgeCopy e p bytes = s.filterCopy e p c := by
  unfold State.judgeCopy
  rw [hc]
  exact if_neg (by simpa [State.isOpen] using o)

theorem exec_copyReceived {e : EndId} {p : Pair} {bytes : List Byte} (hold : s.power.held = false) :
    exec (.copyReceived e p bytes) s = .next (s.copyReceived e p bytes) :=
  congrArg Host.Outcome.next (live_of_free _ _ hold)

/-- Settles O27, one outcome of a copy after the other. -/
theorem badStrayAndLostCopiesOnlyCount : Obligations.BadStrayAndLostCopiesOnlyCount := by
  unfold Obligations.BadStrayAndLostCopiesOnlyCount
  intro s e p hold
  simp only
  refine ⟨fun z => ⟨s.copyStart e p, congrArg Host.Outcome.next (live_of_free _ _ hold), ?_, ?_⟩,
    ⟨s.idleAbort e p, congrArg Host.Outcome.next (live_of_free _ _ hold), ?_, ?_⟩, fun bytes =>
    ⟨fun reaches bad => ⟨_, exec_copyReceived hold, ?_, ?_⟩, fun c reaches hc opened => ⟨_, exec_copyReceived hold, ?_, ?_⟩,
      fun lost => ⟨_, exec_copyReceived hold, ?_, ?_⟩⟩⟩
  · rw [onlyChanges_iff_forget]
    exact forget_copyStart_awake _ z (by simp)
  · rw [lineEnd_copyStart z, modPair_const, bad_eq]
  · rw [onlyChanges_iff_forget]; simp
  · rw [lineEnd_idleAbort, modPair_const, bad_eq]
  · rw [onlyChanges_iff_forget, copyReceived_reaches reaches, judgeCopy_bad bad]; simp
  · rw [copyReceived_reaches reaches, judgeCopy_bad bad, lineEnd_badCopy, lineEnd_setReceiver, modPair_modPair,
      modPair_const]
    rfl
  · rw [onlyChanges_iff_forget, copyReceived_reaches reaches,
      judgeCopy_stray hc (by rw [lineEnd_setReceiver, (link_modPair _ _ _).1]; exact opened)]
    simp
  · rw [copyReceived_reaches reaches,
      judgeCopy_stray hc (by rw [lineEnd_setReceiver, (link_modPair _ _ _).1]; exact opened), lineEnd_modEnd_same,
      lineEnd_setReceiver]
    cases p <;> rfl
  · rw [onlyChanges_iff_forget, copyReceived_lost hold lost]; simp
  · rw [copyReceived_lost hold lost, lineEnd_setReceiver]

end Sys2Proof.Machine

/-! SUPPORT. The Twin Filter: copies accepted, twins, windows that run out (R6, R7, R8, R9). -/

namespace Sys2Proof.Machine

variable {s t : State}

/-! ## What engines leave of an End, item by item -/

theorem skeleton_pair (h : t.skeleton = s.skeleton) (e : EndId) (p : Pair) : (t.lineEnd e).pair p = (s.lineEnd e).pair p := by
  obtain ⟨slots, queue, drops, same⟩ := lineEnd_of_skeleton h e
  rw [same]
  cases p <;> rfl

theorem skeleton_lastAccepted (h : t.skeleton = s.skeleton) (e : EndId) :
    (t.lineEnd e).lastAccepted = (s.lineEnd e).lastAccepted := by
  have same := congrArg LineEnd.lastAccepted (skeleton_still h e)
  exact same

theorem skeleton_twinWindow (h : t.skeleton = s.skeleton) (e : EndId) :
    (t.lineEnd e).twinWindow = (s.lineEnd e).twinWindow := by
  have same := congrArg LineEnd.twinWindow (skeleton_still h e)
  exact same

/-! ## A report of nothing gained and nothing lost -/

/-- A change between UP and DEGRADED is none to the consist (R2, R20). -/
def EndChange.quiet (c : EndChange) : Prop := c.old.usable = true ∧ c.new.usable = true

theorem EndChange.quiet.none {c : EndChange} (h : c.quiet) :
    c.gained = false ∧ c.lost = false ∧ c.opened = false ∧ c.leftOpen = false ∧ c.matters = false := by
  obtain ⟨place, old, new⟩ := c
  obtain ⟨ho, hn⟩ := h
  cases old <;> cases ho <;> cases new <;> cases hn <;> exact ⟨rfl, rfl, rfl, rfl, rfl⟩

theorem reportInauguration_quiet {c : EndChange} (h : c.quiet) : s.reportInauguration c = s := by
  obtain ⟨gained, lost, opened, leftOpen, matters⟩ := h.none
  unfold State.reportInauguration
  cases s.inaug.role with
  | unassigned => rfl
  | counted r =>
    have tail : s.tailChange r c = s := by
      unfold State.tailChange
      cases r.stage <;> simp [gained, lost, opened]
    simp only [State.reportClaiming, State.reportCounted, gained, lost, opened, leftOpen, matters, tail]
    simp
  | member a => simp [State.reportHeading, State.reportMember, gained, lost, leftOpen, matters]

/-- An End that stays usable reports nothing (R20). -/
theorem reportEnd_usable {e : EndId} {old : LinkState} (ho : old.usable = true) (hn : s.usable e = true) :
    s.reportEnd e old = s := by
  have keeps : s.discardOffer e = s := if_pos hn
  unfold State.reportEnd
  simp only [keeps]
  rw [reportInauguration_quiet (c := { place := e, old := old, new := (s.lineEnd e).link }) ⟨ho, hn⟩]
  exact ite_self s

/-! ## The window that closes -/

/-- An End whose Twin Window closes without its twin (R7, R8). -/
def LineEnd.windowShut (l : LineEnd) : LineEnd :=
  match l.twinWindow with
  | none => l
  | some w => ({ l with twinWindow := none }.modPair w.awaited PairState.missed).followHealth

theorem lineEnd_closeWindow (s : State) (e : EndId) : (s.closeWindow e).lineEnd e = (s.lineEnd e).windowShut := by
  cases window : (s.lineEnd e).twinWindow with
  | none => simp only [State.closeWindow, LineEnd.windowShut, window]
  | some w => simp only [State.closeWindow, LineEnd.windowShut, window, lineEnd_judgePair, lineEnd_modEnd_same]

theorem pair_noWindow (l : LineEnd) (p : Pair) : { l with twinWindow := none }.pair p = l.pair p := by cases p <;> rfl

theorem pair_accepted (l : LineEnd) (n : Nat) (p : Pair) : { l with lastAccepted := n }.pair p = l.pair p := by
  cases p <;> rfl

theorem pair_modPair_ne (l : LineEnd) {p q : Pair} (h : q ≠ p) (f : PairState → PairState) :
    (l.modPair p f).pair q = l.pair q := by cases p <;> cases q <;> first | rfl | exact absurd rfl h

theorem pair_other_ne (p : Pair) : p.other ≠ p := by cases p <;> decide

theorem pair_windowShut (l : LineEnd) (q : Pair) :
    l.windowShut.pair q = if l.twinWindow.map (·.awaited) = some q then (l.pair q).missed else l.pair q := by
  unfold LineEnd.windowShut
  cases l.twinWindow with
  | none => rfl
  | some w =>
    simp only [Option.map_some, Option.some.injEq, pair_followHealth]
    split
    · next here => rw [here, pair_modPair_same, pair_noWindow]
    · next beside => rw [pair_modPair_ne _ (Ne.symm beside), pair_noWindow]

theorem rest_windowShut (l : LineEnd) : l.windowShut.lastAccepted = l.lastAccepted ∧ l.windowShut.linkIdle = l.linkIdle
    ∧ l.windowShut.twinWindow = none ∧ l.windowShut.link.usable = l.link.usable
    ∧ l.windowShut.slots = l.slots ∧ l.windowShut.throughQueue = l.throughQueue := by
  unfold LineEnd.windowShut
  split
  · next none => exact ⟨rfl, rfl, none, rfl, rfl, rfl⟩
  · next w some =>
    refine ⟨?_, ?_, ?_, by rw [usable_followHealth, (link_modPair _ _ _).1], ?_, ?_⟩ <;>
      rw [followHealth_eq] <;> cases w.awaited <;> rfl

/-! ## Crediting and accepting -/

theorem credit_miss (q : PairState) : q.credit.miss = 0 := by
  unfold PairState.credit
  split
  · rfl
  · split <;> rfl

theorem bothHealthy_eq (l : LineEnd) (p : Pair) :
    l.bothHealthy = (decide ((l.pair p).health = .healthy) && decide ((l.pair p.other).health = .healthy)) := by
  cases p
  · rfl
  · exact Bool.and_comm _ _

theorem link_credited (l : LineEnd) (p : Pair) (hu : l.link.usable = true) :
    ((l.modPair p PairState.credit).followHealth).link =
      if (l.pair p).credit.health = .healthy ∧ (l.pair p.other).health = .healthy then .up else .degraded := by
  rw [followHealth_eq, (link_modPair _ _ _).1, hu]
  simp only [if_true, LineEnd.linkByHealth]
  rw [bothHealthy_eq _ p, pair_modPair_same, pair_modPair_other]
  simp only [Bool.and_eq_true, decide_eq_true_eq]

/-- An End that has accepted a first copy (R6). -/
def LineEnd.accepted (l : LineEnd) (p : Pair) (n now : Nat) : LineEnd :=
  { ({ l.windowShut with lastAccepted := n }.modPair p PairState.credit).followHealth with
    twinWindow := some { awaited := p.other, deadline := now + 2000 } }

theorem closeWindow_now (s : State) (e : EndId) : (s.closeWindow e).now = s.now :=
  sameBlock_of_forget (L := [.endOf e, .portOf .portA, .portOf .portB]) (by simp) .clock (by simp)

theorem judgePair_now (s : State) (e : EndId) (p : Pair) (f : PairState → PairState) : (s.judgePair e p f).now = s.now :=
  sameBlock_of_forget (L := [.endOf e, .portOf .portA, .portOf .portB]) (by simp) .clock (by simp)

theorem lineEnd_acceptCopy (s : State) (e : EndId) (p : Pair) (n : Nat) :
    (s.acceptCopy e p n).lineEnd e = (s.lineEnd e).accepted p n s.now := by
  unfold State.acceptCopy LineEnd.accepted
  simp only [lineEnd_modEnd_same, lineEnd_judgePair, lineEnd_closeWindow, judgePair_now, modEnd_now, closeWindow_now]
  rfl

theorem pair_window (l : LineEnd) (w : Option TwinWindow) (p : Pair) : { l with twinWindow := w }.pair p = l.pair p := by
  cases p <;> rfl

theorem pair_linkIdle_heard (l : LineEnd) (d : Timer) (p : Pair) : (l.heard d).pair p = l.pair p := by cases p <;> rfl

/-- The items of an End that has accepted a copy (R6, R7, R8). -/
theorem accepted_items (l : LineEnd) (p : Pair) (n now : Nat) (hu : l.link.usable = true) :
    (l.accepted p n now).lastAccepted = n
      ∧ (l.accepted p n now).twinWindow = some { awaited := p.other, deadline := now + 2000 }
      ∧ (l.accepted p n now).linkIdle = l.linkIdle
      ∧ (l.accepted p n now).pair p = (l.windowShut.pair p).credit
      ∧ (l.accepted p n now).pair p.other = l.windowShut.pair p.other
      ∧ (l.accepted p n now).link = (if ((l.windowShut.pair p).credit).health = .healthy
          ∧ (l.windowShut.pair p.other).health = .healthy then .up else .degraded) := by
  obtain ⟨-, idle, -, usable, -⟩ := rest_windowShut l
  unfold LineEnd.accepted
  refine ⟨?_, rfl, ?_, ?_, ?_, ?_⟩
  · rw [followHealth_eq]; cases p <;> rfl
  · rw [followHealth_eq, ← idle]; cases p <;> rfl
  · rw [pair_window, pair_followHealth, pair_modPair_same, pair_accepted]
  · rw [pair_window, pair_followHealth, pair_modPair_other, pair_accepted]
  · have link := link_credited { l.windowShut with lastAccepted := n } p (usable.trans hu)
    rw [pair_accepted, pair_accepted] at link
    exact link

/-! ## The first copy of a frame -/

/-- A copy that reaches an End that is not OPEN has been heard there (R2, R3). -/
def State.copyHeard (s : State) (e : EndId) (p : Pair) : State := (s.setReceiver e p .idle).hearCopy e

theorem lineEnd_copyHeard (s : State) (e : EndId) (p : Pair) : (s.copyHeard e p).lineEnd e =
    ((s.lineEnd e).modPair p fun q => { q with receiver := .idle }).heard (some (s.now + 200000)) := by
  unfold State.copyHeard
  rw [lineEnd_hearCopy, lineEnd_setReceiver, show (s.setReceiver e p .idle).now = s.now by
    simp [State.setReceiver, State.modPairAt]]

theorem usable_copyHeard {e : EndId} (p : Pair) (o : (s.lineEnd e).link ≠ .opened) :
    ((s.copyHeard e p).lineEnd e).link.usable = true := by
  rw [lineEnd_copyHeard]
  exact heard_usable _ _ (by rw [(link_modPair _ _ _).1]; exact o)

theorem pair_copyHeard (s : State) (e : EndId) (p q : Pair) : ((s.copyHeard e p).lineEnd e).pair q =
    if q = p then { (s.lineEnd e).pair q with receiver := .idle } else (s.lineEnd e).pair q := by
  rw [lineEnd_copyHeard, pair_linkIdle_heard]
  split
  · next here => rw [here, pair_modPair_same]
  · next beside => rw [pair_modPair_ne _ beside]

theorem rest_copyHeard (s : State) (e : EndId) (p : Pair) :
    ((s.copyHeard e p).lineEnd e).lastAccepted = (s.lineEnd e).lastAccepted
      ∧ ((s.copyHeard e p).lineEnd e).linkIdle = some (s.now + 200000)
      ∧ ((s.copyHeard e p).lineEnd e).twinWindow = (s.lineEnd e).twinWindow ∧ (s.copyHeard e p).now = s.now := by
  rw [lineEnd_copyHeard]
  refine ⟨?_, rfl, ?_, ?_⟩
  · cases p <;> rfl
  · cases p <;> rfl
  · simp [State.copyHeard, State.hearCopy, State.setReceiver, State.modPairAt]

theorem copyReceived_intact {e : EndId} {p : Pair} {bytes : List Byte} {c : IntactCopy} (reaches : CopyReaches s e p)
    (hc : checkCopy bytes = some c) (o : (s.lineEnd e).link ≠ .opened) :
    s.copyReceived e p bytes = (s.setReceiver e p .idle).filterCopy e p c := by
  rw [copyReceived_reaches reaches, judgeCopy_intact hc (by rw [lineEnd_setReceiver, (link_modPair _ _ _).1]; exact o)]

/-- The Twin Filter tells a first copy from a twin by the sequence (R6). -/
theorem filterCopy_eq (s : State) (e : EndId) (p : Pair) (c : IntactCopy) :
    (s.setReceiver e p .idle).filterCopy e p c =
      if c.sequence = (s.lineEnd e).lastAccepted then ((s.copyHeard e p).twin e p).reportEnd e (s.lineEnd e).link
      else (((s.copyHeard e p).acceptCopy e p c.sequence).reportEnd e (s.lineEnd e).link).handOn e c.frame := by
  obtain ⟨accepted, -⟩ := rest_copyHeard s e p
  rw [← accepted]
  have link : ((s.setReceiver e p .idle).lineEnd e).link = (s.lineEnd e).link := by
    rw [lineEnd_setReceiver, (link_modPair _ _ _).1]
  unfold State.filterCopy
  rw [link]
  rfl

theorem handOn_idle (e : EndId) (f : Frame) (h : f.kind = .idle) : s.handOn e f = s := by
  unfold State.handOn
  rw [h]

/-- The blocks of the engines stay where a copy makes no End usable and none not usable (R20). -/
theorem engines_of_forget {e : EndId} (h : t.forget [.endOf e, .portOf .portA, .portOf .portB]
    = s.forget [.endOf e, .portOf .portA, .portOf .portB]) :
    (t.inaug, t.cycle, t.door, t.track, t.grants, t.stage) = (s.inaug, s.cycle, s.door, s.track, s.grants, s.stage) := by
  rw [show t.inaug = s.inaug from sameBlock_of_forget h .inauguration (by simp),
    show t.cycle = s.cycle from sameBlock_of_forget h .cycle (by simp),
    show t.door = s.door from sameBlock_of_forget h .door (by simp),
    show t.track = s.track from sameBlock_of_forget h .tracking (by simp),
    show t.grants = s.grants from sameBlock_of_forget h .grants (by simp),
    show t.stage = s.stage from sameBlock_of_forget h .stages (by simp)]

/-- Settles O28: the items of the End are those of its acceptance, which the report and the engines leave alone. -/
theorem theFirstCopyOfAFrameIsHandedOn : Obligations.TheFirstCopyOfAFrameIsHandedOn := by
  unfold Obligations.TheFirstCopyOfAFrameIsHandedOn
  refine ⟨fun s e p bytes c reaches hc o first => ?_, fun s e f h => handOn_idle e f h⟩
  have usable := usable_copyHeard p o
  obtain ⟨-, idle, window, now⟩ := rest_copyHeard s e p
  obtain ⟨accepted, opens, idles, own, beside, link⟩ :=
    accepted_items ((s.copyHeard e p).lineEnd e) p c.sequence (s.copyHeard e p).now usable
  rw [← lineEnd_acceptCopy] at accepted opens idles own beside link
  have made : ((s.copyHeard e p).acceptCopy e p c.sequence).usable e = true := by
    unfold State.usable
    rw [link]
    split <;> rfl
  have closed (q : Pair) : ((s.copyHeard e p).lineEnd e).windowShut.pair q =
      if (s.lineEnd e).twinWindow.map (·.awaited) = some q then
        (if q = p then { (s.lineEnd e).pair q with receiver := .idle } else (s.lineEnd e).pair q).missed
      else if q = p then { (s.lineEnd e).pair q with receiver := .idle } else (s.lineEnd e).pair q := by
    rw [pair_windowShut, window, pair_copyHeard]
  rw [closed p, closed p.other] at link
  rw [closed p] at own
  rw [closed p.other] at beside
  rw [now] at opens
  rw [idle] at idles
  have skel := (skel_handOn (((s.copyHeard e p).acceptCopy e p c.sequence).reportEnd e (s.lineEnd e).link) e
    c.frame).trans (skel_reportEnd ((s.copyHeard e p).acceptCopy e p c.sequence) e (s.lineEnd e).link)
  refine ⟨_, exec_copyReceived reaches.1, by rw [copyReceived_intact reaches hc o, filterCopy_eq, if_neg first]; rfl, ?_⟩
  rw [copyReceived_intact reaches hc o, filterCopy_eq, if_neg first]
  refine ⟨(skeleton_lastAccepted skel e).trans accepted, (skeleton_twinWindow skel e).trans opens,
    (skeleton_linkIdle skel e).trans idles, (skeleton_usable skel e).trans made, (skeleton_pair skel e p).trans own,
    (skeleton_pair skel e p.other).trans beside, (skeleton_link skel e).trans link, ?_, ?_, ?_, ?_⟩
  · rw [skeleton_pair skel, own, credit_miss]
  · exact (skeleton_link (skel_handOn _ _ _) e).symm
  · rw [onlyChanges_iff_forget]
    simp [State.copyHeard, roleBlocks]
  · intro same
    have was : s.usable e = true := by
      rw [← same]
      exact (skeleton_usable (skel_reportEnd _ _ _) e).trans made
    rw [show ((s.setReceiver e p .idle).hearCopy e).acceptCopy e p c.sequence
      = (s.copyHeard e p).acceptCopy e p c.sequence from rfl, reportEnd_usable was made]
    exact engines_of_forget (e := e) (by simp [State.copyHeard])

/-! ## The twin -/

theorem lineEnd_twin (s : State) (e : EndId) (p : Pair) : (s.twin e p).lineEnd e =
    if (s.lineEnd e).twinWindow.map (·.awaited) = some p then
      ({ s.lineEnd e with twinWindow := none }.modPair p PairState.credit).followHealth
    else s.lineEnd e := by
  unfold State.twin
  cases window : (s.lineEnd e).twinWindow with
  | none => rfl
  | some w =>
    simp only [Option.map_some, Option.some.injEq]
    split
    · rw [lineEnd_judgePair, lineEnd_modEnd_same]
    · rfl

/-- A twin leaves the sequence, the timer and the other pair of its End alone (R6). -/
theorem rest_twin (s : State) (e : EndId) (p : Pair) :
    ((s.twin e p).lineEnd e).lastAccepted = (s.lineEnd e).lastAccepted
      ∧ ((s.twin e p).lineEnd e).linkIdle = (s.lineEnd e).linkIdle
      ∧ ((s.twin e p).lineEnd e).link.usable = (s.lineEnd e).link.usable
      ∧ ((s.twin e p).lineEnd e).pair p.other = (s.lineEnd e).pair p.other := by
  rw [lineEnd_twin]
  split
  · refine ⟨?_, ?_, by rw [usable_followHealth, (link_modPair _ _ _).1],
      by rw [pair_followHealth, pair_modPair_other, pair_noWindow]⟩
    · rw [followHealth_eq]; cases p <;> rfl
    · rw [followHealth_eq]; cases p <;> rfl
  · exact ⟨rfl, rfl, rfl, rfl⟩

theorem twinExpiry_eq {e : EndId} {w : TwinWindow} (hw : (s.lineEnd e).twinWindow = some w) :
    s.twinExpiry e = (s.reach w.deadline).closeWindow e := by
  unfold State.twinExpiry
  rw [hw]
  rfl

theorem judgePair_onlyRaises (s : State) (e : EndId) (p : Pair) (f : PairState → PairState) :
    OnlyRaises s (s.judgePair e p f) := by
  intro q
  unfold State.judgePair
  simp only
  split
  · rw [port_modEnd]; rfl
  · have raised := raise_onlyRaises (s.modEnd e fun l => (l.modPair p f).followHealth) .pairHealthChanged q
    rwa [port_modEnd] at raised

theorem closeWindow_onlyRaises (s : State) (e : EndId) : OnlyRaises s (s.closeWindow e) := by
  intro q
  unfold State.closeWindow
  split
  · rfl
  · next w _ =>
    have raised := judgePair_onlyRaises (s.modEnd e fun l => { l with twinWindow := none }) e w.awaited PairState.missed q
    rwa [port_modEnd] at raised

/-- Settles O29: the twin, awaited or not, and the window that runs out. -/
theorem twinsAreCreditedAndMissedTwinsCount : Obligations.TwinsAreCreditedAndMissedTwinsCount := by
  unfold Obligations.TwinsAreCreditedAndMissedTwinsCount
  refine ⟨fun s e p bytes c reaches hc o twin => ?_, fun s e w hold hw => ?_⟩
  · obtain ⟨acceptedHeard, idleHeard, window, -⟩ := rest_copyHeard s e p
    obtain ⟨accepted, idle, usable, beside⟩ := rest_twin (s.copyHeard e p) e p
    have made : ((s.copyHeard e p).twin e p).usable e = true := usable.trans (usable_copyHeard p o)
    have skel := skel_reportEnd ((s.copyHeard e p).twin e p) e (s.lineEnd e).link
    refine ⟨_, exec_copyReceived reaches.1, ?_⟩
    rw [copyReceived_intact reaches hc o, filterCopy_eq, if_pos twin]
    refine ⟨(skeleton_lastAccepted skel e).trans (accepted.trans acceptedHeard),
      (skeleton_linkIdle skel e).trans (idle.trans idleHeard), (skeleton_usable skel e).trans made, ?_, ?_, ?_, ?_, ?_⟩
    · intro awaited
      rw [skeleton_pair skel, skeleton_twinWindow skel, lineEnd_twin, window, if_pos awaited, pair_followHealth,
        pair_modPair_same, pair_noWindow, pair_copyHeard, if_pos rfl]
      refine ⟨rfl, ?_⟩
      rw [followHealth_eq]; cases p <;> rfl
    · intro notAwaited
      rw [skeleton_pair skel, skeleton_twinWindow skel, lineEnd_twin, window, if_neg notAwaited, pair_copyHeard, if_pos rfl]
      exact ⟨rfl, window⟩
    · rw [skeleton_pair skel, beside, pair_copyHeard, if_neg (pair_other_ne p)]
    · rw [onlyChanges_iff_forget]
      simp [State.copyHeard, roleBlocks]
    · intro was
      rw [onlyChanges_iff_forget, reportEnd_usable was made]
      simp [State.copyHeard]
  · obtain ⟨-, -, closed, -, slots, queue⟩ := rest_windowShut (s.lineEnd e)
    refine ⟨_, congrArg Host.Outcome.next (live_of_free _ _ hold), ?_⟩
    rw [twinExpiry_eq hw, lineEnd_closeWindow, lineEnd_reach, pair_windowShut, pair_windowShut, hw]
    refine ⟨closeWindow_now _ _, closed, if_pos rfl, if_neg ?_, slots, queue, fun q => ?_, ?_⟩
    · intro same
      exact pair_other_ne _ (Option.some.inj same).symm
    · have raised := closeWindow_onlyRaises (s.reach w.deadline) e q
      rwa [port_reach] at raised
    · rw [onlyChanges_iff_forget]; simp

end Sys2Proof.Machine

/-! SUPPORT. The Link Idle Timer, the keepalive timer and the end of a transmission (R2, R3, R18, R19). -/

namespace Sys2Proof.Machine

variable {s t : State}

/-! ## Reports at an UNASSIGNED node -/

theorem discardOffer_inaug (s : State) (e : EndId) : (s.discardOffer e).inaug = s.inaug :=
  sameBlock_of_forget (L := [.messages]) (by simp) .inauguration (by simp)

theorem forget_reportEnd_unassigned (L : List Block) (e : EndId) (old : LinkState) (h : s.inaug.role = .unassigned)
    (hm : Block.messages ∈ L) : (s.reportEnd e old).forget L = s.forget L := by
  have still (c : EndChange) : (s.discardOffer e).reportInauguration c = s.discardOffer e := by
    unfold State.reportInauguration
    rw [discardOffer_inaug, h]
  unfold State.reportEnd
  simp only [still]
  split
  · rfl
  · exact forget_discardOffer L s e hm

/-! ## The timers -/

theorem linkIdleExpiry_eq {e : EndId} {d : Nat} (hd : (s.lineEnd e).linkIdle = some d)
    (runs : (s.lineEnd e).link = .joining ∨ (s.lineEnd e).link.usable = true) :
    s.linkIdleExpiry e = ((s.reach d).enterDown e).reportEnd e (s.lineEnd e).link := by
  unfold State.linkIdleExpiry
  rw [hd, expire_some]
  simp only [lineEnd_reach]
  cases link : (s.lineEnd e).link with
  | joining | up | degraded => rfl
  | opened | down =>
    rw [link] at runs
    rcases runs with joins | usable
    · cases joins
    · cases usable

theorem enterDown_now (s : State) (e : EndId) : (s.enterDown e).now = s.now :=
  sameBlock_of_forget (L := [.endOf e, .portOf .portA, .portOf .portB]) (by simp) .clock (by simp)

theorem enterDown_inaug (s : State) (e : EndId) : (s.enterDown e).inaug = s.inaug :=
  sameBlock_of_forget (L := [.endOf e, .portOf .portA, .portOf .portB]) (by simp) .inauguration (by simp)

theorem keepaliveExpiry_eq {e : EndId} {d : Nat} (hd : (s.lineEnd e).keepalive = some d) :
    s.keepaliveExpiry e = (s.reach d).modEnd e fun l =>
      { (l.modSlot .keepalive SourceSlot.placeIdle) with keepalive := none } := by
  unfold State.keepaliveExpiry
  rw [hd]
  rfl

theorem placeIdle_eq (q : SourceSlot) :
    q.placeIdle = { q with slot := some (q.slot.getD { kind := .idle, payload := [] }) } := by
  obtain ⟨slot, held⟩ := q
  cases slot <;> rfl

theorem transmitComplete_eq {e : EndId} {bytes : List Byte} (h : (s.lineEnd e).sending = some bytes) :
    s.transmitComplete e = s.modEnd e fun l => { l with sending := none, keepalive := some (s.now + 50000) } := by
  unfold State.transmitComplete
  rw [h]
  rfl

/-- Settles O30: the entry to DOWN and its report, and what the keepalive timer and the transmitter do to their End. -/
theorem linkTimersTakeAnEndDownAndKeepItAlive : Obligations.LinkTimersTakeAnEndDownAndKeepItAlive := by
  unfold Obligations.LinkTimersTakeAnEndDownAndKeepItAlive
  refine ⟨fun s e d hold hd runs => ?_, fun s e hold z => ⟨fun d hd => ?_, fun bytes hs => ?_⟩⟩
  · have skel := skel_reportEnd ((s.reach d).enterDown e) e (s.lineEnd e).link
    refine ⟨_, congrArg Host.Outcome.next (live_of_free _ _ hold), ?_⟩
    rw [linkIdleExpiry_eq hd runs]
    refine ⟨(skeleton_now skel).trans (enterDown_now _ _), ?_, rfl, ?_, ?_, ?_, fun role => ?_⟩
    · rw [skeleton_link skel, lineEnd_enterDown]
    · rw [skeleton_linkIdle skel, lineEnd_enterDown]
    · exact Gentle.raised (Gentle.refl _).reportEnd
    · rw [onlyChanges_iff_forget]; simp [roleBlocks]
    · have inaug : ((s.reach d).enterDown e).inaug = s.inaug := enterDown_inaug _ _
      have same := forget_reportEnd_unassigned [.messages] e (s.lineEnd e).link
        ((congrArg Inauguration.role inaug).trans role) (by simp)
      refine ⟨(sameBlock_of_forget same .inauguration (by simp)).trans inaug,
        (sameBlock_of_forget same (.endOf e.other) (by simp)).trans ?_,
        (sameBlock_of_forget same (.endOf e) (by simp)).trans ?_⟩
      · rw [lineEnd_enterDown_other, lineEnd_reach]
      · rw [lineEnd_enterDown, lineEnd_reach]; rfl
  · refine ⟨_, congrArg Host.Outcome.next (awake_of_free _ _ hold z), ?_⟩
    rw [keepaliveExpiry_eq hd]
    refine ⟨by cases e <;> rfl, by rw [lineEnd_modEnd_same], ?_, ?_, ?_⟩
    · rw [lineEnd_modEnd_same, lineEnd_reach]
      exact placeIdle_eq _
    · rw [lineEnd_modEnd_same, lineEnd_reach]; rfl
    · rw [onlyChanges_iff_forget]; simp
  · refine ⟨_, congrArg Host.Outcome.next (awake_of_free _ _ hold z), ?_⟩
    rw [transmitComplete_eq hs]
    refine ⟨by rw [lineEnd_modEnd_same], ?_⟩
    rw [onlyChanges_iff_forget]; simp

end Sys2Proof.Machine

/-! SUPPORT. WAKEs that merge, record sources that change, and the target of the Stage Drive (R12, R82, R83, R138, R139). -/

namespace Sys2Proof.Machine

variable {s t : State}

/-! ## The youngest WAKE of a queue -/

theorem mergeYoungest_none {v : Byte} {q : List Frame} (h : ∀ f ∈ q, f.kind ≠ .wake) : mergeYoungest v q = none := by
  induction q with
  | nil => rfl
  | cons f rest ih =>
    have tail := ih fun g hg => h g (List.mem_cons_of_mem _ hg)
    simp [mergeYoungest, tail, h f List.mem_cons_self]

theorem mergeYoungest_youngest {v : Byte} {q : List Frame} {i : Nat} {f : Frame} (hi : q[i]? = some f)
    (hf : f.kind = .wake) (young : ∀ g ∈ q.drop (i + 1), g.kind ≠ .wake) :
    mergeYoungest v q = some (q.set i (mergeWake f v)) := by
  induction q generalizing i with
  | nil => cases hi
  | cons x rest ih =>
    cases i with
    | zero =>
      cases hi
      have tail : mergeYoungest v rest = none := mergeYoungest_none young
      simp [mergeYoungest, tail, hf]
    | succ i =>
      have tail := ih hi young
      simp [mergeYoungest, tail]

theorem mergeYoungest_filter {v : Byte} {q : List Frame} (h : q.filter (fun f => decide (f.kind = .wake)) = []) :
    mergeYoungest v q = none := by
  refine mergeYoungest_none fun f hf kind => ?_
  have mem : f ∈ q.filter fun f => decide (f.kind = .wake) := List.mem_filter.2 ⟨hf, by simpa using kind⟩
  rw [h] at mem
  cases mem

/-! ## The Status WAKE -/

/-- With no WAKE in the Through Queue and none of its own waiting, the node places one (R12, R82). -/
theorem statusWake_place {e : EndId} (queue : mergeYoungest wakeStatus (s.lineEnd e).throughQueue = none)
    (slot : (s.lineEnd e).slots.wake.slot = none) : s.statusWake e = s.place e .wake (wakeFrame wakeStatus) := by
  unfold State.statusWake State.produceWake
  rw [queue, slot]

/-- A WAKE of its own that waits takes the flag (R82). -/
theorem statusWake_own {e : EndId} {f : Frame} (queue : mergeYoungest wakeStatus (s.lineEnd e).throughQueue = none)
    (slot : (s.lineEnd e).slots.wake.slot = some f) :
    s.statusWake e = s.modEnd e (·.modSlot .wake fun q => { q with slot := some (mergeWake f wakeStatus) }) := by
  unfold State.statusWake
  rw [queue, slot]

/-- The youngest WAKE that waits to pass through takes the flag (R12). -/
theorem statusWake_queue {e : EndId} {q : List Frame}
    (queue : mergeYoungest wakeStatus (s.lineEnd e).throughQueue = some q) :
    s.statusWake e = s.modEnd e fun l => { l with throughQueue := q } := by
  unfold State.statusWake State.produceWake
  rw [queue]

theorem inSlot_statusWake {e : EndId} (queue : mergeYoungest wakeStatus (s.lineEnd e).throughQueue = none)
    (free : SlotFree s e .wake) : InSlot (s.statusWake e) e .wake (wakeFrame wakeStatus) := by
  have empty : (s.lineEnd e).slots.wake = .empty := free.2
  rw [statusWake_place queue (by rw [empty]; rfl)]
  exact place_inSlot s e .wake _ free

/-! ## A change of a record source -/

/-- The record that the node would append differs from the one it appended last (R82). -/
def State.recordDiffers (s : State) (a : ActiveConsist) : Prop :=
  ∃ r, s.cycle.lastAppended = some r ∧ s.placedRecord a.position ≠ r

theorem sourceChanged_settled {a : ActiveConsist} (ha : s.active = some a)
    (h : s.cycle.statusRaised = true ∨ ¬s.recordDiffers a) : s.sourceChanged = s := by
  unfold State.sourceChanged
  rw [ha]
  cases last : s.cycle.lastAppended with
  | none => rfl
  | some r =>
    refine if_neg fun ⟨down, differs⟩ => ?_
    rcases h with raised | same
    · rw [down] at raised; cases raised
    · exact same ⟨r, last, differs⟩

theorem sourceChanged_unassigned (h : s.active = none) : s.sourceChanged = s := by
  unfold State.sourceChanged
  rw [h]

theorem sourceChanged_raised (h : s.cycle.statusRaised = true) : s.sourceChanged = s := by
  cases ha : s.active with
  | none => exact sourceChanged_unassigned ha
  | some a => exact sourceChanged_settled ha (Or.inl h)

theorem sourceChanged_head {a : ActiveConsist} (ha : s.active = some a) (down : s.cycle.statusRaised = false)
    (differs : s.recordDiffers a) (head : s.heading = true) :
    s.sourceChanged = s.modCycle fun c => { c with statusRaised := true, callRequested := true } := by
  obtain ⟨r, last, ne⟩ := differs
  unfold State.sourceChanged
  rw [ha, last]
  simp [down, ne, head]

theorem sourceChanged_member {a : ActiveConsist} (ha : s.active = some a) (down : s.cycle.statusRaised = false)
    (differs : s.recordDiffers a) (head : s.heading = false) :
    s.sourceChanged = (s.modCycle fun c => { c with statusRaised := true }).statusWake a.headward := by
  obtain ⟨r, last, ne⟩ := differs
  unfold State.sourceChanged
  rw [ha, last]
  simp [down, ne, head]

theorem statusWake_cycle (s : State) (e : EndId) : (s.statusWake e).cycle = s.cycle :=
  sameBlock_of_forget (L := [.endOf e]) (by simp) .cycle (by simp)

theorem sourceChanged_stage (s : State) : s.sourceChanged.stage = s.stage :=
  sameBlock_of_forget (L := [.cycle, .endOf .end1, .endOf .end2]) (by simp) .stages (by simp)

theorem sourceChanged_power (s : State) : s.sourceChanged.power = s.power :=
  sameBlock_of_forget (L := [.cycle, .endOf .end1, .endOf .end2]) (by simp) .power (by simp)

/-- After the check the change is told, and the next check finds nothing to tell (R82). -/
theorem statusRaised_sourceChanged {a : ActiveConsist} (ha : s.active = some a) (down : s.cycle.statusRaised = false)
    (differs : s.recordDiffers a) : s.sourceChanged.cycle.statusRaised = true := by
  cases head : s.heading with
  | true => rw [sourceChanged_head ha down differs head, modCycle_cycle]
  | false => rw [sourceChanged_member ha down differs head, statusWake_cycle, modCycle_cycle]

/-- What a change of a record source makes of a member that is not the head (R12, R82). -/
theorem memberWakes {a : ActiveConsist} (ha : s.active = some a) (down : s.cycle.statusRaised = false)
    (differs : s.recordDiffers a) (head : s.heading = false)
    (queue : mergeYoungest wakeStatus (s.lineEnd a.headward).throughQueue = none) (free : SlotFree s a.headward .wake) :
    InSlot s.sourceChanged a.headward .wake (wakeFrame wakeStatus) := by
  rw [sourceChanged_member ha down differs head]
  refine inSlot_statusWake ?_ ?_
  · rw [lineEnd_modCycle]; exact queue
  · unfold SlotFree; rw [lineEnd_modCycle]; exact free

/-! ## What the Stage Drive works toward -/

/-- The Ceiling, the Fallback flag, the Demand and the target (R136, R138, R139). -/
def State.aims (s : State) : Nat × Bool × Nat × Nat :=
  (s.stage.ceiling, s.stage.fallback, s.stage.demand, s.stage.target)

@[simp] theorem aims_nextStage (s : State) (first : Bool) (fuel : Nat) : (s.nextStage first fuel).aims = s.aims := by
  induction fuel generalizing s first with
  | zero => rfl
  | succ fuel ih =>
    unfold State.nextStage
    split
    · rfl
    · simp only
      split
      · rfl
      · split
        · split
          · rw [ih]; rfl
          · rfl
        · rfl

theorem aims_enterRise (s : State) (x : Rise) (first : Bool) : (s.enterRise x first).aims = s.aims := aims_nextStage _ _ _

/-- A new target leaves the Ceiling, the Fallback flag and the Demand (R139). -/
theorem aims_applyTarget (s : State) (n : Nat) (risen : Bool) :
    (s.applyTarget n risen).aims = (s.stage.ceiling, s.stage.fallback, s.stage.demand, n) := by
  unfold State.applyTarget
  split
  · next same => rw [same]; rfl
  · simp only
    split
    · rfl
    · split
      · rfl
      · split
        · rw [aims_enterRise]; rfl
        · unfold State.beginRise; rw [aims_enterRise]; rfl

theorem applyTarget_cycle (s : State) (n : Nat) (risen : Bool) : (s.applyTarget n risen).cycle = s.cycle :=
  sameBlock_of_forget (L := [.stages]) (by simp) .cycle (by simp)

theorem applyTarget_lineEnd (s : State) (n : Nat) (risen : Bool) (e : EndId) :
    (s.applyTarget n risen).lineEnd e = s.lineEnd e :=
  sameBlock_of_forget (L := [.stages]) (by simp) (.endOf e) (by simp)

/-- The recomputed target is the one that the Ceiling and the Demand call for (R139). -/
theorem aims_recomputeTarget (s : State) (risen : Bool) :
    (s.recomputeTarget risen).aims = (s.stage.ceiling, s.stage.fallback, s.stage.demand, s.newTarget) := by
  unfold State.recomputeTarget State.aims
  rw [sourceChanged_stage]
  exact aims_applyTarget s s.newTarget risen

/-! ## Set Demand -/

/-- The Demand takes a value (R138). -/
def State.demanded (s : State) (v : Nat) : State := s.modStage fun d => { d with demand := v }

theorem setDemand_same {v : Nat} (h : v = s.stage.demand) : s.setDemand v = s := if_pos h

theorem setDemand_new {v : Nat} (h : v ≠ s.stage.demand) :
    s.setDemand v = (s.demanded v).sourceChanged.recomputeTarget (decide (s.stage.demand < v)) := if_neg h

theorem newTarget_of_active (h : s.power.state = .active) :
    s.newTarget = highestLevel s.power.record.powers.toList (min s.stage.ceiling s.stage.demand) s.power.record.stageCount := by
  unfold State.newTarget State.wantedTarget State.stageCount
  rw [asleep_of_active s h, loading_of_active s h]
  rfl

/-- The items of the Stage Drive after a Demand that is new (R138, R139). -/
theorem aims_setDemand {v : Nat} (h : v ≠ s.stage.demand) (active : s.power.state = .active) :
    (s.setDemand v).aims = (s.stage.ceiling, s.stage.fallback, v,
      highestLevel s.power.record.powers.toList (min s.stage.ceiling v) s.power.record.stageCount) := by
  have power : (s.demanded v).sourceChanged.power = s.power := sourceChanged_power _
  rw [setDemand_new h, aims_recomputeTarget, newTarget_of_active (by rw [power]; exact active), sourceChanged_stage, power]
  rfl

/-- A new Demand that the last record does not carry is told at once, and told once (R82, R138). -/
theorem setDemand_told {a : ActiveConsist} {r : CycleRecord} {v : Nat} (ha : s.active = some a)
    (last : s.cycle.lastAppended = some r) (down : s.cycle.statusRaised = false) (h : v ≠ s.stage.demand)
    (differs : r.demand ≠ byteOf v) :
    (s.demanded v).recordDiffers a
      ∧ s.setDemand v = (s.demanded v).sourceChanged.applyTarget (s.demanded v).sourceChanged.newTarget
          (decide (s.stage.demand < v)) := by
  have told : (s.demanded v).recordDiffers a := ⟨r, last, fun same => differs (by rw [← same]; rfl)⟩
  refine ⟨told, ?_⟩
  rw [setDemand_new h]
  unfold State.recomputeTarget
  refine sourceChanged_raised ?_
  rw [applyTarget_cycle]
  exact statusRaised_sourceChanged (a := a) ha down told

theorem forget_setDemand_cycleEnds (s : State) (v : Nat) :
    (s.setDemand v).forget [.stages, .cycle, .endOf .end1, .endOf .end2] = s.forget [.stages, .cycle, .endOf .end1, .endOf .end2] := by
  unfold State.setDemand
  split
  · rfl
  · simp

theorem port_setDemand (s : State) (v : Nat) (q : PortId) : (s.setDemand v).port q = s.port q :=
  sameBlock_of_forget (forget_setDemand_cycleEnds s v) (.portOf q) (by simp)

theorem wrote_port_other (s : State) (p : PortId) (n : Nat) : (s.wrote p n).port p.other = s.port p.other := by
  cases p <;> rfl

/-- Set Demand takes 0 to 254 (R138). -/
theorem demandCheck_eq (s : State) (p : PortId) :
    demandCheck p s = if 254 < s.operandNum p 1 then some .range else none := by
  unfold demandCheck
  by_cases above : 254 < s.operandNum p 1
  · rw [if_pos above]; simp [firstReason, above]
  · rw [if_neg above]; simp [firstReason, above]

/-- What Set Demand does at a port that admits it (R138, R171). -/
theorem setDemand_command {p : PortId} (h : Admitted s p (some .comfort)) (low : s.operandNum p 1 ≤ 254) :
    exec (.setDemand p) s = .next (((s.wrote p opcodeAddress).setDemand (s.operandNum p 1)).answer p .done none 0)
      ∧ DoneAt p [.stages, .cycle, .endOf .end1, .endOf .end2] s
          (((s.wrote p opcodeAddress).setDemand (s.operandNum p 1)).answer p .done none 0) := by
  have check : demandCheck p (s.wrote p opcodeAddress) = none := by
    rw [demandCheck_eq, wrote_operandNum, if_neg (Nat.not_lt.2 low)]
  have done := command_done s p (some .comfort) (demandCheck p) (fun s => s.setDemand (s.operandNum p 1)) (fun _ => 0) h check
  rw [wrote_operandNum] at done
  refine ⟨congrArg Host.Outcome.next done, ?_⟩
  rw [← done]
  refine command_doneAt s p _ _ (fun s => s.setDemand (s.operandNum p 1)) _ h check ?_ ?_ ?_
  · unfold OnlyFlags; rw [port_setDemand]
  · unfold OnlyFlags; rw [port_setDemand, wrote_port_other]
  · unfold State.setDemand
    split
    · rfl
    · simp

/-- The answer of a command leaves all but its port. -/
theorem answer_rest (s : State) (p : PortId) (x : CommandResult) (y : Option Reason) (n : Nat) :
    (s.answer p x y n).stage = s.stage ∧ (s.answer p x y n).cycle = s.cycle
      ∧ ∀ e, (s.answer p x y n).lineEnd e = s.lineEnd e := by
  unfold State.answer
  exact ⟨by simp, by simp, fun e => by simp⟩

@[simp] theorem answer_flags (s : State) (p q : PortId) (x : CommandResult) (y : Option Reason) (n : Nat) :
    ((s.answer p x y n).port q).flags = (s.port q).flags := by cases p <;> cases q <;> rfl

/-- A written byte leaves all but its port. -/
theorem wrote_rest (s : State) (p : PortId) (n : Nat) :
    (s.wrote p n).stage = s.stage ∧ (s.wrote p n).cycle = s.cycle ∧ (s.wrote p n).inaug = s.inaug
      ∧ (s.wrote p n).power = s.power ∧ ∀ e, (s.wrote p n).lineEnd e = s.lineEnd e := by
  cases p <;> exact ⟨rfl, rfl, rfl, rfl, fun e => by cases e <;> rfl⟩

theorem active_of_inaug (h : t.inaug = s.inaug) : t.active = s.active := by
  unfold State.active
  rw [h]

theorem heading_of_inaug (h : t.inaug = s.inaug) : t.heading = s.heading := by
  unfold State.heading
  rw [h]

/-- Settles O52: a new Demand is a new target and a changed record, which is told once. -/
theorem setDemandMovesTheTarget : Obligations.SetDemandMovesTheTarget := by
  unfold Obligations.SetDemandMovesTheTarget
  refine ⟨fun s p h => ?_, fun s a ha => ?_⟩
  · refine ⟨fun high => ?_, fun low => ?_⟩
    · exact ⟨_, rfl, command_refused s p _ _ _ _ h .range (by rw [demandCheck_eq, wrote_operandNum, if_pos high])⟩
    · obtain ⟨runs, done⟩ := setDemand_command h low
      obtain ⟨stageW, cycleW, inaugW, powerW, endW⟩ := wrote_rest s p opcodeAddress
      have active : (s.wrote p opcodeAddress).power.state = .active := by rw [powerW]; exact h.1.2.1
      have flagsW (q : PortId) := wrote_flags s p q opcodeAddress
      generalize s.wrote p opcodeAddress = u at runs done stageW cycleW inaugW powerW endW active flagsW
      generalize s.operandNum p 1 = v at runs done low
      obtain ⟨stageT, cycleT, endT⟩ := answer_rest (u.setDemand v) p .done none 0
      refine ⟨_, runs, ?_⟩
      rw [stageT, cycleT, ← stageW, ← powerW]
      have aims : (u.setDemand v).stage.demand = v ∧ (u.setDemand v).stage.ceiling = u.stage.ceiling
          ∧ (u.setDemand v).stage.fallback = u.stage.fallback
          ∧ (v ≠ u.stage.demand → (u.setDemand v).stage.target
            = highestLevel u.power.record.powers.toList (min u.stage.ceiling v) u.power.record.stageCount) := by
        by_cases same : v = u.stage.demand
        · rw [setDemand_same same]
          exact ⟨same.symm, rfl, rfl, fun new => absurd same new⟩
        · have aims := aims_setDemand same active
          simp only [State.aims, Prod.mk.injEq] at aims
          obtain ⟨ceiling, fallback, demand, target⟩ := aims
          exact ⟨demand, ceiling, fallback, fun _ => target⟩
      obtain ⟨demand, ceiling, fallback, target⟩ := aims
      refine ⟨demand, ceiling, fallback, target, fun same => by rw [setDemand_same same], ?_, done, fun q => ?_⟩
      · intro a ha r last down new differs
        rw [← active_of_inaug inaugW] at ha
        rw [← cycleW] at last down
        rw [← heading_of_inaug inaugW]
        obtain ⟨told, set⟩ := setDemand_told ha last down new differs
        rw [set, applyTarget_cycle]
        refine ⟨statusRaised_sourceChanged (s := u.demanded v) ha down told, fun head => ?_, fun head free queue => ?_⟩
        · rw [sourceChanged_head (s := u.demanded v) ha down told head, modCycle_cycle]
        · unfold InSlot
          rw [set] at endT
          rw [endT, applyTarget_lineEnd]
          refine memberWakes (s := u.demanded v) ha down told head ?_ ?_
          · rw [State.demanded, lineEnd_modStage, endW, queue]; rfl
          · unfold SlotFree; rw [State.demanded, lineEnd_modStage, endW]; exact free
      · rw [answer_flags, port_setDemand, flagsW]
  · simp only
    refine ⟨fun settled => sourceChanged_settled ha settled, fun down differs head =>
      sourceChanged_head ha down differs head, fun down differs head => ?_⟩
    have member := sourceChanged_member ha down differs head
    refine ⟨?_, ?_, fun wakes free => memberWakes ha down differs head (mergeYoungest_filter wakes) free,
      fun wakes f slot => ?_, fun i f at_i kind young => ?_⟩
    · rw [member, statusWake_cycle, modCycle_cycle]
    · rw [onlyChanges_iff_forget, member]; simp
    · rw [member, statusWake_own (by rw [lineEnd_modCycle]; exact mergeYoungest_filter wakes)
        (by rw [lineEnd_modCycle]; exact slot), lineEnd_modEnd_same, lineEnd_modCycle]
      rfl
    · rw [member, statusWake_queue (by rw [lineEnd_modCycle]; exact mergeYoungest_youngest at_i kind young),
        lineEnd_modEnd_same, lineEnd_modCycle]
      rfl

end Sys2Proof.Machine

/-! SUPPORT. The Through Queue as a frame passes on, and the buffers of the Message Unit as a message is stored or
completed (R15, R147, R157 to R162). -/

namespace Sys2Proof.Machine

variable {s t : State}

/-! ## Events on a port -/

theorem OnlyRaises.trans {u : State} (h : OnlyRaises s t) (k : OnlyRaises t u) : OnlyRaises s u := by
  intro q
  have first := h q
  have second := k q
  unfold OnlyFlags at first second ⊢
  rw [second, first]

theorem onlyRaises_of_port (h : ∀ q, t.port q = s.port q) : OnlyRaises s t := by
  intro q
  unfold OnlyFlags
  rw [h]

theorem raiseAt_onlyRaises (s : State) (p : PortId) (c : Cause) : OnlyRaises s (s.raiseAt p c) := by
  intro q
  cases p <;> cases q <;> rfl

/-! ## Passing through -/

/-- An End after a frame has passed through toward it (R10, R15). -/
def LineEnd.through (l : LineEnd) (f : Frame) : LineEnd :=
  if l.link.usable then
    if l.throughQueue.length < Config.throughSize then { l with throughQueue := l.throughQueue ++ [f] } else l.countDrops 1
  else if l.link = .opened ∧ f.isBroadcast = true then l else l.countDrops 1

theorem lineEnd_passThrough (s : State) (e : EndId) (f : Frame) :
    (s.passThrough e f).lineEnd e = (s.lineEnd e).through f := by
  unfold State.passThrough LineEnd.through State.usable State.isOpen
  split
  · split
    · rw [lineEnd_modEnd_same]
    · rw [lineEnd_raise, lineEnd_modEnd_same]
  · simp only [Bool.and_eq_true, decide_eq_true_eq]
    split
    · rfl
    · rw [lineEnd_modEnd_same]

theorem passThrough_onlyRaises (s : State) (e : EndId) (f : Frame) : OnlyRaises s (s.passThrough e f) := by
  unfold State.passThrough
  split
  · split
    · exact onlyRaises_of_port fun q => by rw [port_modEnd]
    · exact (onlyRaises_of_port fun q => by rw [port_modEnd]).trans (raise_onlyRaises _ _)
  · split
    · exact onlyRaises_of_port fun _ => rfl
    · exact onlyRaises_of_port fun q => by rw [port_modEnd]

/-- A frame that passes through touches the End it goes toward, and the event copies (R15). -/
theorem forget_passThrough_toward (L : List Block) (s : State) (e : EndId) (f : Frame) (he : Block.endOf e ∈ L)
    (hP : ∀ p, Block.portOf p ∈ L) : (s.passThrough e f).forget L = s.forget L := by
  unfold State.passThrough
  split
  · split
    · exact forget_modEnd L s e _ he
    · rw [forget_raise L _ _ hP, forget_modEnd L s e _ he]
  · split
    · rfl
    · exact forget_modEnd L s e _ he

theorem passThrough_room {e : EndId} {f : Frame} (u : s.usable e = true) (room : (s.lineEnd e).throughQueue.length < 6) :
    s.passThrough e f = s.modEnd e fun l => { l with throughQueue := l.throughQueue ++ [f] } := by
  unfold State.passThrough
  rw [if_pos u, if_pos (by exact room)]

theorem passThrough_full {e : EndId} {f : Frame} (u : s.usable e = true) (full : 6 ≤ (s.lineEnd e).throughQueue.length) :
    s.passThrough e f = (s.modEnd e (·.countDrops 1)).raise .throughOverflow := by
  unfold State.passThrough
  rw [if_pos u, if_neg (by exact Nat.not_lt.2 full)]

theorem isBroadcast_iff (f : Frame) : f.isBroadcast = true ↔ f.kind = .msg ∧ num8 f.payload 6 = 255 := by
  simp [Frame.isBroadcast, destAll]

theorem passThrough_dropped {e : EndId} {f : Frame} (u : s.usable e = false)
    (short : ¬((s.lineEnd e).link = .opened ∧ f.kind = .msg ∧ num8 f.payload 6 = 255)) :
    s.passThrough e f = s.modEnd e (·.countDrops 1) := by
  unfold State.passThrough
  rw [if_neg (by simp [u]), if_neg ?_]
  rw [← isBroadcast_iff] at short
  simpa [State.isOpen] using short

theorem passThrough_end {e : EndId} {f : Frame} (o : (s.lineEnd e).link = .opened) (b : f.isBroadcast = true) :
    s.passThrough e f = s := by
  have u : s.usable e = false := by unfold State.usable; rw [o]; rfl
  unfold State.passThrough
  rw [if_neg (by simp [u]), if_pos (by simp [State.isOpen, o, b])]

/-! ## A buffer and the others -/

@[simp] theorem buffer_modBuffer_same {n : Nat} (s : State) (f : Buffer → Buffer) (h : n < s.msg.buffers.length) :
    (s.modBuffer n f).buffer n = f (s.buffer n) := by
  simp [State.buffer, State.modBuffer, h]

theorem buffer_modBuffer_ne {n m : Nat} (s : State) (f : Buffer → Buffer) (h : m ≠ n) :
    (s.modBuffer n f).buffer m = s.buffer m := by
  simp [State.buffer, State.modBuffer, Ne.symm h]

theorem buffer_of_buffers {m : Nat} (h : t.msg.buffers = s.msg.buffers) : t.buffer m = s.buffer m := by
  unfold State.buffer
  rw [h]

theorem buffers_modQueues (s : State) (p : PortId) (f : PortQueues → PortQueues) :
    (s.modQueues p f).msg.buffers = s.msg.buffers := by cases p <;> rfl

theorem queues_modQueues_same (s : State) (p : PortId) (f : PortQueues → PortQueues) :
    (s.modQueues p f).queues p = f (s.queues p) := by cases p <;> rfl

theorem queues_modQueues_other (s : State) (p : PortId) (f : PortQueues → PortQueues) :
    (s.modQueues p f).queues p.other = s.queues p.other := by cases p <;> rfl

/-! ## Completion -/

/-- A message whose buffer has an owner completes into that port's Inbound Queue (R162). -/
theorem complete_owned {n : Nat} {status : MessageStatus} {p : PortId} (owner : (s.buffer n).state.owner = some p) :
    s.complete n status = ((((s.modBuffer n fun b => { b with bytes := b.bytes.set 7 status.code }).modMsg fun m =>
      { m with inFlight := m.inFlight.filter fun e => e.buffer != n }).setBufferState n (.inbound p)).modQueues p
        fun q => { q with inbound := q.inbound ++ [n] }) := by
  unfold State.complete
  rw [owner]
  rfl

theorem complete_buffer {n : Nat} {status : MessageStatus} {p : PortId} (owner : (s.buffer n).state.owner = some p)
    (h : n < s.msg.buffers.length) : (s.complete n status).bufferState n = .inbound p
      ∧ ((s.complete n status).buffer n).bytes = (s.buffer n).bytes.set 7 status.code := by
  have made : (s.complete n status).buffer n =
      { s.buffer n with state := .inbound p, bytes := (s.buffer n).bytes.set 7 status.code } := by
    rw [complete_owned owner, buffer_of_buffers (buffers_modQueues _ _ _), State.setBufferState,
      buffer_modBuffer_same _ _ (by simpa [State.modBuffer] using h)]
    rw [show ∀ (u : State) (g : List InFlight → List InFlight),
      (u.modMsg fun m => { m with inFlight := g m.inFlight }).buffer n = u.buffer n from fun _ _ => rfl,
      buffer_modBuffer_same _ _ h]
  unfold State.bufferState
  rw [made]
  exact ⟨rfl, rfl⟩

theorem complete_buffer_ne {n m : Nat} {status : MessageStatus} {p : PortId} (owner : (s.buffer n).state.owner = some p)
    (h : m ≠ n) : (s.complete n status).buffer m = s.buffer m := by
  rw [complete_owned owner, buffer_of_buffers (buffers_modQueues _ _ _), State.setBufferState, buffer_modBuffer_ne _ _ h]
  exact buffer_modBuffer_ne s _ h

theorem complete_queues {n : Nat} {status : MessageStatus} {p : PortId} (owner : (s.buffer n).state.owner = some p) :
    (s.complete n status).queues p = { s.queues p with inbound := (s.queues p).inbound ++ [n] }
      ∧ (s.complete n status).queues p.other = s.queues p.other := by
  rw [complete_owned owner, queues_modQueues_same, queues_modQueues_other]
  cases p <;> exact ⟨rfl, rfl⟩

theorem complete_inFlight {n : Nat} {status : MessageStatus} {p : PortId} (owner : (s.buffer n).state.owner = some p) :
    (s.complete n status).msg.inFlight = s.msg.inFlight.filter fun y => y.buffer != n := by
  rw [complete_owned owner]
  cases p <;> rfl

/-! ## A NOTE at its origin -/

/-- With no Sequence twice, the In-Flight entry that a NOTE answers is the one found (R156, R161). -/
theorem find_inFlight {l : List InFlight} {x : InFlight} {sequence destination : Nat} (mem : x ∈ l)
    (unique : (l.map (·.sequence)).Nodup) (hs : x.sequence = sequence) (hd : x.destination = destination) :
    (l.find? fun e => e.sequence == sequence && e.destination == destination) = some x := by
  cases found : l.find? fun e => e.sequence == sequence && e.destination == destination with
  | none =>
    have none := List.find?_eq_none.1 found x mem
    simp [hs, hd] at none
  | some y =>
    have answers := List.find?_some found
    simp only [Bool.and_eq_true, beq_iff_eq] at answers
    have same := List.inj_on_of_nodup_map unique (List.mem_of_find?_eq_some found) mem (answers.1.trans hs.symm)
    rw [same]

theorem noteStatus_none {b : Byte} (h : b ≠ 1 ∧ b ≠ 2) : noteStatus b = none := by
  unfold noteStatus
  rw [if_neg h.1, if_neg h.2]

theorem noteStatus_some {b : Byte} (h : b = 1 ∨ b = 2) : ∃ x, noteStatus b = some x ∧ x.code = b := by
  rcases h with rfl | rfl
  · exact ⟨.delivered, rfl, rfl⟩
  · exact ⟨.refusedFull, rfl, rfl⟩

theorem receiveNote_discarded {a : ActiveConsist} {q : List Byte}
    (h : identityAt q 0 ≠ a.identity ∨ (byteAt q 9 ≠ 1 ∧ byteAt q 9 ≠ 2)
      ∨ ∀ x ∈ s.msg.inFlight, ¬(x.sequence = num8 q 8 ∧ x.destination = num8 q 7)) : s.receiveNote a q = s := by
  unfold State.receiveNote
  split
  · rfl
  · next status some =>
    split
    · next same =>
      rcases h with other | none | unmatched
      · exact absurd same other
      · rw [noteStatus_none none] at some; cases some
      · have none : (s.msg.inFlight.find? fun e => e.sequence == num8 q 8 && e.destination == num8 q 7) = none := by
          refine List.find?_eq_none.2 fun x mem => ?_
          simpa using unmatched x mem
        rw [none]
    · rfl

theorem receiveNote_matched {a : ActiveConsist} {q : List Byte} {x : InFlight} (mem : x ∈ s.msg.inFlight)
    (answers : x.sequence = num8 q 8 ∧ x.destination = num8 q 7) (same : identityAt q 0 = a.identity)
    (outcome : byteAt q 9 = 1 ∨ byteAt q 9 = 2) (unique : (s.msg.inFlight.map (·.sequence)).Nodup) :
    ∃ status, status.code = byteAt q 9 ∧ s.receiveNote a q = s.complete x.buffer status := by
  obtain ⟨status, some, code⟩ := noteStatus_some outcome
  refine ⟨status, code, ?_⟩
  unfold State.receiveNote
  rw [some]
  simp only
  rw [if_pos same, find_inFlight mem unique answers.1 answers.2]

/-! ## Storing -/

theorem takenEvents_msg (s : State) (p : PortId) : (s.takenEvents p).msg = s.msg :=
  sameBlock_of_forget (L := [.portOf .portA, .portOf .portB]) (by simp) .messages (by simp)

theorem takenEvents_onlyRaises (s : State) (p : PortId) : OnlyRaises s (s.takenEvents p) := by
  have low : OnlyRaises s (if s.freeBuffers = 7 then s.raise .freeLow else s) := by
    split
    · exact raise_onlyRaises s _
    · exact onlyRaises_of_port fun _ => rfl
  unfold State.takenEvents
  simp only
  generalize (if s.freeBuffers = 7 then s.raise .freeLow else s) = u at low ⊢
  split
  · exact low.trans (raiseAt_onlyRaises u p _)
  · exact low

/-- The buffer that is free with the lowest number is free (R147). -/
theorem lowestFree_some {n : Nat} (h : s.lowestFree = some n) :
    n < s.msg.buffers.length ∧ (s.buffer n).state = .free := by
  obtain ⟨lt, free, -⟩ := List.findIdx?_eq_some_iff_getElem.1 h
  refine ⟨lt, ?_⟩
  unfold State.buffer
  rw [List.getD_eq_getElem _ _ lt]
  simpa using free

theorem room_some {role : Byte} {p : PortId} {n : Nat} (h : s.room role = some (p, n)) : s.lowestFree = some n := by
  unfold State.room at h
  split at h
  · next hn =>
    split at h
    · cases h; exact hn
    · cases h
  · cases h

/-- The count of the elements that pass a test, where one that fails it is replaced by one that passes. -/
theorem countP_modify_one {α : Type} {q : α → Bool} {g : α → α} {l : List α} {n : Nat} (hn : n < l.length)
    (old : q l[n] = false) (new : q (g l[n]) = true) : (l.modify n g).countP q = l.countP q + 1 := by
  induction l generalizing n with
  | nil => cases hn
  | cons x l ih =>
    cases n with
    | zero => simp_all
    | succ n =>
      have rest := ih (n := n) (by simpa using hn) (by simpa using old) (by simpa using new)
      simp only [List.modify_succ_cons, List.countP_cons, rest]
      omega

theorem beginStoring_eq (s : State) (p : PortId) (n : Nat) (q : List Byte) (note : Option Frame) :
    s.beginStoring p n q note =
      (((s.modBuffer n fun _ => { state := .receiving p, postIdentity := none, bytes := storedBytes q }).takenEvents p).modMsg
        fun m => { m with storings := m.storings ++ [{ buffer := n, reserved := note.isSome, note := note }] }) := rfl

theorem beginStoring_buffers (s : State) (p : PortId) (n : Nat) (q : List Byte) (note : Option Frame) :
    (s.beginStoring p n q note).msg.buffers = s.msg.buffers.modify n fun _ =>
      { state := .receiving p, postIdentity := none, bytes := storedBytes q } := by
  rw [beginStoring_eq, modMsg_msg, takenEvents_msg]
  rfl

/-- What the beginning of a storing does to its buffer, the storings and the NOTEs (R158, R160). -/
theorem beginStoring_items {p : PortId} {n : Nat} (q : List Byte) (note : Option Frame) (free : s.lowestFree = some n) :
    (s.beginStoring p n q note).buffer n = { state := .receiving p, postIdentity := none, bytes := storedBytes q }
      ∧ (s.beginStoring p n q note).msg.storings
          = s.msg.storings ++ [{ buffer := n, reserved := note.isSome, note := note }]
      ∧ (s.beginStoring p n q note).msg.noteQueue = s.msg.noteQueue
      ∧ (s.beginStoring p n q note).portCount p = s.portCount p + 1
      ∧ OnlyRaises s (s.beginStoring p n q note) := by
  obtain ⟨lt, state⟩ := lowestFree_some free
  refine ⟨?_, ?_, ?_, ?_, ?_⟩
  · unfold State.buffer
    rw [beginStoring_buffers]
    simp [lt]
  · rw [beginStoring_eq, modMsg_msg, takenEvents_msg]; rfl
  · rw [beginStoring_eq, modMsg_msg, takenEvents_msg]; rfl
  · unfold State.portCount
    rw [beginStoring_buffers, ← List.countP_eq_length_filter, ← List.countP_eq_length_filter]
    refine countP_modify_one lt ?_ (by simp [BufferState.owner])
    unfold State.buffer at state
    rw [List.getD_eq_getElem _ _ lt] at state
    rw [state]
    rfl
  · rw [beginStoring_eq]
    have raises := takenEvents_onlyRaises
      (s.modBuffer n fun _ => { state := .receiving p, postIdentity := none, bytes := storedBytes q }) p
    have before : OnlyRaises s
        (s.modBuffer n fun _ => { state := .receiving p, postIdentity := none, bytes := storedBytes q }) :=
      onlyRaises_of_port fun r => by rw [State.modBuffer, port_modMsg]
    exact (before.trans raises).trans (onlyRaises_of_port fun r => by rw [port_modMsg])

/-! ## MSG and NOTE at a node -/

theorem handOn_msg {e : EndId} {f : Frame} (h : f.kind = .msg) : s.handOn e f = s.receiveMsgFrame e f := by
  unfold State.handOn
  rw [h]

theorem handOn_note {e : EndId} {f : Frame} (h : f.kind = .note) : s.handOn e f = s.receiveNoteFrame e f := by
  unfold State.handOn
  rw [h]

theorem handOn_noConsist {e : EndId} {f : Frame} (h : f.kind = .msg ∨ f.kind = .note) (none : s.active = none) :
    s.handOn e f = s.passThrough e.other f := by
  rcases h with msg | note
  · rw [handOn_msg msg, State.receiveMsgFrame, none]
  · rw [handOn_note note, State.receiveNoteFrame, none]

theorem handOn_note_own {a : ActiveConsist} {e : EndId} {f : Frame} (h : f.kind = .note) (ha : s.active = some a) :
    s.handOn e f = if num8 f.payload 6 = a.position then s.receiveNote a f.payload else s.passThrough e.other f := by
  rw [handOn_note h, State.receiveNoteFrame, ha]

theorem handOn_msg_own {a : ActiveConsist} {e : EndId} {f : Frame} (h : f.kind = .msg) (ha : s.active = some a)
    (p : num8 f.payload 6 = a.position) : s.handOn e f = s.receiveMsg a f.payload := by
  rw [handOn_msg h, State.receiveMsgFrame, ha]
  exact if_pos p

theorem handOn_msg_all {a : ActiveConsist} {e : EndId} {f : Frame} (h : f.kind = .msg) (ha : s.active = some a)
    (p : num8 f.payload 6 = 255) (low : a.position ≠ 255) :
    s.handOn e f = (s.receiveMsg a f.payload).passThrough e.other f := by
  have here : num8 f.payload 6 ≠ a.position := by rw [p]; exact low.symm
  have all : f.isBroadcast = true := (isBroadcast_iff f).2 ⟨h, p⟩
  rw [handOn_msg h, State.receiveMsgFrame, ha]
  simp only
  rw [if_neg here, if_pos all]

theorem handOn_msg_beyond {a : ActiveConsist} {e : EndId} {f : Frame} (h : f.kind = .msg) (ha : s.active = some a)
    (p : num8 f.payload 6 ≠ a.position) (one : num8 f.payload 6 ≠ 255) : s.handOn e f = s.passThrough e.other f := by
  have beyond : ¬f.isBroadcast = true := fun b => one ((isBroadcast_iff f).1 b).2
  rw [handOn_msg h, State.receiveMsgFrame, ha]
  simp only
  rw [if_neg p, if_neg beyond]

theorem receiveMsg_foreign {a : ActiveConsist} {q : List Byte} (h : identityAt q 0 ≠ a.identity) : s.receiveMsg a q = s :=
  if_neg h

theorem receiveMsg_one {a : ActiveConsist} {q : List Byte} (h : identityAt q 0 = a.identity) (one : num8 q 6 ≠ 255) :
    s.receiveMsg a q = s.receiveUnicast a q := by
  exact (if_pos h).trans (if_neg one)

theorem receiveMsg_all {a : ActiveConsist} {q : List Byte} (h : identityAt q 0 = a.identity) (all : num8 q 6 = 255) :
    s.receiveMsg a q = s.receiveBroadcast q := by
  exact (if_pos h).trans (if_pos all)

/-- Settles O60: passing on, the NOTE at its origin, and the MSG for the node, for all and for others. -/
theorem aMessageIsStoredAnsweredOrDropped : Obligations.AMessageIsStoredAnsweredOrDropped := by
  unfold Obligations.AMessageIsStoredAnsweredOrDropped
  refine ⟨fun s e f => ⟨fun u room => ?_, fun u full => ?_, fun u short => ?_, fun ⟨o, b⟩ =>
    passThrough_end o ((isBroadcast_iff f).2 b)⟩, fun s e f kind none => handOn_noConsist kind none,
    fun s a e f kind ha => ?_, fun s a e f kind ha low => ?_⟩
  · rw [passThrough_room u room]
    refine ⟨by rw [lineEnd_modEnd_same], ?_⟩
    rw [onlyChanges_iff_forget]; simp
  · rw [passThrough_full u full]
    refine ⟨by rw [lineEnd_raise, lineEnd_modEnd_same]; rfl, fun q => ?_, ?_⟩
    · rw [raise_raisedOnly, port_modEnd]
    · rw [onlyChanges_iff_forget]; simp
  · rw [passThrough_dropped u short]
    refine ⟨by rw [lineEnd_modEnd_same]; rfl, ?_⟩
    rw [onlyChanges_iff_forget]; simp
  · simp only
    rw [handOn_note_own kind ha]
    refine ⟨fun beyond => if_neg beyond, fun here => ?_⟩
    rw [if_pos here]
    refine ⟨fun why => receiveNote_discarded why, fun x mem answers same outcome unique lt p owner => ?_⟩
    obtain ⟨status, code, done⟩ := receiveNote_matched mem answers same outcome unique
    rw [done, ← code]
    obtain ⟨state, bytes⟩ := complete_buffer (status := status) owner lt
    obtain ⟨queue, beside⟩ := complete_queues (status := status) owner
    refine ⟨state, bytes, fun m ne => complete_buffer_ne owner ne, queue, beside, complete_inFlight owner, ?_⟩
    rw [onlyChanges_iff_forget]; simp
  · simp only
    refine ⟨fun here foreign => ?_, fun here own => ?_, fun all own => ?_, fun all foreign => ?_, fun beyond one =>
      handOn_msg_beyond kind ha beyond one⟩
    · rw [handOn_msg_own kind ha here, receiveMsg_foreign foreign]
    · rw [handOn_msg_own kind ha here, receiveMsg_one own (by rw [here]; exact low), State.receiveUnicast]
      refine ⟨fun full => if_pos full, fun places none => ?_, fun p n places room => ?_⟩
      · rw [if_neg (by exact Nat.not_le.2 places), none]; rfl
      · rw [if_neg (by exact Nat.not_le.2 places), room]
        simp only
        obtain ⟨buffer, storings, notes, count, raises⟩ :=
          beginStoring_items (p := p) f.payload (some (answerNote a f.payload .delivered)) (room_some room)
        unfold State.bufferState
        rw [buffer]
        refine ⟨rfl, rfl, rfl, storings, notes, count, raises, ?_⟩
        rw [onlyChanges_iff_forget]; simp
    · rw [handOn_msg_all kind ha all low, receiveMsg_all own all, State.receiveBroadcast]
      refine ⟨fun none => by rw [none], fun p n room => ?_⟩
      rw [room]
      simp only
      obtain ⟨buffer, storings, notes, -, raises⟩ := beginStoring_items (p := p) f.payload none (room_some room)
      have passed : ((s.beginStoring p n f.payload none).passThrough e.other f).forget
          [.endOf e.other, .portOf .portA, .portOf .portB]
          = (s.beginStoring p n f.payload none).forget [.endOf e.other, .portOf .portA, .portOf .portB] :=
        forget_passThrough_toward _ _ _ _ (by simp) (by simp)
      have msg : ((s.beginStoring p n f.payload none).passThrough e.other f).msg = (s.beginStoring p n f.payload none).msg :=
        sameBlock_of_forget passed .messages (by simp)
      unfold State.bufferState
      rw [buffer_of_buffers (congrArg MessageUnit.buffers msg), buffer, msg, lineEnd_passThrough, lineEnd_passThrough]
      refine ⟨rfl, storings, notes, ?_, raises.trans (passThrough_onlyRaises _ _ _), ?_⟩
      · rw [show (s.beginStoring p n f.payload none).lineEnd e.other = s.lineEnd e.other from
          sameBlock_of_forget (L := [.messages, .portOf .portA, .portOf .portB]) (by simp) (.endOf e.other) (by simp)]
      · rw [onlyChanges_iff_forget, forget_passThrough_toward _ _ _ _ (by simp) (by simp)]
        simp
    · rw [handOn_msg_all kind ha all low, receiveMsg_foreign foreign]

end Sys2Proof.Machine

/-! SUPPORT. The offer of the Message Unit as an End takes it, and the arbiter's order (R13, R14, R16, R17, R18). -/

namespace Sys2Proof.Machine

variable {s t : State}

/-! ## The arbiter's order -/

/-- The first slot that holds a frame (R17). -/
theorem first_eq (q : Slots) : q.first =
    ((((q.inauguration.slot.map (Source.inauguration, ·)).or (q.cycle.slot.map (Source.cycle, ·))).or
      (q.door.slot.map (Source.door, ·))).or (q.wake.slot.map (Source.wake, ·))).or
        (q.keepalive.slot.map (Source.keepalive, ·)) := by
  unfold Slots.first sourceOrder
  simp only [List.findSome?, Slots.get]
  cases q.inauguration.slot <;> cases q.cycle.slot <;> cases q.door.slot <;> cases q.wake.slot <;>
    cases q.keepalive.slot <;> rfl

/-- The next frame comes from the first slot that holds one, else from the Through Queue, else from the offer (R17). -/
theorem nextFrame_cases {e : EndId} {f : Frame} (h : NextFrame s e f) :
    (∃ x, (s.lineEnd e).slots.first = some (x, f))
      ∨ (s.lineEnd e).slots.first = none ∧ (∃ rest, (s.lineEnd e).throughQueue = f :: rest)
      ∨ (s.lineEnd e).slots.first = none ∧ (s.lineEnd e).throughQueue = [] ∧ s.offeredTo e = some f := by
  unfold NextFrame at h
  rw [first_eq]
  generalize s.lineEnd e = l at h
  rcases h with i | ⟨i, c | ⟨c, d | ⟨d, w | ⟨w, k | ⟨k, q | ⟨q, o⟩⟩⟩⟩⟩⟩
  · exact Or.inl ⟨.inauguration, by rw [i]; rfl⟩
  · exact Or.inl ⟨.cycle, by rw [i, c]; rfl⟩
  · exact Or.inl ⟨.door, by rw [i, c, d]; rfl⟩
  · exact Or.inl ⟨.wake, by rw [i, c, d, w]; rfl⟩
  · exact Or.inl ⟨.keepalive, by rw [i, c, d, w, k]; rfl⟩
  · rw [i, c, d, w, k]
    exact Or.inr (Or.inl ⟨rfl, List.head?_eq_some_iff.1 q⟩)
  · rw [i, c, d, w, k]
    exact Or.inr (Or.inr ⟨rfl, q, o⟩)

theorem arbiterTake_busy {e : EndId} (h : (s.lineEnd e).link = .opened ∨ (s.lineEnd e).sending ≠ none) :
    s.arbiterTake e = s := by
  refine if_pos ?_
  rcases h with o | busy
  · exact Or.inl (by simpa [State.isOpen] using o)
  · exact Or.inr (Option.isSome_iff_ne_none.2 busy)

theorem arbiter_free {e : EndId} (o : (s.lineEnd e).link ≠ .opened) (free : (s.lineEnd e).sending = none) :
    ¬(s.isOpen e = true ∨ (s.lineEnd e).sending.isSome = true) := by
  rw [free]; simpa [State.isOpen] using o

theorem chooseFrame_slot {e : EndId} {x : Source} {f : Frame} (h : (s.lineEnd e).slots.first = some (x, f)) :
    s.chooseFrame e = some (.slot x f) := by
  unfold State.chooseFrame
  rw [h]

theorem chooseFrame_queue {e : EndId} {f : Frame} {rest : List Frame} (h : (s.lineEnd e).slots.first = none)
    (q : (s.lineEnd e).throughQueue = f :: rest) : s.chooseFrame e = some (.through f rest) := by
  unfold State.chooseFrame
  rw [h, q]

theorem chooseFrame_offer {e : EndId} {f : Frame} (h : (s.lineEnd e).slots.first = none)
    (q : (s.lineEnd e).throughQueue = []) (o : s.offeredTo e = some f) : s.chooseFrame e = some (.offer f) := by
  unfold State.chooseFrame
  rw [h, q, o]
  rfl

theorem arbiterTake_eq_slot {e : EndId} {x : Source} {f : Frame} (o : (s.lineEnd e).link ≠ .opened)
    (free : (s.lineEnd e).sending = none) (h : (s.lineEnd e).slots.first = some (x, f)) :
    s.arbiterTake e = ((s.modEnd e (·.modSlot x SourceSlot.advance)).send e f).ownLeaves e x f := by
  unfold State.arbiterTake
  rw [if_neg (arbiter_free o free), chooseFrame_slot h]

theorem arbiterTake_eq_queue {e : EndId} {f : Frame} {rest : List Frame} (o : (s.lineEnd e).link ≠ .opened)
    (free : (s.lineEnd e).sending = none) (h : (s.lineEnd e).slots.first = none)
    (q : (s.lineEnd e).throughQueue = f :: rest) :
    s.arbiterTake e = (s.modEnd e fun l => { l with throughQueue := rest }).send e f := by
  unfold State.arbiterTake
  rw [if_neg (arbiter_free o free), chooseFrame_queue h q]

theorem arbiterTake_eq_offer {e : EndId} {f : Frame} (o : (s.lineEnd e).link ≠ .opened)
    (free : (s.lineEnd e).sending = none) (h : (s.lineEnd e).slots.first = none)
    (q : (s.lineEnd e).throughQueue = []) (offered : s.offeredTo e = some f) :
    s.arbiterTake e = (s.send e f).takeOffer e := by
  unfold State.arbiterTake
  rw [if_neg (arbiter_free o free), chooseFrame_offer h q offered]

/-- A transmitter that takes a frame (R18). -/
def LineEnd.sends (l : LineEnd) (f : Frame) : LineEnd :=
  { l with txSequence := nextWrap 255 l.txSequence, sending := some (f.wire (nextWrap 255 l.txSequence)) }

theorem send_eq (s : State) (e : EndId) (f : Frame) : s.send e f = s.modEnd e (·.sends f) := rfl

/-! ## The leaving of a head's own CALL or ORDER -/

theorem track_unprove (s : State) : s.unprove.track = { s.track with proved := false, lifetime := none } := by
  unfold State.unprove State.setProof
  split
  · next down => rw [modTrack_track] at down ⊢; rw [← down]
  · simp [State.raise, State.raiseAt]

theorem unprove_door (s : State) : s.unprove.door = s.door :=
  sameBlock_of_forget (L := [.tracking, .portOf .portA, .portOf .portB]) (by simp) .door (by simp)

/-- A head's own CALL of the cycle under way (R69; log 16). -/
def State.ownCall (s : State) (a : ActiveConsist) (x : Source) (f : Frame) : Prop :=
  x = .cycle ∧ f.kind = .call ∧ identityAt f.payload 0 = a.identity ∧ num16 f.payload 6 = s.cycle.number

/-- A head's own ORDER (R104; log 16). -/
def ActiveConsist.ownOrder (a : ActiveConsist) (x : Source) (f : Frame) : Prop :=
  x = .door ∧ f.kind = .order ∧ (OrderFrame.ofPayload f.payload).identity.head = a.identity.head

theorem ownLeaves_call {a : ActiveConsist} {e : EndId} {x : Source} {f : Frame} (ha : s.active = some a)
    (head : s.heading = true) (he : e = a.headward.other) (own : s.ownCall a x f) : s.ownLeaves e x f = s.callLeaves a := by
  obtain ⟨hx, kind, same, number⟩ := own
  have own : ownCycleFrame a.identity f = true := by simp [ownCycleFrame, kind, same]
  unfold State.ownLeaves
  rw [ha]
  simp only
  rw [if_pos ⟨head, he⟩, if_pos ⟨hx, kind, own, number⟩]

theorem ownLeaves_order {a : ActiveConsist} {e : EndId} {x : Source} {f : Frame} (ha : s.active = some a)
    (head : s.heading = true) (he : e = a.headward.other) (own : a.ownOrder x f) :
    s.ownLeaves e x f = s.orderLeaves a f := by
  have noCall : x ≠ .cycle := by rw [own.1]; decide
  unfold State.ownLeaves
  rw [ha]
  simp only
  rw [if_pos ⟨head, he⟩, if_neg fun h => noCall h.1]
  exact if_pos own

/-- Every other leaving leaves the head parts alone (R69, R104; log 38). -/
theorem ownLeaves_other {e : EndId} {x : Source} {f : Frame} (h : s.heading = false ∨ ∀ a, s.active = some a →
    e ≠ a.headward.other ∨ ¬s.ownCall a x f ∧ ¬a.ownOrder x f) : s.ownLeaves e x f = s := by
  unfold State.ownLeaves
  split
  · next a ha =>
    split
    · next leaves =>
      obtain ⟨head, he⟩ := leaves
      rcases h with no | foreign
      · rw [no] at head; cases head
      · rcases foreign a ha with beside | ⟨call, order⟩
        · exact absurd he beside
        · rw [if_neg ?_]
          · exact if_neg order
          · rintro ⟨hx, kind, own, number⟩
            simp only [ownCycleFrame, Bool.and_eq_true, decide_eq_true_eq] at own
            exact call ⟨hx, kind, own.2, number⟩
    · rfl
  · rfl

/-- The blocks that the leaving of a frame can reach (R69, R104). -/
def leavingBlocks : List Block := [.moments, .cycle, .door, .tracking, .portOf .portA, .portOf .portB]

theorem forget_ownLeaves_leaving (s : State) (e : EndId) (x : Source) (f : Frame) :
    (s.ownLeaves e x f).forget leavingBlocks = s.forget leavingBlocks := by
  simp [leavingBlocks]

/-! ## Taking an offer -/

/-- The deadlines of the In-Flight entries when an offered frame is taken: a unicast's starts (R156). -/
def OfferKind.started (k : OfferKind) (deadline : Timer) (l : List InFlight) : List InFlight :=
  match k with
  | .unicast n => l.map fun x => if x.buffer = n then { x with deadline := deadline } else x
  | .note | .broadcast _ => l

theorem takenAt_waits (o : Offer) (e : EndId) : ((o.takenAt e).at1 || (o.takenAt e).at2) = o.waitsAt e.other := by
  cases e
  · exact Bool.false_or _
  · exact Bool.or_false _

theorem takenAt_same (o : Offer) (e : EndId) : (o.takenAt e).waitsAt e = false := by cases e <;> rfl
theorem takenAt_other (o : Offer) (e : EndId) : (o.takenAt e).waitsAt e.other = o.waitsAt e.other := by cases e <;> rfl
theorem takenAt_kind (o : Offer) (e : EndId) : (o.takenAt e).kind = o.kind ∧ (o.takenAt e).frame = o.frame := by
  cases e <;> exact ⟨rfl, rfl⟩

/-- The taking of an offer, before it ends (R16, R156). -/
theorem takeOffer_eq {o : Offer} {e : EndId} (ho : s.msg.offer = some o) (w : o.waitsAt e = true) :
    s.takeOffer e = (s.modMsg fun m => { m with
      offer := some (o.takenAt e), inFlight := o.kind.started (some (s.now + 250000)) m.inFlight }).endOffer := by
  unfold State.takeOffer
  rw [ho]
  simp only [w]
  cases o.kind <;> rfl

/-- An offer that another End has yet to take stays (R16). -/
theorem takeOffer_waits {o : Offer} {e : EndId} (ho : s.msg.offer = some o) (w : o.waitsAt e = true)
    (other : o.waitsAt e.other = true) : s.takeOffer e = s.modMsg fun m => { m with
      offer := some (o.takenAt e), inFlight := o.kind.started (some (s.now + 250000)) m.inFlight } := by
  rw [takeOffer_eq ho w]
  unfold State.endOffer
  simp only [modMsg_msg]
  rw [takenAt_waits, if_pos other]

/-- The last End that takes a broadcast completes it SENT (R16, R156). -/
theorem takeOffer_sent {o : Offer} {e : EndId} {n : Nat} (ho : s.msg.offer = some o) (w : o.waitsAt e = true)
    (last : o.waitsAt e.other = false) (kind : o.kind = .broadcast n) :
    s.takeOffer e = (s.modMsg fun m => { m with offer := none }).complete n .sent := by
  rw [takeOffer_eq ho w]
  unfold State.endOffer
  simp only [modMsg_msg]
  rw [takenAt_waits, last, (takenAt_kind o e).1, kind]
  rfl

/-- The last End that takes a unicast or a NOTE ends the offer (R16). -/
theorem takeOffer_last {o : Offer} {e : EndId} (ho : s.msg.offer = some o) (w : o.waitsAt e = true)
    (last : o.waitsAt e.other = false) (kind : ∀ n, o.kind ≠ .broadcast n) : s.takeOffer e = s.modMsg fun m =>
      { m with offer := none, inFlight := o.kind.started (some (s.now + 250000)) m.inFlight } := by
  rw [takeOffer_eq ho w]
  unfold State.endOffer
  simp only [modMsg_msg]
  rw [takenAt_waits, last, (takenAt_kind o e).1]
  cases h : o.kind with
  | note => rfl
  | unicast n => rfl
  | broadcast n => exact absurd h (kind n)

theorem complete_offer (s : State) (n : Nat) (status : MessageStatus) :
    (s.complete n status).msg.offer = s.msg.offer := by
  cases owner : (s.buffer n).state.owner with
  | none => unfold State.complete; rw [owner]
  | some p =>
    rw [complete_owned owner]
    cases p <;> rfl

/-- What is offered after an End has taken the offer (R16). -/
theorem offer_takeOffer {o : Offer} {e : EndId} (ho : s.msg.offer = some o) (w : o.waitsAt e = true) :
    (s.takeOffer e).msg.offer = if o.waitsAt e.other then some (o.takenAt e) else none := by
  cases other : o.waitsAt e.other with
  | true => rw [takeOffer_waits ho w other]; rfl
  | false =>
    cases kind : o.kind with
    | broadcast n => rw [takeOffer_sent ho w other kind, complete_offer]; rfl
    | note => rw [takeOffer_last ho w other (by rw [kind]; exact fun _ h => nomatch h)]; rfl
    | unicast n => rw [takeOffer_last ho w other (by rw [kind]; exact fun _ h => nomatch h)]; rfl

theorem offeredTo_takeOffer {o : Offer} {e : EndId} (ho : s.msg.offer = some o) (w : o.waitsAt e = true) :
    (s.takeOffer e).offeredTo e = none ∧ (s.takeOffer e).offeredTo e.other = s.offeredTo e.other := by
  unfold State.offeredTo
  rw [offer_takeOffer ho w, ho]
  cases other : o.waitsAt e.other with
  | true => simp [takenAt_same, takenAt_other, other, (takenAt_kind o e).2]
  | false => simp [other]

/-- The taking of a unicast starts its deadline, and does no more (R156). -/
theorem takeOffer_unicast {o : Offer} {e : EndId} {n : Nat} (ho : s.msg.offer = some o) (w : o.waitsAt e = true)
    (kind : o.kind = .unicast n) : (s.takeOffer e).msg = { s.msg with
      offer := if o.waitsAt e.other then some (o.takenAt e) else none
      inFlight := s.msg.inFlight.map fun x => if x.buffer = n then { x with deadline := some (s.now + 250000) } else x } := by
  cases other : o.waitsAt e.other with
  | true => rw [takeOffer_waits ho w other, kind]; rfl
  | false => rw [takeOffer_last ho w other (by rw [kind]; exact fun _ h => nomatch h), kind]; rfl

/-- The taking of a NOTE, or of a broadcast that waits elsewhere, touches no buffer (R16). -/
theorem takeOffer_buffers {o : Offer} {e : EndId} (ho : s.msg.offer = some o) (w : o.waitsAt e = true)
    (h : o.kind = .note ∨ o.waitsAt e.other = true) : (s.takeOffer e).msg.buffers = s.msg.buffers := by
  cases other : o.waitsAt e.other with
  | true => rw [takeOffer_waits ho w other]; rfl
  | false =>
    rcases h with kind | waits
    · rw [takeOffer_last ho w other (by rw [kind]; exact fun _ h => nomatch h)]; rfl
    · rw [other] at waits; cases waits

/-- A broadcast that has been taken everywhere is SENT (R156, R162). -/
theorem takeOffer_broadcast {o : Offer} {e : EndId} {n : Nat} {p : PortId} (ho : s.msg.offer = some o)
    (w : o.waitsAt e = true) (last : o.waitsAt e.other = false) (kind : o.kind = .broadcast n)
    (lt : n < s.msg.buffers.length) (owner : (s.buffer n).state.owner = some p) :
    (s.takeOffer e).bufferState n = .inbound p ∧ ((s.takeOffer e).buffer n).bytes = (s.buffer n).bytes.set 7 5
      ∧ (s.takeOffer e).queues p = { s.queues p with inbound := (s.queues p).inbound ++ [n] }
      ∧ (s.takeOffer e).msg.inFlight = s.msg.inFlight.filter (fun y => y.buffer != n) := by
  rw [takeOffer_sent ho w last kind]
  have owner' : ((s.modMsg fun m => { m with offer := none }).buffer n).state.owner = some p := owner
  obtain ⟨state, bytes⟩ := complete_buffer (status := .sent) owner' lt
  obtain ⟨queue, -⟩ := complete_queues (status := .sent) owner'
  refine ⟨state, bytes, queue.trans ?_, complete_inFlight owner'⟩
  cases p <;> rfl

theorem offeredTo_some {e : EndId} {f : Frame} (h : s.offeredTo e = some f) :
    ∃ o, s.msg.offer = some o ∧ o.waitsAt e = true := by
  unfold State.offeredTo at h
  split at h
  · next o ho =>
    split at h
    · next w => exact ⟨o, ho, w⟩
    · cases h
  · cases h

/-! ## What the arbiter's step leaves alone -/

/-- The blocks that the arbiter's step can reach beside the End itself. -/
def takingBlocks : List Block := [.moments, .cycle, .door, .tracking, .messages, .portOf .portA, .portOf .portB]

/-- An End that has taken a frame has numbered it and sends it, and no engine changed (R18). -/
theorem taking_items {u : State} {e : EndId} {f : Frame} {g : LineEnd → LineEnd}
    (hu : u = (s.modEnd e g).send e f) (hg : ∀ l, (g l).txSequence = l.txSequence)
    (h : t.forget takingBlocks = u.forget takingBlocks) :
    t.lineEnd e = { g (s.lineEnd e) with
        txSequence := nextWrap 255 (s.lineEnd e).txSequence
        sending := some (f.wire (nextWrap 255 (s.lineEnd e).txSequence)) }
      ∧ t.power = s.power ∧ t.inaug = s.inaug ∧ t.grants = s.grants ∧ t.stage = s.stage
      ∧ t.lineEnd e.other = s.lineEnd e.other
      ∧ OnlyChanges [.endOf e, .moments, .cycle, .door, .tracking, .messages, .portOf .portA, .portOf .portB] s t := by
  have sent : u.forget [.endOf e] = s.forget [.endOf e] := by rw [hu, send_eq]; simp
  have both : t.forget (.endOf e :: takingBlocks) = s.forget (.endOf e :: takingBlocks) :=
    (forget_mono h fun _ m => List.mem_cons_of_mem _ m).trans
      (forget_mono sent fun _ m => by rw [List.mem_singleton.1 m]; exact List.mem_cons_self)
  refine ⟨?_, sameBlock_of_forget both .power (by simp [takingBlocks]),
    sameBlock_of_forget both .inauguration (by simp [takingBlocks]),
    sameBlock_of_forget both .grants (by simp [takingBlocks]),
    sameBlock_of_forget both .stages (by simp [takingBlocks]),
    sameBlock_of_forget both (.endOf e.other) (by simp [takingBlocks, end_other_ne]),
    (onlyChanges_iff_forget _ _ _).2 both⟩
  rw [show t.lineEnd e = u.lineEnd e from sameBlock_of_forget h (.endOf e) (by simp [takingBlocks]), hu, send_eq,
    lineEnd_modEnd_same, lineEnd_modEnd_same, LineEnd.sends, hg]

end Sys2Proof.Machine

/-! SUPPORT. The Message Unit while the Inauguration Engine acts on a report, and the statement about the arbiter (R16,
R17, R20, R163). -/

namespace Sys2Proof.Machine

variable {s t : State} {P : MessageUnit → Prop}

/-! ## The Message Unit is told, and nothing else reaches it -/

/-- A property of the Message Unit that a report of a recount or of a leaving keeps (R163). -/
def MsgClosed (P : MessageUnit → Prop) : Prop := ∀ u : State, P u.msg → P u.msgReport.msg

/-- Every block but the Message Unit that an engine can reach. -/
def otherBlocks : List Block :=
  [.moments, .endOf .end1, .endOf .end2, .inauguration, .cycle, .door, .tracking, .grants, .stages, .portOf .portA
  , .portOf .portB]

theorem msg_of_forget (h : t.forget otherBlocks = s.forget otherBlocks) : t.msg = s.msg :=
  sameBlock_of_forget h .messages (by simp [otherBlocks])

theorem told_of_forget (q : t.forget otherBlocks = s.forget otherBlocks) (h : P s.msg) : P t.msg := by
  rw [msg_of_forget q]; exact h

theorem told_reportRecount (hP : MsgClosed P) (h : P s.msg) : P s.reportRecount.msg :=
  hP _ (told_of_forget (by simp [otherBlocks]) h)

theorem told_leaveMember (hP : MsgClosed P) {a : ActiveConsist} {next : NodeRole} {cause : LeaveCause} (h : P s.msg) :
    P (s.leaveMember a next cause).msg := by
  unfold State.leaveMember
  simp only
  have left : P ((((s.modInaug fun i => { i with role := next, silence := none, lastCause := some cause }).roleChanged.raise
      .consistInvalidated)).reportRecount).msg :=
    told_reportRecount hP (told_of_forget (s := s) (by simp [otherBlocks]) h)
  split
  · exact told_of_forget (by simp [otherBlocks]) left
  · exact left

theorem told_goUnassigned (hP : MsgClosed P) {cause : LeaveCause} (h : P s.msg) : P (s.goUnassigned cause).msg := by
  unfold State.goUnassigned
  split
  · exact h
  · exact told_of_forget (s := s) (by simp [otherBlocks]) h
  · next a _ =>
    exact told_of_forget (by simp [otherBlocks]) (told_leaveMember (a := a) (next := .unassigned) (cause := cause) hP h)

theorem told_recount (hP : MsgClosed P) {r : CountRecord} (h : P s.msg) : P (s.recount r).msg := by
  unfold State.recount
  split
  · exact told_leaveMember hP h
  · exact told_reportRecount hP (told_of_forget (s := s) (by simp [otherBlocks]) h)
  · exact told_reportRecount hP h

theorem told_attemptFrom (hP : MsgClosed P) {headward : EndId} {attempt : Nat} (h : P s.msg) :
    P (s.attemptFrom headward attempt).msg := by
  unfold State.attemptFrom
  simp only
  split
  · exact told_of_forget (by simp [otherBlocks]) (told_recount (r := s.claimRecord headward attempt) hP h)
  · exact told_of_forget (by simp [otherBlocks]) (told_recount (r := s.claimRecord headward attempt) hP h)

theorem told_beginAttempt (hP : MsgClosed P) {attempt : Nat} (h : P s.msg) : P (s.beginAttempt attempt).msg := by
  unfold State.beginAttempt
  simp only
  split
  · exact told_attemptFrom hP h
  · exact told_of_forget (by simp [otherBlocks])
      (told_goUnassigned (s := s.modInaug fun i => { i with attempt := attempt }) (cause := .claimEnded) hP h)

theorem told_reportClaiming (hP : MsgClosed P) {r : CountRecord} {c : EndChange} (h : P s.msg) :
    P (s.reportClaiming r c).msg := by
  unfold State.reportClaiming
  split
  · split
    · have dissolved : P (s.placeDissolve r.tailward 0).msg := told_of_forget (by simp [otherBlocks]) h
      exact told_of_forget (by simp [otherBlocks]) (told_goUnassigned (cause := .claimEnded) hP dissolved)
    · exact h
  · split
    · split
      · exact h
      · split
        · exact told_of_forget (by simp [otherBlocks]) h
        · exact h
    · split
      · exact told_beginAttempt hP h
      · exact h

theorem told_reportCounted (hP : MsgClosed P) {r : CountRecord} {c : EndChange} (h : P s.msg) :
    P (s.reportCounted r c).msg := by
  unfold State.reportCounted
  split
  · split
    · exact told_goUnassigned hP h
    · exact h
  · have tail : P (s.tailChange r c).msg := told_of_forget (by simp [otherBlocks]) h
    simp only
    split
    · exact told_of_forget (by simp [otherBlocks]) tail
    · exact tail

theorem told_reportHeading (hP : MsgClosed P) {a : ActiveConsist} {c : EndChange} (h : P s.msg) :
    P (s.reportHeading a c).msg := by
  unfold State.reportHeading
  split
  · split
    · have dissolved : P (s.placeDissolve a.tailward a.identity.generation).msg :=
        told_of_forget (by simp [otherBlocks]) h
      unfold State.displace
      exact told_of_forget (by simp [otherBlocks]) (told_goUnassigned (cause := .dissolve) hP dissolved)
    · exact h
  · split
    · unfold State.reinaugurate
      split
      · exact told_beginAttempt hP h
      · exact h
    · exact h

theorem told_reportMember (hP : MsgClosed P) {a : ActiveConsist} {c : EndChange} (h : P s.msg) :
    P (s.reportMember a c).msg := by
  unfold State.reportMember
  split
  · split
    · exact told_goUnassigned hP h
    · exact h
  · split
    · exact told_of_forget (by simp [otherBlocks]) h
    · exact h

/-- The Inauguration Engine reaches the Message Unit by that report alone (R20, R163). -/
theorem told_reportInauguration (hP : MsgClosed P) {c : EndChange} (h : P s.msg) : P (s.reportInauguration c).msg := by
  unfold State.reportInauguration
  split
  · exact h
  · split
    · exact told_reportClaiming hP h
    · exact told_reportCounted hP h
  · split
    · exact told_reportHeading hP h
    · exact told_reportMember hP h

/-! ## What a report leaves of the offer and of a buffer -/

theorem offer_foldl_complete (l : List InFlight) (s : State) :
    (l.foldl (fun s x => s.complete x.buffer .stale) s).msg.offer = s.msg.offer := by
  induction l generalizing s with
  | nil => rfl
  | cons x l ih => rw [List.foldl_cons, ih, complete_offer]

theorem withdrawOffer_offer (s : State) : s.withdrawOffer.msg.offer = none := by
  unfold State.withdrawOffer
  split
  · next none => exact none
  · simp only
    split
    · rfl
    · split
      · rw [complete_offer]; rfl
      · rfl
    · rw [complete_offer]; rfl

/-- A report of a recount or of a leaving ends every offer (R163). -/
theorem msgReport_offer (s : State) : s.msgReport.msg.offer = none := by
  unfold State.msgReport
  simp only [modMsg_msg]
  rw [offer_foldl_complete, withdrawOffer_offer]

/-- Nothing waits for an End. -/
def MessageUnit.idleAt (e : EndId) (m : MessageUnit) : Prop := ∀ o, m.offer = some o → o.waitsAt e = false

theorem offeredTo_of_idleAt {e : EndId} (h : s.msg.idleAt e) : s.offeredTo e = none := by
  unfold State.offeredTo
  split
  · next o ho => simp [h o ho]
  · rfl

theorem msgClosed_idleAt (e : EndId) : MsgClosed (MessageUnit.idleAt e) := by
  intro u _ o ho
  rw [msgReport_offer] at ho
  cases ho

theorem msgClosed_noOffer : MsgClosed fun m => m.offer = none := fun u _ => msgReport_offer u

/-- A buffer that is neither offered nor in flight, with what it holds. -/
def MessageUnit.apart (n : Nat) (b : Buffer) (m : MessageUnit) : Prop :=
  m.offer = none ∧ (∀ x ∈ m.inFlight, x.buffer ≠ n) ∧ m.buffers.getD n .reset = b

theorem complete_buffer_apart {n m : Nat} {status : MessageStatus} (h : m ≠ n) :
    (s.complete n status).buffer m = s.buffer m := by
  cases owner : (s.buffer n).state.owner with
  | none => unfold State.complete; rw [owner]
  | some p => exact complete_buffer_ne owner h

theorem buffer_foldl_complete {n : Nat} (l : List InFlight) (s : State) (h : ∀ x ∈ l, x.buffer ≠ n) :
    (l.foldl (fun s x => s.complete x.buffer .stale) s).buffer n = s.buffer n := by
  induction l generalizing s with
  | nil => rfl
  | cons x l ih =>
    rw [List.foldl_cons, ih _ fun y hy => h y (List.mem_cons_of_mem _ hy),
      complete_buffer_apart (h x List.mem_cons_self).symm]

theorem msgClosed_apart (n : Nat) (b : Buffer) : MsgClosed (MessageUnit.apart n b) := by
  rintro u ⟨offer, apart, held⟩
  have none : u.withdrawOffer = u := by unfold State.withdrawOffer; rw [offer]
  refine ⟨msgReport_offer u, ?_, ?_⟩
  · unfold State.msgReport
    simp
  · unfold State.msgReport
    rw [none]
    exact (buffer_foldl_complete u.msg.inFlight u apart).trans held

/-- The End that stops being usable takes a waiting offer, and the node then acts on the report (R16, R20; log 30). -/
theorem reportEnd_lost {e : EndId} {old : LinkState} (new : (s.lineEnd e).link ≠ old) (lost : s.usable e = false) :
    s.reportEnd e old = (s.takeOffer e).reportInauguration { place := e, old := old, new := (s.lineEnd e).link } := by
  unfold State.reportEnd State.discardOffer
  simp only
  rw [if_neg new, if_neg (by simp [lost])]

theorem takeOffer_inaug (s : State) (e : EndId) : (s.takeOffer e).inaug = s.inaug :=
  sameBlock_of_forget (L := [.messages]) (by simp) .inauguration (by simp)

/-- A node that has no consist, or a member at its tail-ward End, keeps its Message Unit through a report (R20, R64). -/
theorem msg_reportInauguration_kept {c : EndChange} (h : s.inaug.role = .unassigned
    ∨ ∃ a, s.active = some a ∧ s.heading = false ∧ c.place = a.headward.other) : (s.reportInauguration c).msg = s.msg := by
  unfold State.reportInauguration
  rcases h with role | ⟨a, ha, head, place⟩
  · rw [role]
  · have role : s.inaug.role = .member a := by
      unfold State.active at ha
      split at ha
      · next b hb => cases ha; exact hb
      · cases ha
      · cases ha
    have apart : c.place ≠ a.headward := by rw [place]; exact end_other_ne _
    rw [role]
    simp only [head, State.reportMember, if_neg apart]
    simp only [Bool.false_eq_true, if_false]
    split
    · exact msg_of_forget (by simp [otherBlocks])
    · rfl

/-! ## The source's slot -/

theorem place_opened {e : EndId} {x : Source} {f : Frame} (o : (s.lineEnd e).link = .opened) : s.place e x f = s :=
  if_pos (by simpa [State.isOpen] using o)

theorem place_eq {e : EndId} {f : Frame} (x : Source) (o : (s.lineEnd e).link ≠ .opened) :
    s.place e x f = s.modEnd e (·.modSlot x (·.place f)) := if_neg (by simpa [State.isOpen] using o)

theorem slotPlace_eq (q : SourceSlot) (f : Frame) :
    q.place f = if q.slot = none then { slot := some f, held := q.held } else { slot := q.slot, held := some f } := by
  obtain ⟨slot, held⟩ := q
  cases slot <;> rfl

/-! ## The arbiter's step, case by case -/

/-- What a frame's leaving its slot does to the head parts (R69, R104, R110). -/
def LeavingItems (s t : State) (e : EndId) (x : Source) (f : Frame) : Prop :=
  let m : Moment := { time := s.now, order := s.moments + 1 }
  let o := OrderFrame.ofPayload f.payload
  (∀ a, s.active = some a → s.heading = true → e = a.headward.other →
    (s.ownCall a x f → t.moments = s.moments + 1 ∧ (t.door, t.track) = (s.door, s.track) ∧ NoEvent s t
      ∧ t.cycle = { s.cycle with
          lastCallLeft := some m
          cycleTimeout := if a.length = 1 then none else some (s.now + (10 + a.length) * 1000)
          periodTimer := some (s.now + s.cycle.timing.cyclePeriod * 1000)
          refreshTimer := some (s.now + s.cycle.timing.quietRefresh * 1000) })
    ∧ (a.ownOrder x f → t.moments = s.moments + 1 ∧ t.cycle = s.cycle
      ∧ t.track.outstanding = s.track.outstanding.map (fun r =>
          if r.id = o.id ∧ o.identity = a.identity ∧ r.firstSent = none then { r with firstSent := some m } else r)
      ∧ t.track.lastProved = s.track.lastProved
      ∧ (o.action = 1 → t.door = { s.door with lastReleaseSent := some m }
        ∧ t.track.proved = false ∧ t.track.lifetime = none)
      ∧ (o.action ≠ 1 → t.door = s.door ∧ NoEvent s t
        ∧ (t.track.proved, t.track.lifetime) = (s.track.proved, s.track.lifetime))))
  ∧ (s.heading = false ∨ (∀ a, s.active = some a → e ≠ a.headward.other ∨ ¬s.ownCall a x f ∧ ¬a.ownOrder x f) →
      (t.cycle, t.door, t.track) = (s.cycle, s.door, s.track) ∧ t.moments = s.moments ∧ NoEvent s t)

theorem orderLeaves_items (s : State) (a : ActiveConsist) (f : Frame) :
    let m : Moment := { time := s.now, order := s.moments + 1 }
    let o := OrderFrame.ofPayload f.payload
    let t := s.orderLeaves a f
    t.moments = s.moments + 1 ∧ t.cycle = s.cycle
      ∧ t.track.outstanding = s.track.outstanding.map (fun r =>
          if r.id = o.id ∧ o.identity = a.identity ∧ r.firstSent = none then { r with firstSent := some m } else r)
      ∧ t.track.lastProved = s.track.lastProved
      ∧ (o.action = 1 → t.door = { s.door with lastReleaseSent := some m }
        ∧ t.track.proved = false ∧ t.track.lifetime = none)
      ∧ (o.action ≠ 1 → t.door = s.door ∧ NoEvent s t
        ∧ (t.track.proved, t.track.lifetime) = (s.track.proved, s.track.lifetime)) := by
  simp only [eq_comm (b := a.identity)]
  unfold State.orderLeaves
  by_cases release : (OrderFrame.ofPayload f.payload).action = DoorAction.release.code
  · simp only [if_pos release]
    refine ⟨?_, ?_, ?_, ?_, fun _ => ⟨?_, ?_, ?_⟩, fun n => absurd release n⟩
    · exact sameBlock_of_forget (s := s.tickMoment) (L := [.tracking, .door, .portOf .portA, .portOf .portB]) (by simp)
        .moments (by simp)
    · exact sameBlock_of_forget (s := s.tickMoment) (L := [.tracking, .door, .portOf .portA, .portOf .portB]) (by simp)
        .cycle (by simp)
    · rw [track_unprove]; rfl
    · rw [track_unprove]; rfl
    · rw [unprove_door]; rfl
    · rw [track_unprove]
    · rw [track_unprove]
  · simp only [if_neg release]
    exact ⟨rfl, rfl, rfl, rfl, fun r => absurd r release, fun _ => ⟨rfl, fun q => by simp, rfl⟩⟩

theorem leavingItems_ownLeaves (s : State) (e : EndId) (x : Source) (f : Frame) :
    LeavingItems s (s.ownLeaves e x f) e x f := by
  refine ⟨fun a ha head he => ⟨fun own => ?_, fun own => ?_⟩, fun other => ?_⟩
  · rw [ownLeaves_call ha head he own]
    exact ⟨rfl, rfl, fun q => by simp [State.callLeaves], rfl⟩
  · rw [ownLeaves_order ha head he own]
    exact orderLeaves_items s a f
  · rw [ownLeaves_other other]
    exact ⟨rfl, rfl, fun _ => rfl⟩

/-- The leaving is of the state before the frame was sent: the transmitter is no part of it (R18). -/
theorem leavingItems_sent {e : EndId} {x : Source} {f : Frame} (g : LineEnd → LineEnd)
    (h : LeavingItems (s.modEnd e g) t e x f) : LeavingItems s t e x f := by
  unfold LeavingItems State.ownCall NoEvent State.active State.heading at h ⊢
  simpa using h

end Sys2Proof.Machine

/-! SUPPORT. The statement about the arbiter, put together from the cases of its choice (R14, R16, R17, R18). -/

namespace Sys2Proof.Machine

variable {s t : State}

/-- What the arbiter's step does at its End, whatever it took (R18). -/
def TakenItems (s t : State) (e : EndId) (f : Frame) : Prop :=
  (t.lineEnd e).txSequence = nextWrap 255 (s.lineEnd e).txSequence
    ∧ (t.lineEnd e).sending = some (f.wire (nextWrap 255 (s.lineEnd e).txSequence))
    ∧ t.power = s.power ∧ t.inaug = s.inaug ∧ t.grants = s.grants ∧ t.stage = s.stage
    ∧ t.lineEnd e.other = s.lineEnd e.other
    ∧ OnlyChanges [.endOf e, .moments, .cycle, .door, .tracking, .messages, .portOf .portA, .portOf .portB] s t

theorem takenItems_of_forget {u : State} {e : EndId} {f : Frame} {g : LineEnd → LineEnd}
    (hu : u = (s.modEnd e g).send e f) (hg : ∀ l, (g l).txSequence = l.txSequence)
    (h : t.forget takingBlocks = u.forget takingBlocks) : TakenItems s t e f ∧ t.lineEnd e = { g (s.lineEnd e) with
        txSequence := (t.lineEnd e).txSequence, sending := (t.lineEnd e).sending } := by
  obtain ⟨here, rest⟩ := taking_items hu hg h
  exact ⟨⟨by rw [here], by rw [here], rest⟩, by rw [here]⟩

/-- What else the arbiter's step does where it takes a slot's frame (R14). -/
def SlotItems (s t : State) (e : EndId) (f : Frame) (x : Source) : Prop :=
  t.lineEnd e = { s.lineEnd e with
      slots := (s.lineEnd e).slots.set x { slot := ((s.lineEnd e).slots.get x).held, held := none }
      txSequence := (t.lineEnd e).txSequence, sending := (t.lineEnd e).sending }
    ∧ t.msg = s.msg ∧ LeavingItems s t e x f

theorem arbiterTake_slot {e : EndId} {x : Source} {f : Frame} (o : (s.lineEnd e).link ≠ .opened)
    (free : (s.lineEnd e).sending = none) (first : (s.lineEnd e).slots.first = some (x, f)) :
    TakenItems s (s.arbiterTake e) e f ∧ SlotItems s (s.arbiterTake e) e f x := by
  rw [arbiterTake_eq_slot o free first]
  generalize hu : (s.modEnd e (·.modSlot x SourceSlot.advance)).send e f = u
  have sent : (u.ownLeaves e x f).forget takingBlocks = u.forget takingBlocks := by simp [takingBlocks]
  obtain ⟨taken, here⟩ := takenItems_of_forget hu.symm (fun _ => rfl) sent
  have msg : (u.ownLeaves e x f).msg = u.msg :=
    sameBlock_of_forget (forget_ownLeaves_leaving u e x f) .messages (by simp [leavingBlocks])
  refine ⟨taken, here, by rw [msg, ← hu, send_eq]; simp, ?_⟩
  have leaving := leavingItems_ownLeaves u e x f
  rw [← hu, send_eq] at leaving ⊢
  exact leavingItems_sent _ (leavingItems_sent _ leaving)

/-- What else the arbiter's step does where it takes a frame that passes through, or the offer (R15, R16). -/
def QueueItems (s t : State) (e : EndId) : Prop :=
  t.lineEnd e = { s.lineEnd e with
      throughQueue := (s.lineEnd e).throughQueue.drop 1
      txSequence := (t.lineEnd e).txSequence, sending := (t.lineEnd e).sending }
    ∧ (t.cycle, t.door, t.track) = (s.cycle, s.door, s.track) ∧ NoEvent s t

theorem arbiterTake_queue {e : EndId} {f : Frame} {rest : List Frame} (o : (s.lineEnd e).link ≠ .opened)
    (free : (s.lineEnd e).sending = none) (first : (s.lineEnd e).slots.first = none)
    (queue : (s.lineEnd e).throughQueue = f :: rest) :
    TakenItems s (s.arbiterTake e) e f ∧ QueueItems s (s.arbiterTake e) e ∧ (s.arbiterTake e).msg = s.msg := by
  rw [arbiterTake_eq_queue o free first queue]
  obtain ⟨taken, here⟩ := takenItems_of_forget (t := (s.modEnd e fun l => { l with throughQueue := rest }).send e f)
    (g := fun l => { l with throughQueue := rest }) rfl (fun _ => rfl) rfl
  refine ⟨taken, ⟨by rw [queue]; exact here, ?_, fun q => ?_⟩, ?_⟩ <;> rw [send_eq] <;> simp

/-- What becomes of the offer that an End takes (R16, R156, R162). -/
def OfferItems (s t : State) (e : EndId) : Prop :=
  t.offeredTo e = none ∧ t.offeredTo e.other = s.offeredTo e.other
    ∧ ∀ o, s.msg.offer = some o →
      t.msg.offer = (if o.waitsAt e.other then some (o.takenAt e) else none)
      ∧ (∀ n, o.kind = .unicast n → t.msg = { s.msg with
          offer := t.msg.offer
          inFlight := s.msg.inFlight.map fun x =>
            if x.buffer = n then { x with deadline := some (s.now + 250000) } else x })
      ∧ (o.kind = .note ∨ o.waitsAt e.other = true → t.msg.buffers = s.msg.buffers)
      ∧ ∀ n, o.kind = .broadcast n → o.waitsAt e.other = false → n < s.msg.buffers.length →
          ∀ p, (s.buffer n).state.owner = some p → t.bufferState n = .inbound p
            ∧ (t.buffer n).bytes = (s.buffer n).bytes.set 7 5
            ∧ t.queues p = { s.queues p with inbound := (s.queues p).inbound ++ [n] }

theorem offerItems_takeOffer {o : Offer} {e : EndId} (ho : s.msg.offer = some o) (w : o.waitsAt e = true) :
    OfferItems s (s.takeOffer e) e := by
  refine ⟨(offeredTo_takeOffer ho w).1, (offeredTo_takeOffer ho w).2, fun o' ho' => ?_⟩
  obtain rfl : o = o' := Option.some.inj (ho.symm.trans ho')
  refine ⟨offer_takeOffer ho w, fun n kind => ?_, takeOffer_buffers ho w, fun n kind last lt p owner => ?_⟩
  · rw [takeOffer_unicast ho w kind]
  · obtain ⟨state, bytes, queue, -⟩ := takeOffer_broadcast ho w last kind lt owner
    exact ⟨state, bytes, queue⟩

/-- The End is no part of the offer (R16). -/
theorem offerItems_sent {e : EndId} (g : LineEnd → LineEnd) (h : OfferItems (s.modEnd e g) t e) : OfferItems s t e := by
  unfold OfferItems State.offeredTo State.buffer State.queues at h ⊢
  simpa using h

theorem arbiterTake_offer {e : EndId} {f : Frame} (o : (s.lineEnd e).link ≠ .opened)
    (free : (s.lineEnd e).sending = none) (first : (s.lineEnd e).slots.first = none)
    (queue : (s.lineEnd e).throughQueue = []) (offered : s.offeredTo e = some f) :
    TakenItems s (s.arbiterTake e) e f ∧ QueueItems s (s.arbiterTake e) e ∧ OfferItems s (s.arbiterTake e) e := by
  rw [arbiterTake_eq_offer o free first queue offered]
  have idle : s.modEnd e (fun l => l) = s := by cases e <;> rfl
  have still : ((s.send e f).takeOffer e).forget [.messages] = (s.send e f).forget [.messages] := by simp
  obtain ⟨taken, here⟩ := takenItems_of_forget (t := (s.send e f).takeOffer e) (u := s.send e f) (g := fun l => l)
    (by rw [idle]) (fun _ => rfl) (by simp [takingBlocks])
  obtain ⟨offer, ho, w⟩ := offeredTo_some offered
  have drop : (s.lineEnd e).throughQueue.drop 1 = (s.lineEnd e).throughQueue := by rw [queue]; rfl
  refine ⟨taken, ⟨by rw [drop]; exact here, ?_, fun q => ?_⟩, ?_⟩
  · rw [show ((s.send e f).takeOffer e).cycle = (s.send e f).cycle from sameBlock_of_forget still .cycle (by simp),
      show ((s.send e f).takeOffer e).door = (s.send e f).door from sameBlock_of_forget still .door (by simp),
      show ((s.send e f).takeOffer e).track = (s.send e f).track from sameBlock_of_forget still .tracking (by simp),
      send_eq]
    simp
  · rw [show ((s.send e f).takeOffer e).port q = (s.send e f).port q from
      sameBlock_of_forget still (.portOf q) (by simp), send_eq, port_modEnd]
  · have took := offerItems_takeOffer (s := s.send e f) (by rw [send_eq, modEnd_msg]; exact ho) w
    rw [send_eq] at took ⊢
    exact offerItems_sent _ took

/-- An End that stops being usable takes its waiting offer before the node acts on the change (R16, R20; log 30). -/
theorem reportEnd_offer {e : EndId} {old : LinkState} {o : Offer} (new : (s.lineEnd e).link ≠ old)
    (lost : s.usable e = false) (ho : s.msg.offer = some o) (w : o.waitsAt e = true) :
    (s.reportEnd e old).offeredTo e = none ∧ (o.waitsAt e.other = false → (s.reportEnd e old).msg.offer = none)
      ∧ (∀ n p, o.kind = .broadcast n → o.waitsAt e.other = false → n < s.msg.buffers.length →
          (∀ x ∈ s.msg.inFlight, x.buffer ≠ n) → (s.buffer n).state.owner = some p →
          (s.reportEnd e old).bufferState n = .inbound p
            ∧ ((s.reportEnd e old).buffer n).bytes = (s.buffer n).bytes.set 7 5)
      ∧ (∀ n, o.kind = .unicast n →
          s.inaug.role = .unassigned ∨ (∃ a, s.active = some a ∧ s.heading = false ∧ e = a.headward.other) →
          (s.reportEnd e old).msg = { s.msg with
            offer := if o.waitsAt e.other then some (o.takenAt e) else none
            inFlight := s.msg.inFlight.map fun x =>
              if x.buffer = n then { x with deadline := some (s.now + 250000) } else x }) := by
  have offer := offer_takeOffer ho w
  rw [reportEnd_lost new lost]
  refine ⟨?_, fun last => ?_, fun n p kind last lt apart owner => ?_, fun n kind keeps => ?_⟩
  · refine offeredTo_of_idleAt (told_reportInauguration (msgClosed_idleAt e) ?_)
    intro x hx
    rw [offer] at hx
    split at hx
    · cases hx; exact takenAt_same o e
    · cases hx
  · refine told_reportInauguration msgClosed_noOffer ?_
    rw [offer, last]
    rfl
  · obtain ⟨state, bytes, -, inFlight⟩ := takeOffer_broadcast ho w last kind lt owner
    have kept := told_reportInauguration (s := s.takeOffer e) (c := { place := e, old := old, new := (s.lineEnd e).link })
      (msgClosed_apart n ((s.takeOffer e).buffer n))
      ⟨by rw [offer, last]; rfl, fun x hx => by rw [inFlight] at hx; simpa using (List.mem_filter.1 hx).2, rfl⟩
    obtain ⟨-, -, held⟩ := kept
    unfold State.bufferState State.buffer
    rw [held]
    exact ⟨state, bytes⟩
  · rw [msg_reportInauguration_kept ?_, takeOffer_unicast ho w kind]
    rw [active_of_inaug (takeOffer_inaug s e), heading_of_inaug (takeOffer_inaug s e), takeOffer_inaug]
    exact keeps

/-- Settles O31: the three kinds of frames the arbiter takes, the placing of a frame, and the offer at a lost End. -/
theorem theArbiterSendsTheNextFrameInOrder : Obligations.TheArbiterSendsTheNextFrameInOrder := by
  unfold Obligations.TheArbiterSendsTheNextFrameInOrder
  refine ⟨fun s e hold z => ⟨fun f o free next => ?_, fun busy => ?_⟩, fun s e x f => ⟨place_opened, fun o =>
    ⟨?_, ?_⟩, fun s e old o new lost ho w => reportEnd_offer new lost ho w⟩⟩
  · have runs : exec (.arbiterTake e) s = .next (s.arbiterTake e) := congrArg Host.Outcome.next (awake_of_free _ _ hold z)
    have items : TakenItems s (s.arbiterTake e) e f
        ∧ (∀ x, (s.lineEnd e).slots.first = some (x, f) → SlotItems s (s.arbiterTake e) e f x)
        ∧ ((s.lineEnd e).slots.first = none → QueueItems s (s.arbiterTake e) e
          ∧ ((s.lineEnd e).throughQueue ≠ [] → (s.arbiterTake e).msg = s.msg)
          ∧ ((s.lineEnd e).throughQueue = [] → OfferItems s (s.arbiterTake e) e)) := by
      rcases nextFrame_cases next with ⟨x, first⟩ | ⟨first, rest, queue⟩ | ⟨first, queue, offered⟩
      · obtain ⟨taken, slot⟩ := arbiterTake_slot o free first
        refine ⟨taken, fun y hy => ?_, fun none => by rw [first] at none; cases none⟩
        obtain rfl : x = y := by rw [first] at hy; cases hy; rfl
        exact slot
      · obtain ⟨taken, through, msg⟩ := arbiterTake_queue o free first queue
        exact ⟨taken, fun y hy => absurd (first.symm.trans hy) nofun, fun _ =>
          ⟨through, fun _ => msg, fun none => by rw [queue] at none; cases none⟩⟩
      · obtain ⟨taken, through, offer⟩ := arbiterTake_offer o free first queue offered
        exact ⟨taken, fun y hy => absurd (first.symm.trans hy) nofun, fun _ =>
          ⟨through, fun some => absurd queue some, fun _ => offer⟩⟩
    obtain ⟨⟨tx, sending, power, inaug, grants, stage, beside, changes⟩, slot, queue⟩ := items
    refine ⟨_, runs, tx, sending, power, inaug, grants, stage, beside, changes, slot, fun first => ?_⟩
    obtain ⟨⟨here, engines, events⟩, through, offer⟩ := queue first
    exact ⟨here, engines, events, through, offer⟩
  · refine (congrArg Host.Outcome.next (awake_of_free _ _ hold z)).trans ?_
    rw [arbiterTake_busy busy]
  · rw [onlyChanges_iff_forget]; simp
  · rw [place_eq x o, lineEnd_modEnd_same, LineEnd.modSlot, slotPlace_eq]

end Sys2Proof.Machine

/-! SUPPORT. What a leaving for UNASSIGNED touches: with no consist there is no record source, so the Ends keep their
traffic (R65, R82, R95, R136). -/

namespace Sys2Proof.Machine

variable {s t : State}

/-! ## Roles -/

theorem role_of_active {a : ActiveConsist} (h : s.active = some a) : s.inaug.role = .member a := by
  unfold State.active at h
  split at h
  · next b hb => cases h; exact hb
  · cases h
  · cases h

theorem role_of_counted {r : CountRecord} (h : s.counted = some r) : s.inaug.role = .counted r := by
  unfold State.counted at h
  split at h
  · next b hb => cases h; exact hb
  · cases h
  · cases h

theorem active_of_role {a : ActiveConsist} (h : s.inaug.role = .member a) : s.active = some a := by
  unfold State.active; rw [h]

theorem counted_of_role {r : CountRecord} (h : s.inaug.role = .counted r) : s.counted = some r := by
  unfold State.counted; rw [h]

theorem active_none_of_role (h : ∀ a, s.inaug.role ≠ .member a) : s.active = none := by
  unfold State.active
  split
  · next a ha => exact absurd ha (h a)
  · rfl
  · rfl

theorem counted_none_of_active {a : ActiveConsist} (h : s.active = some a) : s.counted = none := by
  unfold State.counted
  rw [role_of_active h]

/-! ## Record sources at a node without a consist -/

theorem forget_recomputeTarget_away (L : List Block) (risen : Bool) (h : s.active = none) (hs : Block.stages ∈ L) :
    (s.recomputeTarget risen).forget L = s.forget L := by
  have still : (s.applyTarget s.newTarget risen).active = none :=
    (active_of_inaug (sameBlock_of_forget (L := [.stages]) (by simp) .inauguration (by simp))).trans h
  unfold State.recomputeTarget
  rw [sourceChanged_unassigned still]
  exact forget_applyTarget L s _ _ hs

theorem forget_fallBack_away (L : List Block) (h : s.active = none) (hs : Block.stages ∈ L) :
    s.fallBack.forget L = s.forget L := by
  unfold State.fallBack State.setCeiling
  exact (forget_recomputeTarget_away (s := s.modStage _) L _ h hs).trans (forget_modStage L s _ hs)

/-- A side that takes a state at a node without a consist: nothing is told on (R82, R86). -/
theorem setSide_away {i : SideId} {st : SideState} (h : s.active = none) :
    s.setSide i st = if s.sideState i = st then s else (s.modDoor (·.setSide i
      { state := st, closeTimer := if st = .closing then s.timerMs (s.power.record.closeTimeout * 1000) else none
        overdue := false })).raise .sideStateChanged := by
  unfold State.setSide
  rw [sourceChanged_unassigned]
  exact (active_of_inaug (sameBlock_of_forget (L := [.door, .portOf .portA, .portOf .portB]) (by simp) .inauguration
    (by simp))).trans h

/-- The blocks of the sides of the coach. -/
def sideBlocks : List Block := [.door, .portOf .portA, .portOf .portB]

theorem forget_withdrawSide_away (L : List Block) (i : SideId) (h : s.active = none) (hd : Block.door ∈ L)
    (hP : ∀ p, Block.portOf p ∈ L) : (s.withdrawSide i).forget L = s.forget L := by
  unfold State.withdrawSide State.fromReleased
  rw [setSide_away h]
  split
  · split
    · rfl
    · rw [forget_raise L _ _ hP, forget_modDoor L s _ hd]
  · rfl

theorem active_withdrawSide (i : SideId) (h : s.active = none) : (s.withdrawSide i).active = none :=
  (active_of_inaug (sameBlock_of_forget (L := sideBlocks)
    (forget_withdrawSide_away _ i h (by simp [sideBlocks]) (by simp [sideBlocks])) .inauguration
    (by simp [sideBlocks]))).trans h

theorem doorReport_away (h : s.active = none) : s.doorReport =
    ((s.withdrawSide .side1).withdrawSide .side2).modDoor fun d => { d with lastOrderId := 0, lastOutcome := .none } := by
  unfold State.doorReport State.bothSides
  rw [sourceChanged_unassigned]
  exact active_withdrawSide .side2 (active_withdrawSide .side1 h)

theorem forget_doorReport_away (L : List Block) (h : s.active = none) (hd : Block.door ∈ L)
    (hP : ∀ p, Block.portOf p ∈ L) : s.doorReport.forget L = s.forget L := by
  rw [doorReport_away h, forget_modDoor L _ _ hd,
    forget_withdrawSide_away L .side2 (active_withdrawSide .side1 h) hd hP, forget_withdrawSide_away L .side1 h hd hP]

theorem side_setSide (d : Door) (i j : SideId) (v : DoorSide) :
    (d.setSide i v).side j = if j = i then v else d.side j := by cases i <;> cases j <;> rfl

/-- A side that is withdrawn is RELEASED no more, and the other side keeps its state (R93, R95). -/
theorem sideState_withdrawSide (i j : SideId) (h : s.active = none) :
    (s.withdrawSide i).sideState j = if j = i ∧ s.sideState i = .released then .withdrawn else s.sideState j := by
  unfold State.withdrawSide State.fromReleased
  rw [setSide_away h]
  by_cases released : s.sideState i = .released
  · rw [if_pos released, if_neg (by rw [released]; decide)]
    have door (u : State) (c : Cause) : (u.raise c).door = u.door := by simp [State.raise, State.raiseAt]
    unfold State.sideState
    rw [door, modDoor_door, side_setSide]
    by_cases here : j = i
    · rw [if_pos here, if_pos (show j = i ∧ (s.door.side i).state = .released from ⟨here, released⟩)]
    · rw [if_neg here, if_neg (show ¬(j = i ∧ (s.door.side i).state = .released) from fun both => here both.1)]
  · rw [if_neg released, if_neg fun both => released both.2]

/-- The report of a leaving leaves no side RELEASED (R95). -/
theorem sideState_doorReport (h : s.active = none) (i : SideId) : s.doorReport.sideState i ≠ .released := by
  have kept : s.doorReport.sideState i = ((s.withdrawSide .side1).withdrawSide .side2).sideState i := by
    rw [doorReport_away h]
    cases i <;> rfl
  rw [kept, sideState_withdrawSide _ _ (active_withdrawSide .side1 h), sideState_withdrawSide _ _ h,
    sideState_withdrawSide _ _ h]
  cases i <;> cases s.sideState .side1 <;> cases s.sideState .side2 <;> simp

/-! ## The leaving -/

/-- The blocks that a COUNTED node's leaving reaches (R65). -/
def countedLeaving : List Block := [.inauguration, .cycle, .grants, .stages, .portOf .portA, .portOf .portB]

/-- The blocks that the leaving of a member that is not the head reaches (R65). -/
def memberLeaving : List Block := .door :: .messages :: countedLeaving

/-- A node without a consist that has told of its leaving (R65). -/
def State.toldLeaving (s : State) : State := s.roleChanged.raise .consistInvalidated

theorem toldLeaving_inaug (s : State) : s.toldLeaving.inaug = s.inaug :=
  sameBlock_of_forget (L := [.cycle, .grants, .portOf .portA, .portOf .portB]) (by simp [State.toldLeaving]) .inauguration
    (by simp)

theorem goUnassigned_counted {r : CountRecord} (cause : LeaveCause) (h : s.counted = some r) :
    s.goUnassigned cause = (s.modInaug fun i =>
      { i.stopTimers with role := .unassigned, lastCause := some cause }).toldLeaving.fallBack := by
  unfold State.goUnassigned
  rw [role_of_counted h]
  rfl

theorem goUnassigned_member {a : ActiveConsist} (cause : LeaveCause) (h : s.active = some a) (head : s.heading = false) :
    s.goUnassigned cause = (((s.modInaug fun i =>
      { i with role := .unassigned, silence := none, lastCause := some cause }).toldLeaving.reportRecount).modInaug
        Inauguration.stopTimers).fallBack := by
  unfold State.goUnassigned State.leaveMember
  rw [role_of_active h]
  simp only [head]
  rfl

theorem active_left {g : Inauguration → Inauguration} (h : (g s.inaug).role = .unassigned) :
    (s.modInaug g).toldLeaving.active = none := by
  rw [active_of_inaug (toldLeaving_inaug _)]
  unfold State.active
  rw [modInaug_inaug, h]

theorem forget_goUnassigned_counted {r : CountRecord} (cause : LeaveCause) (h : s.counted = some r) :
    (s.goUnassigned cause).forget countedLeaving = s.forget countedLeaving := by
  rw [goUnassigned_counted cause h, forget_fallBack_away _ (active_left rfl) (by simp [countedLeaving])]
  simp [countedLeaving, State.toldLeaving]

theorem active_reportRecount (h : s.active = none) : s.reportRecount.active = none :=
  (active_of_inaug (sameBlock_of_forget (L := .messages :: sideBlocks) (by
    unfold State.reportRecount
    rw [forget_msgReport _ _ (by simp), forget_doorReport_away _ h (by simp [sideBlocks]) (by simp [sideBlocks])])
    .inauguration (by simp [sideBlocks]))).trans h

theorem forget_goUnassigned_member {a : ActiveConsist} (cause : LeaveCause) (h : s.active = some a)
    (head : s.heading = false) : (s.goUnassigned cause).forget memberLeaving = s.forget memberLeaving := by
  have left := active_left (s := s)
    (g := fun i => { i with role := .unassigned, silence := none, lastCause := some cause }) rfl
  rw [goUnassigned_member cause h head, forget_fallBack_away _ ?_ (by simp [memberLeaving, countedLeaving]),
    forget_modInaug _ _ _ (by simp [memberLeaving, countedLeaving]), State.reportRecount,
    forget_msgReport _ _ (by simp [memberLeaving]), forget_doorReport_away _ left (by simp [memberLeaving])
      (by simp [memberLeaving, countedLeaving])]
  · simp [memberLeaving, countedLeaving, State.toldLeaving]
  · refine active_none_of_role fun b hb => ?_
    have none := active_reportRecount left
    have some : (State.reportRecount _).inaug.role = .member b := hb
    rw [active_of_role some] at none
    cases none

theorem fallBack_inaug (s : State) : s.fallBack.inaug = s.inaug :=
  sameBlock_of_forget (L := [.stages, .cycle, .endOf .end1, .endOf .end2]) (by simp) .inauguration (by simp)

/-- The inauguration after a COUNTED node has gone UNASSIGNED (R65). -/
theorem inaug_goUnassigned_counted {r : CountRecord} (cause : LeaveCause) (h : s.counted = some r) :
    (s.goUnassigned cause).inaug = { s.inaug with
      role := .unassigned, lastCause := some cause, inaugurationTimer := none, hopTimer := none, commitWait := none } := by
  rw [goUnassigned_counted cause h, fallBack_inaug, toldLeaving_inaug]
  rfl

theorem reportRecount_inaug (s : State) : s.reportRecount.inaug = s.inaug :=
  sameBlock_of_forget (L := [.door, .cycle, .messages, .endOf .end1, .endOf .end2, .portOf .portA, .portOf .portB]) (by simp)
    .inauguration (by simp)

/-- The inauguration after a member that is not the head has gone UNASSIGNED (R65). -/
theorem inaug_goUnassigned_member {a : ActiveConsist} (cause : LeaveCause) (h : s.active = some a)
    (head : s.heading = false) : (s.goUnassigned cause).inaug = { s.inaug with
      role := .unassigned, silence := none, lastCause := some cause
      inaugurationTimer := none, hopTimer := none, commitWait := none } := by
  rw [goUnassigned_member cause h head, fallBack_inaug, modInaug_inaug, reportRecount_inaug, toldLeaving_inaug]
  rfl

theorem raised_goUnassigned_counted {r : CountRecord} (cause : LeaveCause) (h : s.counted = some r) :
    ∀ u, Gentle (s.goUnassigned cause) u → RaisedAt .consistInvalidated u := by
  intro u gentle
  rw [goUnassigned_counted cause h] at gentle
  exact Gentle.raised ⟨fun e he => gentle.ends e ((Gentle.refl _).fallBack.ends e he), fun p =>
    ((Gentle.refl _).fallBack.flags p).trans (gentle.flags p)⟩

theorem raised_goUnassigned_member {a : ActiveConsist} (cause : LeaveCause) (h : s.active = some a)
    (head : s.heading = false) : ∀ u, Gentle (s.goUnassigned cause) u → RaisedAt .consistInvalidated u := by
  intro u gentle
  rw [goUnassigned_member cause h head] at gentle
  have left : Gentle ((s.modInaug fun i =>
      { i with role := .unassigned, silence := none, lastCause := some cause }).toldLeaving) _ :=
    (Gentle.refl _).reportRecount.modInaug (g := Inauguration.stopTimers) |>.fallBack
  exact Gentle.raised ⟨fun e he => gentle.ends e (left.ends e he), fun p => (left.flags p).trans (gentle.flags p)⟩

/-- A leaving makes the Ceiling the Fallback Limit, with the Fallback flag (R136). -/
theorem fallback_goUnassigned (cause : LeaveCause) (h : s.inaug.role ≠ .unassigned) :
    (s.goUnassigned cause).stage.fallback = true := by
  have falls (u : State) : u.fallBack.stage.fallback = true := by
    have aims := aims_recomputeTarget (u.modStage fun d => { d with ceiling := u.fallbackLimit, fallback := true })
      (decide (u.stage.ceiling < u.fallbackLimit))
    simp only [State.aims, Prod.mk.injEq] at aims
    exact aims.2.1
  unfold State.goUnassigned
  split
  · next role => exact absurd role h
  · exact falls _
  · exact falls _

/-- No side is RELEASED after a member that is not the head has left (R95). -/
theorem sideState_goUnassigned {a : ActiveConsist} (cause : LeaveCause) (h : s.active = some a) (head : s.heading = false)
    (i : SideId) : (s.goUnassigned cause).sideState i ≠ .released := by
  have left := active_left (s := s)
    (g := fun i => { i with role := .unassigned, silence := none, lastCause := some cause }) rfl
  have door (u : State) : u.fallBack.door = u.door :=
    sameBlock_of_forget (L := [.stages, .cycle, .endOf .end1, .endOf .end2]) (by simp) .door (by simp)
  have told (u : State) : u.msgReport.door = u.door := sameBlock_of_forget (L := [.messages]) (by simp) .door (by simp)
  unfold State.sideState
  rw [goUnassigned_member cause h head, door, modInaug_door, State.reportRecount, told]
  exact sideState_doorReport left i

/-! ## The alert on the head-ward End -/

theorem produceWake_other (s : State) (e : EndId) (v : Byte) : (s.produceWake e v).lineEnd e.other = s.lineEnd e.other := by
  unfold State.produceWake
  split
  · rw [lineEnd_modEnd_other]
  · exact place_other _ _ _ _

theorem topologyAlert_other (s : State) (e : EndId) : (s.topologyAlert e).lineEnd e.other = s.lineEnd e.other := by
  unfold State.topologyAlert
  split
  · exact produceWake_other _ _ _
  · rfl

theorem slots_place (s : State) (e : EndId) {x y : Source} (f : Frame) (h : y ≠ x) (d : EndId) :
    ((s.place e x f).lineEnd d).slots.get y = (s.lineEnd d).slots.get y := by
  rcases end_eq_or_other e d with rfl | rfl
  · unfold State.place
    split
    · rfl
    · rw [lineEnd_modEnd_same, LineEnd.modSlot, slots_get_set_ne _ _ _ _ h]
  · rw [place_other]

theorem queue_place (s : State) (e : EndId) (x : Source) (f : Frame) (d : EndId) :
    ((s.place e x f).lineEnd d).throughQueue = (s.lineEnd d).throughQueue := by
  rcases end_eq_or_other e d with rfl | rfl
  · unfold State.place
    split
    · rfl
    · rw [lineEnd_modEnd_same]; rfl
  · rw [place_other]

theorem link_place (s : State) (e : EndId) (x : Source) (f : Frame) (d : EndId) :
    ((s.place e x f).lineEnd d).link = (s.lineEnd d).link := skeleton_link (skel_place s e x f) d

/-- A WAKE leaves the other slots alone (R12). -/
theorem slots_topologyAlert (s : State) (e : EndId) {y : Source} (h : y ≠ .wake) (d : EndId) :
    ((s.topologyAlert e).lineEnd d).slots.get y = (s.lineEnd d).slots.get y := by
  unfold State.topologyAlert State.produceWake
  split
  · split
    · rw [lineEnd_modEnd]
      split
      · next here => subst here; rfl
      · rfl
    · exact slots_place _ _ _ h d
  · rfl

theorem slotFree_place {e d : EndId} {x y : Source} {f : Frame} (h : y ≠ x) (free : SlotFree s d y) :
    SlotFree (s.place e x f) d y := ⟨by rw [link_place]; exact free.1, by rw [slots_place _ _ _ h]; exact free.2⟩

theorem slotFree_of_lineEnd {e : EndId} {x : Source} (h : t.lineEnd e = s.lineEnd e) (free : SlotFree s e x) :
    SlotFree t e x := by
  unfold SlotFree at free ⊢
  rw [h]
  exact free

/-- A topology alert into an empty queue and slot stands in the slot (R12, R21). -/
theorem inSlot_topologyAlert {e : EndId} (usable : s.usable e = true) (queue : (s.lineEnd e).throughQueue = [])
    (free : SlotFree s e .wake) : InSlot (s.topologyAlert e) e .wake { kind := .wake, payload := [2] } := by
  unfold State.topologyAlert State.produceWake
  rw [if_pos usable, queue]
  exact place_inSlot s e .wake _ free

end Sys2Proof.Machine

/-! SUPPORT. A COMMIT at a node, a TALLY at a node and at the claiming head (R35 to R40, R43, R44). -/

namespace Sys2Proof.Machine

variable {s t : State}

/-! ## Dispatch -/

theorem handOn_commit {e : EndId} {f : Frame} (h : f.kind = .commit) : s.handOn e f = s.receiveCommit e f := by
  unfold State.handOn
  rw [h]

theorem handOn_tally {e : EndId} {f : Frame} (h : f.kind = .tally) : s.handOn e f = s.receiveTally e f := by
  unfold State.handOn
  rw [h]

/-! ## A COMMIT -/

/-- The checks on a COMMIT at a COUNTED node (R43). -/
def State.commitFits (s : State) (r : CountRecord) (e : EndId) (p : List Byte) : Prop :=
  e = r.headward ∧ num32 p 0 = r.head ∧ s.loading = false ∧ num8 p 8 ≤ 32 ∧ r.position ≤ num8 p 8
    ∧ (commitEntries p).map (·.position) = (List.range (num8 p 8)).map (· + 1)
    ∧ ((commitEntries p)[r.position - 1]?).map (fun x => (x.vehicle, x.orientation))
      = some (s.power.record.vehicle, orientationOf r.headward)
    ∧ ∀ n, r.noted = some n → n = num8 p 8

theorem acceptsCommit_iff (s : State) (r : CountRecord) (e : EndId) (p : List Byte) :
    (num8 p 8 ≤ 32 ∧ s.acceptsCommit r e p = true) ↔ s.commitFits r e p := by
  unfold State.acceptsCommit State.commitFits State.vehicle
  simp only [Bool.and_eq_true, decide_eq_true_eq, Bool.not_eq_true']
  cases (commitEntries p)[r.position - 1]? with
  | none => simp
  | some x =>
    cases r.noted with
    | none => simp; tauto
    | some n => simp; tauto

theorem receiveCommit_fits {r : CountRecord} {e : EndId} {f : Frame} (hr : s.counted = some r) (c : s.claiming = false)
    (n : num8 f.payload 8 ≠ 0) (fits : s.commitFits r e f.payload) : s.receiveCommit e f = s.acceptCommit r f := by
  obtain ⟨short, accepts⟩ := (acceptsCommit_iff s r e f.payload).2 fits
  unfold State.receiveCommit
  simp only
  rw [if_neg n, hr]
  exact if_pos ⟨short, c, accepts⟩

/-- Every other COMMIT is rejected, whatever the node (R44). -/
theorem receiveCommit_rejects {e : EndId} {f : Frame} (n : num8 f.payload 8 ≠ 0)
    (h : ∀ r, s.counted = some r → s.claiming = false → ¬s.commitFits r e f.payload) :
    s.receiveCommit e f = s.rejectCommit e f := by
  unfold State.receiveCommit
  simp only
  rw [if_neg n]
  cases hr : s.counted with
  | none => rfl
  | some r => exact if_neg fun ⟨short, c, accepts⟩ => h r hr c ((acceptsCommit_iff s r e f.payload).1 ⟨short, accepts⟩)

theorem doorNewConsist_door (s : State) :
    s.doorNewConsist.door = { s.door with trainDoorsOpen := false, lastReleaseSent := none } := by
  unfold State.doorNewConsist
  rw [modTrack_door, unprove_door]
  rfl

theorem doorNewConsist_track (s : State) :
    s.doorNewConsist.track = { s.track with proved := false, lifetime := none, lastProved := 0 } := by
  unfold State.doorNewConsist
  rw [modTrack_track, track_unprove]
  rfl

theorem raise_door (s : State) (c : Cause) : (s.raise c).door = s.door := by simp [State.raise, State.raiseAt]
theorem raise_track (s : State) (c : Cause) : (s.raise c).track = s.track := by simp [State.raise, State.raiseAt]
theorem raise_inaug (s : State) (c : Cause) : (s.raise c).inaug = s.inaug := by simp [State.raise, State.raiseAt]

theorem place_rest (s : State) (e : EndId) (x : Source) (f : Frame) : (s.place e x f).inaug = s.inaug
    ∧ (s.place e x f).door = s.door ∧ (s.place e x f).track = s.track ∧ (s.place e x f).cycle = s.cycle
    ∧ (s.place e x f).grants = s.grants ∧ (s.place e x f).power = s.power ∧ (s.place e x f).now = s.now := by
  have still : (s.place e x f).forget [.endOf e] = s.forget [.endOf e] := by simp
  exact ⟨sameBlock_of_forget still .inauguration (by simp), sameBlock_of_forget still .door (by simp),
    sameBlock_of_forget still .tracking (by simp), sameBlock_of_forget still .cycle (by simp),
    sameBlock_of_forget still .grants (by simp), sameBlock_of_forget still .power (by simp),
    sameBlock_of_forget still .clock (by simp)⟩

/-- The node that accepts a COMMIT, before the COMMIT goes on (R43). -/
def State.committed (s : State) (r : CountRecord) (f : Frame) : State :=
  ((s.modInaug fun i => { i.stopTimers with
    role := .member (memberConsist r f.payload)
    silence := s.timerMs (num16 f.payload 6) }).roleChanged.doorNewConsist).raise .consistCommitted

theorem acceptCommit_eq (s : State) (r : CountRecord) (f : Frame) :
    s.acceptCommit r f = (s.committed r f).place r.headward.other .inauguration f := rfl

theorem committed_inaug (s : State) (r : CountRecord) (f : Frame) : (s.committed r f).inaug = { s.inaug with
    role := .member (memberConsist r f.payload), silence := some (s.now + num16 f.payload 6 * 1000)
    inaugurationTimer := none, hopTimer := none, commitWait := none } := by
  unfold State.committed
  rw [raise_inaug]
  exact sameBlock_of_forget (s := s.modInaug fun i => { i.stopTimers with
      role := .member (memberConsist r f.payload), silence := s.timerMs (num16 f.payload 6) }) (L := [.cycle, .grants, .door, .tracking, .portOf .portA, .portOf .portB])
    (by simp) .inauguration (by simp)

/-- What an accepted COMMIT makes of the node (R43, R51, R62, R99, R104, R120). -/
theorem acceptCommit_items (s : State) (r : CountRecord) (f : Frame) :
    (s.acceptCommit r f).active = some (memberConsist r f.payload)
      ∧ (s.acceptCommit r f).inaug.silence = some (s.now + num16 f.payload 6 * 1000)
      ∧ (s.acceptCommit r f).inaug.commitWait = none ∧ (s.acceptCommit r f).inaug.hopTimer = none
      ∧ RaisedAt .consistCommitted (s.acceptCommit r f)
      ∧ (s.acceptCommit r f).door = { s.door with trainDoorsOpen := false, lastReleaseSent := none }
      ∧ (s.acceptCommit r f).track = { s.track with proved := false, lifetime := none, lastProved := 0 }
      ∧ OnlyChanges [.inauguration, .cycle, .door, .tracking, .grants, .endOf r.headward.other, .portOf .portA
          , .portOf .portB] s (s.acceptCommit r f)
      ∧ (SlotFree s r.headward.other .inauguration → InSlot (s.acceptCommit r f) r.headward.other .inauguration f) := by
  rw [acceptCommit_eq]
  obtain ⟨inaug, door, track, -⟩ := place_rest (s.committed r f) r.headward.other .inauguration f
  rw [inaug, door, track, active_of_inaug inaug, committed_inaug]
  refine ⟨active_of_role (by rw [committed_inaug]), rfl, rfl, rfl, Gentle.raised (Gentle.refl _).place, ?_, ?_, ?_,
    fun free => place_inSlot _ _ _ _ (slotFree_of_lineEnd ?_ free)⟩
  · rw [State.committed, raise_door, doorNewConsist_door]; rfl
  · rw [State.committed, raise_track, doorNewConsist_track]; rfl
  · rw [onlyChanges_iff_forget]; simp [State.committed]
  · exact sameBlock_of_forget (L := [.inauguration, .cycle, .door, .tracking, .grants, .portOf .portA, .portOf .portB])
      (by simp [State.committed]) (.endOf r.headward.other) (by simp)

/-! ## A COMMIT that is rejected -/

/-- What a node is left with that has gone UNASSIGNED over a COMMIT and alerts the head (R44, R65). -/
def Rejected (s t : State) (e headward : EndId) (f : Frame) : Prop :=
  t.inaug.role = .unassigned ∧ t.inaug.lastCause = some .commitRejected ∧ RaisedAt .consistInvalidated t
    ∧ t.inaug.hopTimer = none ∧ t.inaug.commitWait = none ∧ t.inaug.inaugurationTimer = none
    ∧ (SlotFree s e.other .inauguration → InSlot t e.other .inauguration f)
    ∧ (s.usable headward = true → SlotFree s headward .wake → (s.lineEnd headward).throughQueue = [] →
        InSlot t headward .wake { kind := .wake, payload := [2] })

theorem topologyAlert_inaug (s : State) (e : EndId) : (s.topologyAlert e).inaug = s.inaug :=
  sameBlock_of_forget (L := [.endOf .end1, .endOf .end2]) (by simp) .inauguration (by simp)

/-- A node that has placed a frame, then left without touching its Ends, and alerts (R44, R63, R65). -/
theorem rejected_of_left {u : State} {e headward : EndId} {f : Frame}
    (ends : ∀ d, u.lineEnd d = (s.place e.other .inauguration f).lineEnd d)
    (inaug : ∃ i : Inauguration, u.inaug = { i with
      role := .unassigned, lastCause := some .commitRejected
      inaugurationTimer := none, hopTimer := none, commitWait := none })
    (raised : ∀ w, Gentle u w → RaisedAt .consistInvalidated w) : Rejected s (u.topologyAlert headward) e headward f := by
  obtain ⟨i, inaug⟩ := inaug
  unfold Rejected
  rw [topologyAlert_inaug, inaug]
  refine ⟨rfl, rfl, raised _ (Gentle.refl _).topologyAlert, rfl, rfl, rfl, fun free => ?_, fun usable free queue => ?_⟩
  · unfold InSlot
    rw [slots_topologyAlert u headward (by decide), ends]
    exact place_inSlot s _ _ _ free
  · refine inSlot_topologyAlert ?_ ?_ (slotFree_of_lineEnd (ends headward) (slotFree_place (by decide) free))
    · unfold State.usable
      rw [ends, link_place]
      exact usable
    · rw [ends, queue_place]
      exact queue

theorem rejectCommit_counted {r : CountRecord} {e : EndId} {f : Frame} (hr : s.counted = some r) (c : s.claiming = false)
    (h : s.heading = false) : s.rejectCommit e f =
      ((s.place e.other .inauguration f).goUnassigned .commitRejected).topologyAlert r.headward := by
  obtain ⟨inaug, -⟩ := place_rest s e.other .inauguration f
  have claiming : (s.place e.other .inauguration f).claiming = false := by unfold State.claiming; rw [inaug]; exact c
  unfold State.rejectCommit
  simp only [claiming, heading_of_inaug inaug, h, inaug, role_of_counted hr]
  rfl

theorem rejectCommit_member {a : ActiveConsist} {e : EndId} {f : Frame} (ha : s.active = some a) (c : s.claiming = false)
    (h : s.heading = false) : s.rejectCommit e f =
      ((s.place e.other .inauguration f).goUnassigned .commitRejected).topologyAlert a.headward := by
  obtain ⟨inaug, -⟩ := place_rest s e.other .inauguration f
  have claiming : (s.place e.other .inauguration f).claiming = false := by unfold State.claiming; rw [inaug]; exact c
  unfold State.rejectCommit
  simp only [claiming, heading_of_inaug inaug, h, inaug, role_of_active ha]
  rfl

theorem rejectCommit_passes {e : EndId} {f : Frame}
    (h : s.claiming = true ∨ s.heading = true ∨ s.inaug.role = .unassigned) :
    s.rejectCommit e f = s.place e.other .inauguration f := by
  obtain ⟨inaug, -⟩ := place_rest s e.other .inauguration f
  have claiming : (s.place e.other .inauguration f).claiming = s.claiming := by unfold State.claiming; rw [inaug]
  unfold State.rejectCommit
  simp only [claiming, heading_of_inaug inaug, inaug]
  rcases h with claims | heads | role
  · rw [claims]; rfl
  · rw [heads, Bool.or_true]; rfl
  · rw [role]; exact ite_self _

theorem counted_of_inaug (h : t.inaug = s.inaug) : t.counted = s.counted := by
  unfold State.counted
  rw [h]

/-- A COUNTED node over a rejected COMMIT (R44). -/
theorem rejected_counted {r : CountRecord} {e : EndId} {f : Frame} (hr : s.counted = some r) (c : s.claiming = false)
    (h : s.heading = false) : Rejected s (s.rejectCommit e f) e r.headward f
      ∧ OnlyChanges [.inauguration, .cycle, .grants, .stages, .endOf .end1, .endOf .end2, .portOf .portA, .portOf .portB]
          s (s.rejectCommit e f) := by
  obtain ⟨inaug, -⟩ := place_rest s e.other .inauguration f
  have counted := (counted_of_inaug inaug).trans hr
  have left := forget_goUnassigned_counted .commitRejected counted
  rw [rejectCommit_counted hr c h]
  refine ⟨rejected_of_left (fun d => sameBlock_of_forget left (.endOf d) (by simp [countedLeaving]))
    ⟨_, inaug_goUnassigned_counted _ counted⟩ (raised_goUnassigned_counted _ counted), ?_⟩
  rw [onlyChanges_iff_forget, forget_topologyAlert _ _ _ (by simp), forget_mono left (by simp [countedLeaving])]
  simp

end Sys2Proof.Machine

/-! SUPPORT. The TALLY at a node and at the claiming head, the commit, and the statement about them (R35 to R40, R43). -/

namespace Sys2Proof.Machine

variable {s t : State}

theorem topologyAlert_rest (s : State) (e : EndId) :
    (s.topologyAlert e).door = s.door ∧ (s.topologyAlert e).stage = s.stage := by
  have still : (s.topologyAlert e).forget [.endOf .end1, .endOf .end2] = s.forget [.endOf .end1, .endOf .end2] := by simp
  exact ⟨sameBlock_of_forget still .door (by simp), sameBlock_of_forget still .stages (by simp)⟩

/-- A member that is not the head over a rejected COMMIT (R44, R65, R95, R136). -/
theorem rejected_member {a : ActiveConsist} {e : EndId} {f : Frame} (ha : s.active = some a) (c : s.claiming = false)
    (h : s.heading = false) : Rejected s (s.rejectCommit e f) e a.headward f
      ∧ (s.rejectCommit e f).inaug.silence = none ∧ (∀ i, (s.rejectCommit e f).sideState i ≠ .released)
      ∧ (s.rejectCommit e f).stage.fallback = true ∧ OnlyChanges roleBlocks s (s.rejectCommit e f) := by
  obtain ⟨inaug, -⟩ := place_rest s e.other .inauguration f
  have active := (active_of_inaug inaug).trans ha
  have head := (heading_of_inaug inaug).trans h
  have role : (s.place e.other .inauguration f).inaug.role ≠ .unassigned := by rw [role_of_active active]; nofun
  have left := forget_goUnassigned_member .commitRejected active head
  rw [rejectCommit_member ha c h]
  obtain ⟨door, stage⟩ := topologyAlert_rest ((s.place e.other .inauguration f).goUnassigned .commitRejected) a.headward
  refine ⟨rejected_of_left (fun d => sameBlock_of_forget left (.endOf d) (by simp [memberLeaving, countedLeaving]))
    ⟨{ (s.place e.other .inauguration f).inaug with silence := none }, inaug_goUnassigned_member _ active head⟩
    (raised_goUnassigned_member _ active head), ?_, fun i => ?_, ?_, ?_⟩
  · rw [topologyAlert_inaug, inaug_goUnassigned_member _ active head]
  · unfold State.sideState
    rw [door]
    exact sideState_goUnassigned _ active head i
  · rw [stage]
    exact fallback_goUnassigned _ role
  · rw [onlyChanges_iff_forget]; simp [roleBlocks]

/-! ## A TALLY -/

/-- A TALLY that is not awaited at its End, of its head and its attempt, is discarded (R35). -/
theorem receiveTally_none {e : EndId} {f : Frame} (c : s.claiming = false) (h : ∀ r, s.counted = some r →
    e ≠ r.headward.other ∨ num32 f.payload 0 ≠ r.head ∨ num8 f.payload 4 ≠ r.attempt) : s.receiveTally e f = s := by
  unfold State.receiveTally
  split
  · rfl
  · next r hr =>
    simp only [c]
    split
    · rfl
    · next here =>
      rw [if_neg (by decide)]
      refine if_neg fun ⟨head, attempt⟩ => ?_
      rcases h r hr with apart | other | old
      · exact here apart
      · exact other head
      · exact old attempt

theorem receiveTally_node {r : CountRecord} {f : Frame} (c : s.claiming = false) (hr : s.counted = some r)
    (head : num32 f.payload 0 = r.head) (attempt : num8 f.payload 4 = r.attempt) :
    s.receiveTally r.headward.other f = s.tallyAtNode r f := by
  unfold State.receiveTally
  rw [hr]
  simp only [c]
  rw [if_neg (by exact fun h => h rfl), if_neg (by decide), if_pos ⟨head, attempt⟩]

/-- A TALLY that is taken at the claiming node (R39). -/
def State.claimTally (s : State) (r : CountRecord) (e : EndId) (f : Frame) : Prop :=
  e = r.headward.other ∧ num32 f.payload 0 = s.power.record.vehicle ∧ num8 f.payload 4 = s.inaug.attempt

theorem receiveTally_claim {r : CountRecord} {e : EndId} {f : Frame} (c : s.claiming = true) (hr : s.counted = some r)
    (taken : s.claimTally r e f) : s.receiveTally e f = s.tallyAtHead r f := by
  obtain ⟨here, own, attempt⟩ := taken
  unfold State.receiveTally
  rw [hr]
  simp only [c]
  rw [if_neg (by exact fun h => h here), if_pos trivial, if_pos ⟨own, attempt⟩]

theorem receiveTally_claim_none {r : CountRecord} {e : EndId} {f : Frame} (c : s.claiming = true) (hr : s.counted = some r)
    (taken : ¬s.claimTally r e f) : s.receiveTally e f = s := by
  unfold State.receiveTally
  rw [hr]
  simp only [c]
  split
  · rfl
  · next here =>
    rw [if_pos trivial]
    exact if_neg fun ⟨own, attempt⟩ => taken ⟨by by_contra apart; exact here apart, own, attempt⟩

/-- The flag a TALLY is handled under (log 13). -/
theorem tallyFlag_contest {b : Byte} (h : hasBit b 2 = true) : TallyFlag.ofByte b = .contest := if_pos h

theorem tallyFlag_tooLong {b : Byte} (c : hasBit b 2 = false) (h : hasBit b 1 = true) : TallyFlag.ofByte b = .tooLong := by
  unfold TallyFlag.ofByte
  simp [c, h]

theorem tallyFlag_counts {b : Byte} (c : hasBit b 2 = false) (h : hasBit b 1 = false) :
    TallyFlag.ofByte b = if hasBit b 0 then .truncated else .plain := by
  unfold TallyFlag.ofByte
  simp [c, h]

/-- A node's TALLY with its own entry before the others (R36). -/
def State.tallyOn (s : State) (r : CountRecord) (f : Frame) : Frame :=
  { kind := .tally, payload := f.payload.take 7 ++ (s.rosterEntry r.position r.headward).bytes ++ f.payload.drop 7 }

theorem tallyAtNode_eq {r : CountRecord} {f : Frame} (c : hasBit (byteAt f.payload 6) 2 = false)
    (l : hasBit (byteAt f.payload 6) 1 = false) : s.tallyAtNode r f =
      if r.stage = .awaitingTally ∧ (tallyEntries f.payload).head?.map (·.position) = some (r.position + 1) then
        (s.place r.headward .inauguration (s.tallyOn r f)).setRecord
          { r with stage := .tallySent, noted := notedLength (num8 f.payload 5) }
      else s := by
  unfold State.tallyAtNode
  rw [tallyFlag_counts c l]
  cases hasBit (byteAt f.payload 6) 0 <;> rfl

/-! ## The claiming node -/

theorem failClaim_inaug (s : State) (why : ClaimFailure) :
    (s.failClaim why).inaug = { s.inaug with headRole := .claimFailed why } := by
  unfold State.failClaim
  rw [raise_inaug]
  rfl

theorem failClaim_track (s : State) (why : ClaimFailure) :
    (s.failClaim why).track = { s.track with outstanding := none } := by
  unfold State.failClaim
  rw [raise_track]
  rfl

theorem failClaim_lineEnd (s : State) (why : ClaimFailure) (e : EndId) : (s.failClaim why).lineEnd e = s.lineEnd e :=
  sameBlock_of_forget (L := [.inauguration, .tracking, .portOf .portA, .portOf .portB]) (by simp) (.endOf e) (by simp)

theorem failClaim_raised (s : State) (why : ClaimFailure) : RaisedAt .claimResult (s.failClaim why) :=
  Gentle.raised (Gentle.refl _)

/-- A claim of a COUNTED node that ends without a consist (R39, R65, R115). -/
theorem claim_ends {r : CountRecord} (cause : LeaveCause) (why : ClaimFailure) (hr : s.counted = some r) :
    ((s.goUnassigned cause).failClaim why).inaug = { s.inaug with
        role := .unassigned, headRole := .claimFailed why, lastCause := some cause
        inaugurationTimer := none, hopTimer := none, commitWait := none }
      ∧ RaisedAt .claimResult ((s.goUnassigned cause).failClaim why)
      ∧ ((s.goUnassigned cause).failClaim why).track = { s.track with outstanding := none }
      ∧ ∀ e, ((s.goUnassigned cause).failClaim why).lineEnd e = s.lineEnd e := by
  have left := forget_goUnassigned_counted cause hr
  refine ⟨by rw [failClaim_inaug, inaug_goUnassigned_counted cause hr], failClaim_raised _ _, ?_, fun e => ?_⟩
  · rw [failClaim_track, show (s.goUnassigned cause).track = s.track from
      sameBlock_of_forget left .tracking (by simp [countedLeaving])]
  · rw [failClaim_lineEnd]
    exact sameBlock_of_forget left (.endOf e) (by simp [countedLeaving])

/-- The claiming node that commits, before its COMMIT goes out (R40). -/
def State.claimed (s : State) (r : CountRecord) (length : Nat) (others : List RosterEntry) (truncated : Bool) : State :=
  ((s.modInaug fun i => { i.stopTimers with
    generation := nextWrap 65535 s.inaug.generation
    role := .member (s.headConsist r length others), headRole := .heading, truncated := truncated }).roleChanged.grantCommit
      (s.headConsist r length others)).doorCommit

theorem commit_eq (s : State) (r : CountRecord) (length : Nat) (others : List RosterEntry) (truncated : Bool) :
    s.commit r length others truncated =
      ((((s.claimed r length others truncated).place r.headward.other .inauguration
        (commitFrame (s.headConsist r length others).identity s.cycle.timing.lineSilence length
          (s.headConsist r length others).entries)).raise .consistCommitted).raise .claimResult).modCycle Cycle.start := rfl

theorem doorNewConsist_rest (s : State) : s.doorNewConsist.inaug = s.inaug ∧ s.doorNewConsist.grants = s.grants := by
  have still : s.doorNewConsist.forget [.door, .tracking, .portOf .portA, .portOf .portB]
      = s.forget [.door, .tracking, .portOf .portA, .portOf .portB] := by simp
  exact ⟨sameBlock_of_forget still .inauguration (by simp), sameBlock_of_forget still .grants (by simp)⟩

theorem claimed_items (s : State) (r : CountRecord) (length : Nat) (others : List RosterEntry) (truncated : Bool) :
    (s.claimed r length others truncated).inaug = { s.inaug with
        role := .member (s.headConsist r length others), headRole := .heading
        generation := nextWrap 65535 s.inaug.generation, truncated := truncated
        inaugurationTimer := none, hopTimer := none, commitWait := none }
      ∧ (s.claimed r length others truncated).grants = { s.grants with
          takenGrant := none, inUse := true, table := (s.headConsist r length others).entries.map .start, room := 0 }
      ∧ (s.claimed r length others truncated).door = { s.door with trainDoorsOpen := false, lastReleaseSent := none }
      ∧ (s.claimed r length others truncated).track
          = { outstanding := none, proved := false, lifetime := none, lastProved := 0 } := by
  unfold State.claimed State.doorCommit
  rw [doorNewConsist_door, doorNewConsist_track, (doorNewConsist_rest _).1, (doorNewConsist_rest _).2]
  exact ⟨rfl, rfl, rfl, rfl⟩

theorem cycle_raise (s : State) (c : Cause) : (s.raise c).cycle = s.cycle := by simp [State.raise, State.raiseAt]
theorem grants_raise (s : State) (c : Cause) : (s.raise c).grants = s.grants := by simp [State.raise, State.raiseAt]

/-- The node after its commit as head (R40, R67, R99, R115, R120, R122). -/
theorem commit_items (s : State) (r : CountRecord) (length : Nat) (others : List RosterEntry) (truncated : Bool) :
    let t := s.commit r length others truncated
    t.inaug = (s.claimed r length others truncated).inaug
      ∧ RaisedAt .consistCommitted t ∧ RaisedAt .claimResult t
      ∧ (∃ c, t.cycle = Cycle.start c)
      ∧ t.grants = (s.claimed r length others truncated).grants ∧ t.door = (s.claimed r length others truncated).door
      ∧ t.track = (s.claimed r length others truncated).track
      ∧ (SlotFree s r.headward.other .inauguration → InSlot t r.headward.other .inauguration
          (commitFrame (s.headConsist r length others).identity s.cycle.timing.lineSilence length
            (s.headConsist r length others).entries))
      ∧ OnlyChanges [.inauguration, .cycle, .door, .tracking, .grants, .endOf r.headward.other, .portOf .portA
          , .portOf .portB] s t := by
  simp only
  rw [commit_eq]
  obtain ⟨inaug, door, track, -, grants, -⟩ := place_rest (s.claimed r length others truncated) r.headward.other
    .inauguration (commitFrame (s.headConsist r length others).identity s.cycle.timing.lineSilence length
      (s.headConsist r length others).entries)
  refine ⟨?_, Gentle.raised (Gentle.refl _).raise.modCycle, Gentle.raised (Gentle.refl _).modCycle,
    ⟨_, modCycle_cycle _ _⟩, ?_, ?_, ?_, fun free => ?_, ?_⟩
  · rw [modCycle_inaug, raise_inaug, raise_inaug, inaug]
  · rw [modCycle_grants, grants_raise, grants_raise, grants]
  · rw [modCycle_door, raise_door, raise_door, door]
  · rw [modCycle_track, raise_track, raise_track, track]
  · unfold InSlot
    rw [lineEnd_modCycle, lineEnd_raise, lineEnd_raise]
    refine place_inSlot _ _ _ _ (slotFree_of_lineEnd ?_ free)
    exact sameBlock_of_forget (L := [.inauguration, .cycle, .door, .tracking, .grants, .portOf .portA, .portOf .portB])
      (by simp [State.claimed]) (.endOf r.headward.other) (by simp)
  · rw [onlyChanges_iff_forget]
    simp [State.claimed]

theorem tallyFits_iff (length : Nat) (entries : List RosterEntry) : tallyFits length entries = true ↔
    2 ≤ length ∧ length ≤ 32 ∧ entries.map (·.position) = (List.range (length - 1)).map (· + 2) := by
  unfold tallyFits
  simp only [Bool.and_eq_true, decide_eq_true_eq, and_assoc]

theorem tallyAtHead_contest {r : CountRecord} {f : Frame} (c : hasBit (byteAt f.payload 6) 2 = true) :
    s.tallyAtHead r f = (s.goUnassigned .contest).failClaim .contest := by
  unfold State.tallyAtHead
  rw [tallyFlag_contest c]

theorem tallyAtHead_tooLong {r : CountRecord} {f : Frame} (c : hasBit (byteAt f.payload 6) 2 = false)
    (l : hasBit (byteAt f.payload 6) 1 = true) :
    s.tallyAtHead r f = ((s.placeDissolve r.headward.other 0).goUnassigned .claimEnded).failClaim .tooLong := by
  unfold State.tallyAtHead
  rw [tallyFlag_tooLong c l]
  rfl

theorem tallyAtHead_counts {r : CountRecord} {f : Frame} (c : hasBit (byteAt f.payload 6) 2 = false)
    (l : hasBit (byteAt f.payload 6) 1 = false) : s.tallyAtHead r f =
      if tallyFits (num8 f.payload 5) (tallyEntries f.payload) then
        s.commit r (num8 f.payload 5) (tallyEntries f.payload) (hasBit (byteAt f.payload 6) 0)
      else s := by
  unfold State.tallyAtHead
  rw [tallyFlag_counts c l]
  cases hasBit (byteAt f.payload 6) 0 <;> rfl

/-- A node that is no head over a TALLY of its count (R35, R36; log 26). -/
theorem tally_awaited {r : CountRecord} {f : Frame} (c : hasBit (byteAt f.payload 6) 2 = false)
    (l : hasBit (byteAt f.payload 6) 1 = false) (awaited : r.stage = .awaitingTally
      ∧ (tallyEntries f.payload).head?.map (·.position) = some (r.position + 1)) :
    (s.tallyAtNode r f).inaug = { s.inaug with role := .counted { r with
        stage := .tallySent, noted := if num8 f.payload 5 = 0 then none else some (num8 f.payload 5) } }
      ∧ (SlotFree s r.headward .inauguration → InSlot (s.tallyAtNode r f) r.headward .inauguration (s.tallyOn r f))
      ∧ OnlyChanges [.inauguration, .endOf r.headward] s (s.tallyAtNode r f) := by
  rw [tallyAtNode_eq c l, if_pos awaited]
  refine ⟨?_, fun free => ?_, ?_⟩
  · unfold State.setRecord
    rw [modInaug_inaug, (place_rest _ _ _ _).1]
    rfl
  · unfold State.setRecord InSlot
    rw [lineEnd_modInaug]
    exact place_inSlot _ _ _ _ free
  · rw [onlyChanges_iff_forget]; simp

/-- The claiming node over a TALLY flagged TOO_LONG: a Dissolve goes to the tail (R39). -/
theorem tally_tooLong {r : CountRecord} (hr : s.counted = some r) :
    let t := ((s.placeDissolve r.headward.other 0).goUnassigned .claimEnded).failClaim .tooLong
    t.inaug = { s.inaug with
        role := .unassigned, headRole := .claimFailed .tooLong, lastCause := some .claimEnded
        inaugurationTimer := none, hopTimer := none, commitWait := none }
      ∧ RaisedAt .claimResult t ∧ t.track = { s.track with outstanding := none }
      ∧ (SlotFree s r.headward.other .inauguration → InSlot t r.headward.other .inauguration
          (dissolveFrame { head := s.power.record.vehicle, generation := 0 })) := by
  obtain ⟨inaug, -, track, -⟩ := place_rest s r.headward.other .inauguration
    (dissolveFrame { head := s.vehicle, generation := 0 })
  have placed : s.placeDissolve r.headward.other 0 = s.place r.headward.other .inauguration
    (dissolveFrame { head := s.vehicle, generation := 0 }) := rfl
  rw [placed]
  obtain ⟨ended, raised, order, ends⟩ := claim_ends .claimEnded .tooLong ((counted_of_inaug inaug).trans hr)
  refine ⟨by rw [ended, inaug], raised, by rw [order, track], fun free => ?_⟩
  unfold InSlot
  rw [ends]
  exact place_inSlot _ _ _ _ free

/-- Settles O37: the COMMIT, accepted or rejected, and the TALLY, at a node and at the claiming head. -/
theorem aCommitThatFitsMakesAMember : Obligations.ACommitThatFitsMakesAMember := by
  unfold Obligations.ACommitThatFitsMakesAMember
  refine ⟨fun s r f kind c h hr awake head first => ?_, fun s e f kind n => ⟨fun passes => ?_, fun r hr c h rejects => ?_,
    fun a ha c h => ?_⟩, fun s e f kind c none => ?_, fun s r f kind c hr head attempt tooLong contest => ?_,
    fun s r e f kind c hr => ?_⟩
  · intro length entries short inside places
    have n : num8 f.payload 8 ≠ 0 := fun zero => by
      have inside : r.position ≤ num8 f.payload 8 := inside
      omega
    refine ⟨fun ⟨own, noted⟩ => ?_, fun misfits => ?_⟩
    · rw [handOn_commit kind, receiveCommit_fits hr c n ⟨rfl, head, awake, short, inside, places, own, noted⟩]
      exact acceptCommit_items s r f
    · have rejects : ¬s.commitFits r r.headward f.payload := fun ⟨_, _, _, _, _, _, own, noted⟩ => misfits ⟨own, noted⟩
      rw [handOn_commit kind, receiveCommit_rejects n fun r' hr' _ => by
        obtain rfl : r = r' := Option.some.inj (hr.symm.trans hr')
        exact rejects]
      obtain ⟨⟨role, cause, raised, -, -, -, inSlot, -⟩, changes⟩ := rejected_counted (e := r.headward) (f := f) hr c h
      exact ⟨role, cause, raised, changes, inSlot⟩
  · rw [handOn_commit kind, receiveCommit_rejects n fun r hr c => ?_, rejectCommit_passes]
    · rcases passes with claims | ⟨heads, -⟩ | role
      · exact Or.inl claims
      · exact Or.inr (Or.inl heads)
      · exact Or.inr (Or.inr role)
    · rcases passes with claims | ⟨-, none⟩ | role
      · rw [c] at claims; cases claims
      · rw [none] at hr; cases hr
      · rw [role_of_counted hr] at role; cases role
  · rw [handOn_commit kind, receiveCommit_rejects n fun r' hr' _ => by
      obtain rfl : r = r' := Option.some.inj (hr.symm.trans hr')
      exact rejects]
    exact rejected_counted hr c h
  · rw [handOn_commit kind, receiveCommit_rejects n fun r hr _ => by
      rw [counted_none_of_active ha] at hr; cases hr]
    exact rejected_member ha c h
  · rw [handOn_tally kind]
    exact receiveTally_none c none
  · simp only
    rw [handOn_tally kind, receiveTally_node c hr head attempt]
    refine ⟨fun stray => ?_, fun awaited => tally_awaited contest tooLong awaited⟩
    rw [tallyAtNode_eq contest tooLong, if_neg stray]
  · simp only
    rw [handOn_tally kind]
    refine ⟨fun none => receiveTally_claim_none c hr none, fun taken contest => ?_, fun taken contest tooLong => ?_,
      fun taken contest tooLong misfits => ?_, fun taken contest tooLong fits => ?_⟩
    · rw [receiveTally_claim c hr taken, tallyAtHead_contest contest]
      obtain ⟨inaug, raised, track, ends⟩ := claim_ends .contest .contest hr
      exact ⟨inaug, raised, track, ends e⟩
    · obtain rfl : e = r.headward.other := taken.1
      rw [receiveTally_claim c hr taken, tallyAtHead_tooLong contest tooLong]
      exact tally_tooLong hr
    · rw [receiveTally_claim c hr taken, tallyAtHead_counts contest tooLong,
        if_neg fun yes => misfits ((tallyFits_iff _ _).1 yes)]
    · obtain rfl : e = r.headward.other := taken.1
      rw [receiveTally_claim c hr taken, tallyAtHead_counts contest tooLong, if_pos ((tallyFits_iff _ _).2 fits)]
      obtain ⟨inaug, committed, result, ⟨x, cycle⟩, grants, door, track, inSlot, changes⟩ :=
        commit_items s r (num8 f.payload 5) (tallyEntries f.payload) (hasBit (byteAt f.payload 6) 0)
      obtain ⟨inaugC, grantsC, doorC, trackC⟩ :=
        claimed_items s r (num8 f.payload 5) (tallyEntries f.payload) (hasBit (byteAt f.payload 6) 0)
      rw [cycle, inaug, grants, door, track, inaugC, grantsC, doorC, trackC]
      exact ⟨rfl, committed, result, rfl, rfl, rfl, rfl, rfl, rfl, rfl, rfl, rfl, rfl, rfl, inSlot, changes⟩

end Sys2Proof.Machine

/-! SUPPORT. How a head leaves HEADING and begins an attempt again (R26, R29, R49, R65, R67, R117). -/

namespace Sys2Proof.Machine

variable {s t : State}

/-! ## Leaving HEADING -/

/-- A member that has taken another role and told of it, before a head's parts stop (R65). -/
def State.left (s : State) (next : NodeRole) (cause : LeaveCause) : State :=
  (s.modInaug fun i => { i with role := next, silence := none, lastCause := some cause }).toldLeaving.reportRecount

theorem leaveMember_head {a : ActiveConsist} {next : NodeRole} {cause : LeaveCause} (head : s.heading = true) :
    s.leaveMember a next cause = (s.left next cause).leaveHeading a.identity := by
  unfold State.leaveMember
  simp only [head]
  rfl

theorem forget_reportRecount_away (L : List Block) (h : s.active = none) (hd : Block.door ∈ L) (hm : Block.messages ∈ L)
    (hP : ∀ p, Block.portOf p ∈ L) : s.reportRecount.forget L = s.forget L := by
  unfold State.reportRecount
  rw [forget_msgReport L _ hm, forget_doorReport_away L h hd hP]

/-- What a leaving clears, and what it keeps (R65, R70, R71, R79, R82, R133). -/
theorem left_items {next : NodeRole} {cause : LeaveCause} (away : ∀ b, next ≠ .member b) :
    (s.left next cause).track = s.track
      ∧ (s.left next cause).cycle = { s.cycle with
          lastCallRole := .none, lastAppended := none, lastSettle := none, statusRaised := false }
      ∧ (s.left next cause).grants = { s.grants with takenGrant := none }
      ∧ (s.left next cause).inaug = { s.inaug with role := next, silence := none, lastCause := some cause }
      ∧ ∀ d, (s.left next cause).lineEnd d = s.lineEnd d := by
  generalize hx : s.modInaug (fun i => { i with role := next, silence := none, lastCause := some cause }) = x
  have told : (s.left next cause) = x.toldLeaving.reportRecount := by rw [← hx]; rfl
  have none : x.toldLeaving.active = none := by
    rw [active_of_inaug (toldLeaving_inaug x), ← hx]
    exact active_none_of_role away
  have still : x.toldLeaving.reportRecount.forget (.messages :: sideBlocks) = x.toldLeaving.forget (.messages :: sideBlocks) :=
    forget_reportRecount_away _ none (by simp [sideBlocks]) (by simp) (by simp [sideBlocks])
  rw [told]
  have raised : x.toldLeaving.forget [.portOf .portA, .portOf .portB] = x.roleChanged.forget [.portOf .portA, .portOf .portB] := by
    simp [State.toldLeaving]
  refine ⟨?_, ?_, ?_, ?_, fun d => ?_⟩
  · rw [show x.toldLeaving.reportRecount.track = x.toldLeaving.track from
      sameBlock_of_forget still .tracking (by simp [sideBlocks]),
      show x.toldLeaving.track = x.roleChanged.track from sameBlock_of_forget raised .tracking (by simp), ← hx]
    rfl
  · rw [show x.toldLeaving.reportRecount.cycle = x.toldLeaving.cycle from
      sameBlock_of_forget still .cycle (by simp [sideBlocks]),
      show x.toldLeaving.cycle = x.roleChanged.cycle from sameBlock_of_forget raised .cycle (by simp), ← hx]
    rfl
  · rw [show x.toldLeaving.reportRecount.grants = x.toldLeaving.grants from
      sameBlock_of_forget still .grants (by simp [sideBlocks]),
      show x.toldLeaving.grants = x.roleChanged.grants from sameBlock_of_forget raised .grants (by simp), ← hx]
    rfl
  · rw [show x.toldLeaving.reportRecount.inaug = x.toldLeaving.inaug from
      sameBlock_of_forget still .inauguration (by simp [sideBlocks]),
      show x.toldLeaving.inaug = x.roleChanged.inaug from sameBlock_of_forget raised .inauguration (by simp), ← hx]
    rfl
  · rw [show x.toldLeaving.reportRecount.lineEnd d = x.toldLeaving.lineEnd d from
      sameBlock_of_forget still (.endOf d) (by simp [sideBlocks]),
      show x.toldLeaving.lineEnd d = x.roleChanged.lineEnd d from sameBlock_of_forget raised (.endOf d) (by simp), ← hx]
    cases d <;> rfl

theorem lineEnd_withdrawOwn (s : State) (i : Identity) (e d : EndId) : (s.withdrawOwn i e).lineEnd d =
    if d = e then (s.lineEnd d).modSlot .cycle (·.withdraw (ownCycleFrame i)) else s.lineEnd d := by
  unfold State.withdrawOwn
  rw [lineEnd_modEnd]

theorem lineEnd_withdrawOwn_both (s : State) (i : Identity) (d : EndId) :
    ((s.withdrawOwn i .end1).withdrawOwn i .end2).lineEnd d = (s.lineEnd d).modSlot .cycle (·.withdraw (ownCycleFrame i)) := by
  rw [lineEnd_withdrawOwn, lineEnd_withdrawOwn]
  cases d <;> rfl

/-- The head parts stop, and the Ends lose the head's own CALL and SETTLE (R67, R99, R117, R123). -/
theorem leaveHeading_items (s : State) (i : Identity) :
    (s.leaveHeading i).track = { s.track with proved := false, lifetime := none }
      ∧ (s.leaveHeading i).cycle = s.cycle.stop ∧ (s.leaveHeading i).grants = { s.grants with inUse := false }
      ∧ (s.leaveHeading i).inaug = s.inaug
      ∧ ∀ d, (s.leaveHeading i).lineEnd d = (s.lineEnd d).modSlot .cycle (·.withdraw (ownCycleFrame i)) := by
  generalize hx : ((s.modCycle Cycle.stop).withdrawOwn i .end1).withdrawOwn i .end2 = x
  have leaves : s.leaveHeading i = x.doorLeavesHeading.grantLeavesHeading := by rw [← hx]; rfl
  have still : x.doorLeavesHeading.forget [.door, .tracking, .portOf .portA, .portOf .portB]
      = x.forget [.door, .tracking, .portOf .portA, .portOf .portB] := by simp
  have traffic : x.forget [.endOf .end1, .endOf .end2] = (s.modCycle Cycle.stop).forget [.endOf .end1, .endOf .end2] := by
    rw [← hx]; simp
  rw [leaves]
  refine ⟨?_, ?_, ?_, ?_, fun d => ?_⟩
  · rw [State.grantLeavesHeading, modGrants_track, State.doorLeavesHeading, track_unprove, modDoor_track,
      show x.track = (s.modCycle Cycle.stop).track from sameBlock_of_forget traffic .tracking (by simp)]
    rfl
  · rw [State.grantLeavesHeading, modGrants_cycle,
      show x.doorLeavesHeading.cycle = x.cycle from sameBlock_of_forget still .cycle (by simp),
      show x.cycle = (s.modCycle Cycle.stop).cycle from sameBlock_of_forget traffic .cycle (by simp)]
    rfl
  · rw [State.grantLeavesHeading, modGrants_grants,
      show x.doorLeavesHeading.grants = x.grants from sameBlock_of_forget still .grants (by simp),
      show x.grants = (s.modCycle Cycle.stop).grants from sameBlock_of_forget traffic .grants (by simp)]
    rfl
  · rw [State.grantLeavesHeading, modGrants_inaug,
      show x.doorLeavesHeading.inaug = x.inaug from sameBlock_of_forget still .inauguration (by simp),
      show x.inaug = (s.modCycle Cycle.stop).inaug from sameBlock_of_forget traffic .inauguration (by simp)]
    rfl
  · rw [State.grantLeavesHeading, lineEnd_modGrants,
      show x.doorLeavesHeading.lineEnd d = x.lineEnd d from sameBlock_of_forget still (.endOf d) (by simp), ← hx,
      lineEnd_withdrawOwn_both, lineEnd_modCycle]

/-- A head that has left HEADING for another role (R65, R67). -/
theorem headLeaves_items {a : ActiveConsist} {next : NodeRole} {cause : LeaveCause} (head : s.heading = true)
    (away : ∀ b, next ≠ .member b) :
    let t := s.leaveMember a next cause
    t.track = { s.track with proved := false, lifetime := none }
      ∧ t.cycle = { s.cycle with
          lastCallRole := .none, lastAppended := none, lastSettle := none, statusRaised := false, state := .none
          cycleTimeout := none, periodTimer := none, refreshTimer := none }
      ∧ t.grants = { s.grants with takenGrant := none, inUse := false }
      ∧ t.inaug = { s.inaug with role := next, silence := none, lastCause := some cause }
      ∧ ∀ d, t.lineEnd d = (s.lineEnd d).modSlot .cycle (·.withdraw (ownCycleFrame a.identity)) := by
  simp only
  rw [leaveMember_head head]
  obtain ⟨track, cycle, grants, inaug, ends⟩ := left_items (s := s) (cause := cause) away
  obtain ⟨trackH, cycleH, grantsH, inaugH, endsH⟩ := leaveHeading_items (s.left next cause) a.identity
  exact ⟨by rw [trackH, track], by rw [cycleH, cycle]; rfl, by rw [grantsH, grants], by rw [inaugH, inaug],
    fun d => by rw [endsH, ends]⟩

/-! ## Beginning again -/

theorem recount_member {a : ActiveConsist} (ha : s.active = some a) (r : CountRecord) :
    s.recount r = s.leaveMember a (.counted r) .countReception := by
  unfold State.recount
  rw [role_of_active ha]

theorem lineEnd_place (s : State) (e : EndId) (x : Source) (f : Frame) : (s.place e x f).lineEnd e =
    if (s.lineEnd e).link = .opened then s.lineEnd e else (s.lineEnd e).modSlot x (·.place f) := by
  split
  · next o => rw [place_opened o]
  · next o => rw [place_eq x o, lineEnd_modEnd_same]

theorem lineEnd_place_congr (e : EndId) (x : Source) (f : Frame) (h : ∀ d, t.lineEnd d = s.lineEnd d) (d : EndId) :
    (t.place e x f).lineEnd d = (s.place e x f).lineEnd d := by
  rcases end_eq_or_other e d with rfl | rfl
  · rw [lineEnd_place, lineEnd_place, h]
  · rw [place_other, place_other, h]

/-- An attempt toward an End that is not OPEN: a COUNT is placed there (R26). -/
def State.attempts (s : State) (h : EndId) (n : Nat) : State :=
  let r := s.claimRecord h n
  let u := (s.recount r).modInaug fun i => { i.stopTimers with headRole := .claiming, attempt := n }
  ((u.place h.other .inauguration r.countFrame).startHop r.stage).modInaug fun i =>
    { i with inaugurationTimer := u.timerMs r.timeout }

theorem isOpen_recount (s : State) (r : CountRecord) (g : Inauguration → Inauguration) (e : EndId) :
    ((s.recount r).modInaug g).isOpen e = s.isOpen e := by
  unfold State.isOpen
  rw [lineEnd_modInaug, skeleton_link (skel_recount s r) e]

theorem attemptFrom_closed {h : EndId} {n : Nat} (o : (s.lineEnd h.other).link ≠ .opened) :
    s.attemptFrom h n = s.attempts h n := by
  unfold State.attemptFrom
  simp only [isOpen_recount]
  exact if_neg (by unfold State.isOpen; rw [decide_eq_true_eq]; exact o)

/-- An attempt at the end of the train makes a lone head (R26, R27). -/
theorem attemptFrom_alone {h : EndId} {n : Nat} (o : (s.lineEnd h.other).link = .opened) :
    s.attemptFrom h n = ((s.recount (s.claimRecord h n)).modInaug fun i =>
      { i.stopTimers with headRole := .claiming, attempt := n }).loneHead (s.claimRecord h n) false := by
  unfold State.attemptFrom
  simp only [isOpen_recount]
  exact if_pos (by unfold State.isOpen; rw [decide_eq_true_eq]; exact o)

/-- What the recount of an attempt has made of the other blocks stays, and the COUNT goes out (R26). -/
theorem attempts_items (s : State) (h : EndId) (n : Nat) :
    let y := s.recount (s.claimRecord h n)
    (s.attempts h n).track = y.track ∧ (s.attempts h n).cycle = y.cycle ∧ (s.attempts h n).grants = y.grants
      ∧ (s.attempts h n).claiming = true ∧ (s.attempts h n).inaug.attempt = n
      ∧ (s.attempts h n).inaug.lastCause = y.inaug.lastCause
      ∧ ∀ d, (s.attempts h n).lineEnd d = (y.place h.other .inauguration (s.claimRecord h n).countFrame).lineEnd d := by
  simp only
  generalize hy : s.recount (s.claimRecord h n) = y
  have same : (s.attempts h n).forget [.inauguration, .endOf h.other] = y.forget [.inauguration, .endOf h.other] := by
    unfold State.attempts
    simp [hy]
  refine ⟨sameBlock_of_forget same .tracking (by simp), sameBlock_of_forget same .cycle (by simp),
    sameBlock_of_forget same .grants (by simp), ?_, ?_, ?_, fun d => ?_⟩
  · unfold State.attempts State.startHop State.claiming
    simp [(place_rest _ _ _ _).1]
  · unfold State.attempts State.startHop
    simp [(place_rest _ _ _ _).1]
  · unfold State.attempts State.startHop
    simp only [hy, modInaug_inaug, (place_rest _ _ _ _).1]
    rfl
  · unfold State.attempts State.startHop
    simp only [hy, lineEnd_modInaug]
    exact lineEnd_place_congr _ _ _ (fun d => by rw [lineEnd_modInaug]) d

end Sys2Proof.Machine

/-! SUPPORT. The RETURN at the head: what the Door Unit and the Grant Engine make of it, and the SETTLE that answers it
(R75, R77, R78, R83, R116, R129, R131, R132). -/

namespace Sys2Proof.Machine

variable {s t : State}

/-! ## A head that begins again -/

theorem reinaugurate_head (head : s.heading = true) : s.reinaugurate = s.beginAttempt 1 := if_pos head

/-- A head that begins again has no proof and no CALL out (R49, R67, R117). -/
theorem reinaugurate_stops {a : ActiveConsist} (ha : s.active = some a) (head : s.heading = true) :
    s.reinaugurate.track.proved = false ∧ s.reinaugurate.track.lifetime = none
      ∧ s.reinaugurate.cycle.cycleTimeout = none := by
  rw [reinaugurate_head head]
  unfold State.beginAttempt
  generalize hx : s.modInaug (fun i => { i with attempt := 1 }) = x
  have active : x.active = some a := by rw [← hx]; exact ha
  have heading : x.heading = true := by rw [← hx]; exact head
  simp only
  split
  · next h _ =>
    obtain ⟨track, cycle, -⟩ := headLeaves_items (a := a) (next := .counted (x.claimRecord h 1)) (cause := .countReception)
      heading nofun
    rw [← recount_member active] at track cycle
    by_cases o : (x.lineEnd h.other).link = .opened
    · rw [attemptFrom_alone o]
      obtain ⟨-, -, -, ⟨c, start⟩, -, -, order, -⟩ := commit_items ((x.recount (x.claimRecord h 1)).modInaug fun i =>
        { i.stopTimers with headRole := .claiming, attempt := 1 }) (x.claimRecord h 1) 1 [] false
      obtain ⟨-, -, -, claimed⟩ := claimed_items ((x.recount (x.claimRecord h 1)).modInaug fun i =>
        { i.stopTimers with headRole := .claiming, attempt := 1 }) (x.claimRecord h 1) 1 [] false
      unfold State.loneHead
      rw [order, claimed, start]
      exact ⟨rfl, rfl, rfl⟩
    · rw [attemptFrom_closed o]
      obtain ⟨trackA, cycleA, -⟩ := attempts_items x h 1
      rw [trackA, cycleA, track, cycle]
      exact ⟨rfl, rfl, rfl⟩
  · obtain ⟨track, cycle, -, inaug, -⟩ := headLeaves_items (a := a) (next := .unassigned) (cause := .claimEnded)
      heading nofun
    have gone : x.goUnassigned .claimEnded
        = ((x.leaveMember a .unassigned .claimEnded).modInaug Inauguration.stopTimers).fallBack := by
      unfold State.goUnassigned
      rw [role_of_active active]
    have none : ((x.leaveMember a .unassigned .claimEnded).modInaug Inauguration.stopTimers).active = none := by
      unfold State.active
      rw [modInaug_inaug, inaug]
      rfl
    have still := forget_fallBack_away [.stages] none (by simp)
    have fails : ∀ u : State, (u.failClaim .notAtEnd).cycle = u.cycle := fun u =>
      sameBlock_of_forget (L := [.inauguration, .tracking, .portOf .portA, .portOf .portB]) (by simp) .cycle (by simp)
    rw [failClaim_track, fails, gone,
      show (State.fallBack _).track = _ from sameBlock_of_forget still .tracking (by simp),
      show (State.fallBack _).cycle = _ from sameBlock_of_forget still .cycle (by simp), modInaug_track, modInaug_cycle,
      track, cycle]
    exact ⟨rfl, rfl, rfl⟩

/-- A head that begins an attempt toward an End that is not OPEN (R26, R49, R65, R67). -/
theorem reinaugurate_attempts {a : ActiveConsist} {h : EndId} (ha : s.active = some a) (head : s.heading = true)
    (claims : s.claimHeadward = some h) (o : (s.lineEnd h.other).link ≠ .opened) :
    let t := s.reinaugurate
    t.claiming = true ∧ t.inaug.attempt = 1 ∧ t.inaug.lastCause = some .countReception ∧ t.cycle.state = .none
      ∧ t.cycle.failures = s.cycle.failures ∧ t.cycle.lastFailure = s.cycle.lastFailure
      ∧ t.grants.table = s.grants.table ∧ t.track.outstanding = s.track.outstanding
      ∧ ∀ d, (t.lineEnd d).slots.cycle = (s.lineEnd d).slots.cycle.withdraw (ownCycleFrame a.identity) := by
  simp only
  rw [reinaugurate_head head]
  unfold State.beginAttempt
  generalize hx : s.modInaug (fun i => { i with attempt := 1 }) = x
  have active : x.active = some a := by rw [← hx]; exact ha
  have heading : x.heading = true := by rw [← hx]; exact head
  have ends (d : EndId) : x.lineEnd d = s.lineEnd d := by rw [← hx, lineEnd_modInaug]
  have chosen : x.claimHeadward = some h := by rw [← hx]; exact claims
  simp only [chosen]
  rw [attemptFrom_closed (by rw [ends]; exact o)]
  obtain ⟨track, cycle, grants, inaug, lines⟩ := headLeaves_items (a := a) (next := .counted (x.claimRecord h 1))
    (cause := .countReception) heading nofun
  rw [← recount_member active] at track cycle grants inaug lines
  obtain ⟨trackA, cycleA, grantsA, claimingA, attemptA, causeA, endsA⟩ := attempts_items x h 1
  rw [trackA, cycleA, grantsA, causeA, track, cycle, grants, inaug]
  refine ⟨claimingA, attemptA, rfl, rfl, by rw [← hx]; rfl, by rw [← hx]; rfl, by rw [← hx]; rfl, by rw [← hx]; rfl,
    fun d => ?_⟩
  have kept := slots_place (x.recount (x.claimRecord h 1)) h.other (x := .inauguration) (y := .cycle)
    (x.claimRecord h 1).countFrame (by decide) d
  rw [endsA]
  refine Eq.trans kept ?_
  rw [lines, ends]
  rfl

/-! ## The Door Unit reads no more of the cycle than the CALL that left -/

/-- A change of the Cycle Engine that the Door Unit does not see. -/
def DoorBlind (g : Cycle → Cycle) : Prop :=
  ∀ c, (g c).lastCallLeft = c.lastCallLeft ∧ (g c).number = c.number ∧ (g c).timing = c.timing

theorem setProof_modCycle (g : Cycle → Cycle) (v : Bool) : (s.modCycle g).setProof v = (s.setProof v).modCycle g := by
  unfold State.setProof
  rw [modCycle_track]
  split <;> rfl

theorem unprove_modCycle (g : Cycle → Cycle) : (s.modCycle g).unprove = s.unprove.modCycle g :=
  setProof_modCycle (s := s.modTrack fun t => { t with lifetime := none }) g false

theorem orderLeaves_modCycle (g : Cycle → Cycle) (a : ActiveConsist) (f : Frame) :
    (s.modCycle g).orderLeaves a f = (s.orderLeaves a f).modCycle g := by
  unfold State.orderLeaves
  simp only
  split
  · refine Eq.trans ?_ (unprove_modCycle g)
    rfl
  · rfl

theorem place_modCycle (g : Cycle → Cycle) (e : EndId) (x : Source) (f : Frame) :
    (s.modCycle g).place e x f = (s.place e x f).modCycle g := by
  unfold State.place State.isOpen
  rw [lineEnd_modCycle]
  split
  · rfl
  · cases e <;> rfl

theorem placeOrder_modCycle (g : Cycle → Cycle) (a : ActiveConsist) (f : Frame) :
    (s.modCycle g).placeOrder a f = (s.placeOrder a f).modCycle g := by
  have same : (s.modCycle g).isOpen a.tailward = s.isOpen a.tailward := by unfold State.isOpen; rw [lineEnd_modCycle]
  unfold State.placeOrder
  rw [same]
  split
  · exact orderLeaves_modCycle g a f
  · exact place_modCycle g _ _ f

theorem checkComplete_modCycle (g : Cycle → Cycle) : (s.modCycle g).checkComplete = s.checkComplete.modCycle g := by
  unfold State.checkComplete
  rw [modCycle_track]
  split
  · split <;> rfl
  · rfl

theorem repeatOrLose_modCycle (g : Cycle → Cycle) (a : ActiveConsist) (r : OutstandingOrder) :
    (s.modCycle g).repeatOrLose a r = (s.repeatOrLose a r).modCycle g := by
  unfold State.repeatOrLose
  split
  · rfl
  · split
    · rfl
    · exact placeOrder_modCycle (s := s.modTrack fun t => { t with
        outstanding := some { r with repeatsLeft := r.repeatsLeft - 1 } }) g a
        (s.buildOrder a r.id r.action r.side r.first r.last)

theorem readEchoes_modCycle {g : Cycle → Cycle} (blind : DoorBlind g) (a : ActiveConsist) (records : List CycleRecord) :
    (s.modCycle g).readEchoes a records = (s.readEchoes a records).modCycle g := by
  unfold State.readEchoes
  rw [modCycle_track, modCycle_cycle, (blind _).1]
  split
  · split
    · next r _ _ =>
      have lost := repeatOrLose_modCycle (s := s.modTrack fun t =>
        { t with outstanding := some { r with outcomes := fillOutcomes r.id records r.outcomes } }) g a
        { r with outcomes := fillOutcomes r.id records r.outcomes }
      exact (congrArg State.checkComplete lost).trans (checkComplete_modCycle g)
    · rfl
  · rfl

theorem evaluateProof_modCycle {g : Cycle → Cycle} (blind : DoorBlind g) (n : Nat) (records : List CycleRecord) :
    (s.modCycle g).evaluateProof n records = (s.evaluateProof n records).modCycle g := by
  obtain ⟨left, number, timing⟩ := blind s.cycle
  unfold State.evaluateProof
  rw [modCycle_cycle, left, number, timing, modCycle_door]
  split
  · exact setProof_modCycle (s := s.modTrack fun t => { t with
      lifetime := s.timerMs (s.cycle.timing.quietRefresh + cycleTimeoutMs n), lastProved := s.cycle.number }) g true
  · exact unprove_modCycle g

/-- The Door Unit's part of a RETURN does not depend on the failures and the Cycle Timeout (R75, R99, R111, R116). -/
theorem doorReturn_modCycle {g : Cycle → Cycle} (blind : DoorBlind g) (a : ActiveConsist) (records : List CycleRecord) :
    (s.modCycle g).doorReturn a records = (s.doorReturn a records).modCycle g := by
  have reads := readEchoes_modCycle (s := s.modDoor fun d => { d with trainDoorsOpen := records.any (·.doorOpen) }) blind a
    records
  unfold State.doorReturn
  exact (congrArg (State.evaluateProof · a.length records) reads).trans (evaluateProof_modCycle blind _ _)

/-- What a RETURN at the Door Unit leaves of the blocks (R99, R111, R116). -/
def doorReturnBlocks (a : ActiveConsist) : List Block :=
  [.moments, .door, .tracking, .endOf a.headward.other, .portOf .portA, .portOf .portB]

theorem forget_placeOrder_tail (L : List Block) (s : State) (a : ActiveConsist) (f : Frame) (hm : Block.moments ∈ L)
    (hd : Block.door ∈ L) (hk : Block.tracking ∈ L) (he : Block.endOf a.headward.other ∈ L) (hP : ∀ p, Block.portOf p ∈ L) :
    (s.placeOrder a f).forget L = s.forget L := by
  unfold State.placeOrder
  split
  · exact forget_orderLeaves L s a f hm hk hd hP
  · exact forget_place L s _ _ _ he

theorem forget_doorReturn_tail (s : State) (a : ActiveConsist) (records : List CycleRecord) :
    (s.doorReturn a records).forget (doorReturnBlocks a) = s.forget (doorReturnBlocks a) := by
  have repeats (u : State) (r : OutstandingOrder) :
      (u.repeatOrLose a r).forget (doorReturnBlocks a) = u.forget (doorReturnBlocks a) := by
    unfold State.repeatOrLose
    split
    · rfl
    · split
      · simp [doorReturnBlocks]
      · simp only
        rw [forget_placeOrder_tail _ _ _ _ (by simp [doorReturnBlocks]) (by simp [doorReturnBlocks])
          (by simp [doorReturnBlocks]) (by simp [doorReturnBlocks]) (by simp [doorReturnBlocks])]
        simp [doorReturnBlocks]
  have echoes (u : State) : (u.readEchoes a records).forget (doorReturnBlocks a) = u.forget (doorReturnBlocks a) := by
    unfold State.readEchoes
    split
    · split
      · simp only
        rw [forget_checkComplete _ _ (by simp [doorReturnBlocks]) (by simp [doorReturnBlocks]), repeats]
        simp [doorReturnBlocks]
      · rfl
    · rfl
  unfold State.doorReturn
  rw [forget_evaluateProof _ _ _ _ (by simp [doorReturnBlocks]) (by simp [doorReturnBlocks]), echoes]
  simp [doorReturnBlocks]

/-! ## The Grant Engine -/

theorem grants_shed (s : State) (a : ActiveConsist) :
    (s.shed a).grants = { s.grants with table := shedTable a.entries s.grants.budget s.grants.table } := by
  unfold State.shed
  simp only
  split
  · rfl
  · rw [grants_raise]; rfl

/-- The Grant Engine's part of a RETURN depends on the Grant Engine alone (R126, R129, R130). -/
theorem grants_grantReturn {a : ActiveConsist} {records : List CycleRecord} (h : t.grants = s.grants) :
    (t.grantReturn a records).grants = (s.grantReturn a records).grants := by
  unfold State.grantReturn State.raiseGrants
  simp only [h, modGrants_grants]
  split
  · simp only [grants_shed, modGrants_grants, h]
  · simp only [modGrants_grants, h]

/-! ## The SETTLE at the head -/

/-- At a head a changed record asks for a CALL and no more (R83). -/
theorem sourceChanged_asks (head : s.heading = true) :
    ∃ b c, s.sourceChanged = s.modCycle fun k => { k with statusRaised := b, callRequested := c } := by
  cases ha : s.active with
  | none => exact ⟨s.cycle.statusRaised, s.cycle.callRequested, sourceChanged_unassigned ha⟩
  | some a =>
    by_cases settled : s.cycle.statusRaised = true ∨ ¬s.recordDiffers a
    · exact ⟨s.cycle.statusRaised, s.cycle.callRequested, sourceChanged_settled ha settled⟩
    · have raised : s.cycle.statusRaised = false := by
        cases down : s.cycle.statusRaised with
        | false => rfl
        | true => exact absurd (Or.inl down) settled
      have differs : s.recordDiffers a := by
        by_contra same
        exact settled (Or.inr same)
      exact ⟨true, true, sourceChanged_head ha raised differs head⟩

/-- The blocks that a SETTLE taken at the head reaches (R79, R132, R133). -/
def ownSettleBlocks : List Block := [.cycle, .stages, .grants, .portOf .portA, .portOf .portB]

theorem forget_sourceChanged_head (L : List Block) (head : s.heading = true) (hc : Block.cycle ∈ L) :
    s.sourceChanged.forget L = s.forget L := by
  obtain ⟨b, c, asks⟩ := sourceChanged_asks head
  rw [asks]
  exact forget_modCycle L s _ hc

/-- The Ceiling taken at the head leaves the Ends alone, and of the cycle all but its requests (R83, R131, R136). -/
theorem ceilingFromGrant_head (n : Nat) (head : s.heading = true) :
    (s.ceilingFromGrant n).forget [.cycle, .stages] = s.forget [.cycle, .stages]
      ∧ ∃ b c, (s.ceilingFromGrant n).cycle = { s.cycle with statusRaised := b, callRequested := c } := by
  unfold State.ceilingFromGrant
  split
  · exact ⟨rfl, s.cycle.statusRaised, s.cycle.callRequested, rfl⟩
  · generalize hu : (s.modStage fun d => { d with ceiling := n, fallback := false }).applyTarget
      (s.modStage fun d => { d with ceiling := n, fallback := false }).newTarget (decide (s.stage.ceiling < n)) = u
    have sets : s.setCeiling n false = u.sourceChanged := by rw [← hu]; rfl
    have still : u.forget [.stages] = s.forget [.stages] := by rw [← hu]; simp
    have heads : u.heading = true :=
      (heading_of_inaug (sameBlock_of_forget still .inauguration (by simp))).trans head
    obtain ⟨b, c, asks⟩ := sourceChanged_asks heads
    rw [sets]
    refine ⟨(forget_sourceChanged_head _ heads (by simp)).trans (forget_mono still (by simp)), b, c, ?_⟩
    rw [asks, modCycle_cycle, show u.cycle = s.cycle from sameBlock_of_forget still .cycle (by simp)]

theorem takeGrant_grants (s : State) (n : Nat) : ∃ x, (s.takeGrant n).grants = { s.grants with takenGrant := x } := by
  unfold State.takeGrant
  split
  · exact ⟨s.grants.takenGrant, rfl⟩
  · split
    · exact ⟨s.grants.takenGrant, rfl⟩
    · exact ⟨some n, by rw [grants_raise]; rfl⟩

/-- The head takes its own SETTLE for itself (R132, R133). -/
theorem useSettle_head (l : LastSettle) (head : s.heading = true) :
    (s.useSettle l).forget ownSettleBlocks = s.forget ownSettleBlocks
      ∧ (∃ b c, (s.useSettle l).cycle = { s.cycle with lastSettle := some l, statusRaised := b, callRequested := c })
      ∧ ∃ x, (s.useSettle l).grants = { s.grants with takenGrant := x } := by
  generalize hu : s.modCycle (fun c => { c with lastSettle := some l }) = u
  have uses : s.useSettle l = (u.ceilingFromGrant l.grant).takeGrant l.grant := by rw [← hu]; rfl
  have heads : u.heading = true := by rw [← hu]; exact head
  obtain ⟨still, b, c, cycle⟩ := ceilingFromGrant_head l.grant heads
  have takes : ((u.ceilingFromGrant l.grant).takeGrant l.grant).forget [.grants, .portOf .portA, .portOf .portB]
      = (u.ceilingFromGrant l.grant).forget [.grants, .portOf .portA, .portOf .portB] := by simp
  obtain ⟨x, grants⟩ := takeGrant_grants (u.ceilingFromGrant l.grant) l.grant
  rw [uses]
  refine ⟨?_, ⟨b, c, ?_⟩, x, ?_⟩
  · rw [forget_mono takes (by simp [ownSettleBlocks]), forget_mono still (by simp [ownSettleBlocks]), ← hu]
    simp [ownSettleBlocks]
  · rw [show ((u.ceilingFromGrant l.grant).takeGrant l.grant).cycle = (u.ceilingFromGrant l.grant).cycle from
      sameBlock_of_forget takes .cycle (by simp), cycle, ← hu]
    rfl
  · rw [grants, show (u.ceilingFromGrant l.grant).grants = u.grants from sameBlock_of_forget still .grants (by simp), ← hu]
    rfl

/-- The pace that a RETURN's SETTLE publishes (R78). -/
def State.paceAfter (s : State) (failed : Bool) (records : List CycleRecord) : NextMode :=
  if s.continuousNext failed records then .continuous else .quiet

/-- The SETTLE that the head builds (R78, R131). -/
def State.ownSettleFrame (s : State) (a : ActiveConsist) (failed : Bool) (records : List CycleRecord) : Frame :=
  settleFrame a.identity s.cycle.number (s.paceAfter failed records) s.track.proved (s.grants.table.map (·.byte))

/-- The head settles: SETTLE placed, pace published, the SETTLE taken for itself (R78, R131, R132). -/
theorem settle_items {a : ActiveConsist} {failed : Bool} {records : List CycleRecord} (head : s.heading = true) :
    let t := s.settle a failed records
    let mode := s.paceAfter failed records
    (∃ b c, t.cycle = { s.cycle with
        nextMode := mode, state := if mode = .quiet then .idleQuiet else .idleContinuous
        lastSettle := some (s.ownSettle mode), statusRaised := b, callRequested := c })
      ∧ (∃ x, t.grants = { s.grants with takenGrant := x })
      ∧ t.forget (.endOf a.headward.other :: ownSettleBlocks) = s.forget (.endOf a.headward.other :: ownSettleBlocks)
      ∧ ∀ d, t.lineEnd d = (s.place a.headward.other .cycle (s.ownSettleFrame a failed records)).lineEnd d := by
  simp only
  generalize hm : s.paceAfter failed records = mode
  generalize hu : (s.modCycle fun c => { c with
    nextMode := mode, state := if mode = .quiet then .idleQuiet else .idleContinuous }).place a.headward.other .cycle
      (s.ownSettleFrame a failed records) = u
  have settles : s.settle a failed records = u.useSettle (s.ownSettle mode) := by
    rw [← hu, ← hm]; rfl
  have heads : u.heading = true := by rw [← hu]; exact (heading_of_inaug (place_rest _ _ _ _).1).trans head
  have still : u.forget [.cycle, .endOf a.headward.other] = s.forget [.cycle, .endOf a.headward.other] := by
    rw [← hu]; simp
  obtain ⟨final, ⟨b, c, cycle⟩, x, grants⟩ := useSettle_head (s.ownSettle mode) heads
  rw [settles]
  refine ⟨⟨b, c, ?_⟩, ⟨x, ?_⟩, ?_, fun d => ?_⟩
  · rw [cycle, ← hu, (place_rest _ _ _ _).2.2.2.1]
    rfl
  · rw [grants, show u.grants = s.grants from sameBlock_of_forget still .grants (by simp)]
  · exact (forget_mono final (by simp [ownSettleBlocks])).trans (forget_mono still (by simp [ownSettleBlocks]))
  · rw [show (u.useSettle _).lineEnd d = u.lineEnd d from
      sameBlock_of_forget final (.endOf d) (by simp [ownSettleBlocks]), ← hu]
    exact lineEnd_place_congr _ _ _ (fun e => lineEnd_modCycle _ _ e) d

end Sys2Proof.Machine

/-! SUPPORT. A CALL that the head originates, and the RETURN it takes (R68, R74, R75, R77, R96). -/

namespace Sys2Proof.Machine

variable {s t : State}

/-! ## The Head Flags at the head -/

/-- The blocks that a side of a head's coach reaches (R82, R83, R86). -/
def headSideBlocks : List Block := [.cycle, .door, .portOf .portA, .portOf .portB]

/-- What a change of the sides that releases none leaves at a head: the cycle but for its requests, and every event flag
that is set (R83, R86). -/
structure SidesClose (s t : State) : Prop where
  rest : t.forget headSideBlocks = s.forget headSideBlocks
  cycle : ∃ b c, t.cycle = { s.cycle with statusRaised := b, callRequested := c }
  flags : OnlyRaises s t
  closed : ∀ i, s.sideState i ≠ .released → t.sideState i ≠ .released

theorem SidesClose.inaug (h : SidesClose s t) : t.inaug = s.inaug :=
  sameBlock_of_forget h.rest .inauguration (by simp [headSideBlocks])

theorem SidesClose.lineEnd (h : SidesClose s t) (d : EndId) : t.lineEnd d = s.lineEnd d :=
  sameBlock_of_forget h.rest (.endOf d) (by simp [headSideBlocks])

theorem onlyRaises_refl (s : State) : OnlyRaises s s := onlyRaises_of_port fun _ => rfl

theorem SidesClose.refl (s : State) : SidesClose s s :=
  ⟨rfl, ⟨s.cycle.statusRaised, s.cycle.callRequested, rfl⟩, onlyRaises_refl s, fun _ h => h⟩

theorem SidesClose.trans {u : State} (h : SidesClose s t) (k : SidesClose t u) : SidesClose s u := by
  obtain ⟨b, c, cycle⟩ := k.cycle
  obtain ⟨b', c', cycle'⟩ := h.cycle
  exact ⟨k.rest.trans h.rest, ⟨b, c, by rw [cycle, cycle']⟩, h.flags.trans k.flags, fun i n => k.closed i (h.closed i n)⟩

/-- A side of a head's coach becomes CLOSING (R82, R83, R86). -/
theorem setSide_closes (i : SideId) (head : s.heading = true) :
    SidesClose s (s.setSide i .closing) ∧ (s.setSide i .closing).sideState i ≠ .released := by
  by_cases same : s.sideState i = .closing
  · have stays : s.setSide i .closing = s := if_pos same
    rw [stays, same]
    exact ⟨.refl s, by decide⟩
  · generalize hu : (s.modDoor fun d => d.setSide i ⟨.closing, s.timerMs (s.power.record.closeTimeout * 1000), false⟩).raise
      .sideStateChanged = u
    have sets : s.setSide i .closing = u.sourceChanged := by rw [← hu]; exact if_neg same
    have still : u.forget [.door, .portOf .portA, .portOf .portB] = s.forget [.door, .portOf .portA, .portOf .portB] := by
      rw [← hu]; simp
    have heads : u.heading = true :=
      (heading_of_inaug (sameBlock_of_forget still .inauguration (by simp))).trans head
    have closing (j : SideId) : u.sideState j = if j = i then .closing else s.sideState j := by
      unfold State.sideState
      rw [← hu, raise_door, modDoor_door, side_setSide]
      split <;> rfl
    obtain ⟨b, c, asks⟩ := sourceChanged_asks heads
    have told (j : SideId) : u.sourceChanged.sideState j = u.sideState j := by rw [asks]; rfl
    rw [sets]
    refine ⟨⟨?_, ⟨b, c, ?_⟩, ?_, fun j n => ?_⟩, ?_⟩
    · exact (forget_sourceChanged_head _ heads (by simp [headSideBlocks])).trans
        (forget_mono still (by simp [headSideBlocks]))
    · rw [asks, modCycle_cycle, show u.cycle = s.cycle from sameBlock_of_forget still .cycle (by simp)]
    · rw [asks]
      refine OnlyRaises.trans ?_ (onlyRaises_of_port (s := u) fun _ => by simp)
      rw [← hu]
      exact (onlyRaises_of_port fun _ => by simp).trans (raise_onlyRaises _ _)
    · rw [told, closing]
      split
      · decide
      · exact n
    · rw [told, closing, if_pos rfl]
      decide

theorem fromReleased_closes (i : SideId) (head : s.heading = true) :
    SidesClose s (s.fromReleased .closing i) ∧ (s.fromReleased .closing i).sideState i ≠ .released := by
  unfold State.fromReleased
  split
  · exact setSide_closes i head
  · next n => exact ⟨.refl s, n⟩

/-- Head Flags with Standstill clear close every RELEASED side (R96). -/
theorem headFlags_closes (head : s.heading = true) :
    SidesClose s (s.headFlags false) ∧ ∀ i, (s.headFlags false).sideState i ≠ .released := by
  obtain ⟨first, closed1⟩ := fromReleased_closes .side1 head
  obtain ⟨second, closed2⟩ := fromReleased_closes (s := s.fromReleased .closing .side1) .side2
    ((heading_of_inaug first.inaug).trans head)
  refine ⟨first.trans second, fun i => ?_⟩
  cases i with
  | side1 => exact second.closed .side1 closed1
  | side2 => exact closed2

/-- Head Flags at a head, whatever its Standstill (R96). -/
theorem headFlags_sides (b : Bool) (head : s.heading = true) : SidesClose s (s.headFlags b) := by
  cases b with
  | true => exact .refl s
  | false => exact (headFlags_closes head).1

/-! ## Origination -/

/-- The head on its way to the CALL: the next number is taken and the Head Flags are used (R68, R96). -/
def State.calling (s : State) : State :=
  (s.modCycle fun c => { c with number := nextWrap 65535 c.number, callRequested := false }).headFlags s.door.headStandstill

/-- The head with its own record appended to the CALL (R68, R70). -/
def State.called (s : State) : State := s.calling.appended (s.calling.placedRecord 1)

/-- The CALL that the head sends (R68). -/
def State.callFrame (s : State) (a : ActiveConsist) : Frame :=
  { kind := .call
    payload := a.identity.bytes ++ be16 (nextWrap 65535 s.cycle.number) ++ (if s.door.headStandstill then 1 else 0)
      :: be16 a.lineSilence ++ (s.calling.placedRecord 1).bytes }

theorem callHeader_bytes (s : State) (a : ActiveConsist) : (s.callHeader a).bytes
    = a.identity.bytes ++ be16 s.cycle.number ++ (if s.door.headStandstill then 1 else 0) :: be16 a.lineSilence := by
  unfold CallHeader.bytes State.callHeader flagBit
  rfl

theorem originate_long {a : ActiveConsist} (n : a.length ≠ 1) :
    s.originate a = (s.called.place a.tailward .cycle (s.callFrame a)).modCycle fun c => { c with state := .callOut } := by
  unfold State.originate
  simp only
  rw [if_neg n, callHeader_bytes]
  rfl

theorem originate_alone {a : ActiveConsist} (n : a.length = 1) :
    s.originate a = (s.called.callLeaves a).evaluateReturn a false [s.calling.placedRecord 1] := by
  unfold State.originate
  simp only
  rw [if_pos n]
  rfl

theorem callOriginate_due {a : ActiveConsist} (ha : s.active = some a) (due : s.callDue a = true)
    (free : s.orderWaits a = false) : s.callOriginate = s.originate a := by
  unfold State.callOriginate
  rw [ha]
  exact if_pos (by rw [due, free]; rfl)

theorem callOriginate_idle {a : ActiveConsist} (ha : s.active = some a)
    (idle : s.callDue a = false ∨ s.orderWaits a = true) : s.callOriginate = s := by
  unfold State.callOriginate
  rw [ha]
  exact if_neg (by rcases idle with h | h <;> simp [h])

theorem heading_of_callDue {a : ActiveConsist} (due : s.callDue a = true) : s.heading = true := by
  unfold State.callDue at due
  simp only [Bool.and_eq_true] at due
  obtain ⟨⟨head, -⟩, -⟩ := due
  exact head

theorem placedRecord_congr (n : Nat) (door : t.door = s.door) (stage : t.stage = s.stage) (power : t.power = s.power) :
    t.placedRecord n = s.placedRecord n := by
  unfold State.placedRecord State.nodeFlags State.appliedPower State.ready
  rw [door, stage, power]

/-- The head with its record appended (R68, R70, R96). -/
theorem called_items (head : s.heading = true) :
    s.called.forget headSideBlocks = s.forget headSideBlocks
      ∧ (∃ c, s.called.cycle = { s.cycle with
          number := nextWrap 65535 s.cycle.number, callRequested := c, lastAppended := some (s.calling.placedRecord 1)
          statusRaised := false } ∧ (s.door.headStandstill = true → c = false))
      ∧ s.called.door = s.calling.door ∧ (s.door.headStandstill = true → s.calling.door = s.door)
      ∧ (s.door.headStandstill = false → ∀ i, s.calling.sideState i ≠ .released) ∧ OnlyRaises s s.called := by
  generalize hu : (s.modCycle fun c => { c with number := nextWrap 65535 c.number, callRequested := false }) = u
  have heads : u.heading = true := by rw [← hu]; exact head
  have calls : s.calling = u.headFlags s.door.headStandstill := by rw [← hu]; rfl
  have sides := headFlags_sides s.door.headStandstill heads
  rw [← calls] at sides
  obtain ⟨b, c, cycle⟩ := sides.cycle
  have number : u.forget [.cycle] = s.forget [.cycle] := by rw [← hu]; simp
  have rises : OnlyRaises s u := by rw [← hu]; exact onlyRaises_of_port fun _ => by simp
  have appends : OnlyRaises s.calling s.called := onlyRaises_of_port fun _ => by simp [State.called, State.appended]
  have held (still : s.door.headStandstill = true) : s.calling = u := by rw [calls, still]; rfl
  refine ⟨?_, ⟨if s.door.headStandstill then false else c, ?_, fun still => if_pos still⟩, rfl, fun still => ?_,
    fun moving => ?_, (rises.trans sides.flags).trans appends⟩
  · refine Eq.trans ?_ (sides.rest.trans (forget_mono number (by simp [headSideBlocks])))
    simp [State.called, headSideBlocks]
  · have base : s.calling.cycle = { s.cycle with
        number := nextWrap 65535 s.cycle.number, statusRaised := s.calling.cycle.statusRaised
        callRequested := if s.door.headStandstill then false else c } := by
      by_cases still : s.door.headStandstill = true
      · rw [held still, if_pos still, ← hu]; rfl
      · rw [if_neg still, cycle, ← hu]; rfl
    have appends : s.called.cycle = { s.calling.cycle with
        lastAppended := some (s.calling.placedRecord 1), statusRaised := false } := rfl
    rw [appends, base]
  · rw [held still, ← hu]; rfl
  · rw [calls, moving]
    exact (headFlags_closes heads).2

/-- A CALL that leaves a head with vehicles behind it (R68, R69). -/
theorem originate_long_items {a : ActiveConsist} (head : s.heading = true) (n : a.length ≠ 1) :
    let t := s.originate a
    t.cycle.number = nextWrap 65535 s.cycle.number ∧ t.cycle.state = .callOut ∧ t.cycle.statusRaised = false
      ∧ t.cycle.lastAppended = some (t.placedRecord 1)
      ∧ (s.door.headStandstill = true → t.cycle.callRequested = false ∧ t.door = s.door)
      ∧ (s.door.headStandstill = false → ∀ i, t.sideState i ≠ .released)
      ∧ (SlotFree s a.tailward .cycle → InSlot t a.tailward .cycle
          { kind := .call
            payload := a.identity.bytes ++ be16 (nextWrap 65535 s.cycle.number) ++ (if s.door.headStandstill then 1 else 0)
              :: be16 a.lineSilence ++ (t.placedRecord 1).bytes })
      ∧ OnlyRaises s t ∧ OnlyChanges [.cycle, .door, .endOf a.tailward, .portOf .portA, .portOf .portB] s t := by
  obtain ⟨still, ⟨c, cycle, asked⟩, door, held, closed, rises⟩ := called_items head
  obtain ⟨-, doorP, -, cycleP, -, powerP, -⟩ := place_rest s.called a.tailward .cycle (s.callFrame a)
  simp only
  rw [originate_long n]
  generalize ht : (s.called.place a.tailward .cycle (s.callFrame a)).modCycle (fun k => { k with state := .callOut }) = t
  have placed : t.forget [.cycle, .endOf a.tailward] = s.called.forget [.cycle, .endOf a.tailward] := by rw [← ht]; simp
  have doorT : t.door = s.calling.door := (sameBlock_of_forget placed .door (by simp)).trans door
  have record : t.placedRecord 1 = s.calling.placedRecord 1 :=
    placedRecord_congr 1 doorT (sameBlock_of_forget placed .stages (by simp)) (sameBlock_of_forget placed .power (by simp))
  have cycleT : t.cycle = { s.called.cycle with state := .callOut } := by rw [← ht, modCycle_cycle, cycleP]
  rw [cycleT, cycle, record]
  refine ⟨rfl, rfl, rfl, rfl, fun yes => ⟨asked yes, doorT.trans (held yes)⟩, fun no i => ?_, fun free => ?_, ?_, ?_⟩
  · unfold State.sideState
    rw [doorT]
    exact closed no i
  · have ends : s.called.lineEnd a.tailward = s.lineEnd a.tailward :=
      sameBlock_of_forget still (.endOf a.tailward) (by simp [headSideBlocks])
    have inSlot := place_inSlot _ _ _ (s.callFrame a) (slotFree_of_lineEnd ends free)
    rw [← ht]
    unfold InSlot at inSlot ⊢
    rw [lineEnd_modCycle]
    exact inSlot
  · refine rises.trans (onlyRaises_of_port fun p => ?_)
    cases p with
    | portA => exact sameBlock_of_forget placed (.portOf .portA) (by simp)
    | portB => exact sameBlock_of_forget placed (.portOf .portB) (by simp)
  · rw [onlyChanges_iff_forget]
    exact (forget_mono placed (by simp)).trans (forget_mono still (by simp [headSideBlocks]))

/-! ## A RETURN that is successful -/

/-- The node after the Door Unit and the Grant Engine have had their parts of a RETURN (R75). -/
def State.heard (s : State) (a : ActiveConsist) (records : List CycleRecord) : State :=
  (s.doorReturn a records).grantReturn a records

theorem shed_modCycle (g : Cycle → Cycle) (a : ActiveConsist) : (s.modCycle g).shed a = (s.shed a).modCycle g := by
  by_cases same : (shedTable a.entries s.grants.budget s.grants.table).map (·.grant) = s.grants.table.map (·.grant)
  · refine (if_pos same).trans (Eq.trans ?_ (congrArg (State.modCycle · g) (if_pos same)).symm)
    rfl
  · refine (if_neg same).trans (Eq.trans ?_ (congrArg (State.modCycle · g) (if_neg same)).symm)
    rfl

theorem grantReturn_modCycle (g : Cycle → Cycle) (a : ActiveConsist) (records : List CycleRecord) :
    (s.modCycle g).grantReturn a records = (s.grantReturn a records).modCycle g := by
  have grants : (s.modCycle g).grants = s.grants := rfl
  have sheds (m : GrantEngine → GrantEngine) : ((s.modCycle g).modGrants m).shed a = ((s.modGrants m).shed a).modCycle g :=
    shed_modCycle (s := s.modGrants m) g a
  have lowers (m : GrantEngine → GrantEngine) : (s.modCycle g).modGrants m = (s.modGrants m).modCycle g := rfl
  have raises (u : State) : (u.modCycle g).raiseGrants a = (u.raiseGrants a).modCycle g := rfl
  unfold State.grantReturn
  rw [grants]
  generalize unseeded s.grants.table = first
  cases first with
  | true =>
    simp only [if_true]
    rw [sheds, raises]
  | false =>
    simp only [Bool.false_eq_true, if_false]
    rw [lowers, raises]

theorem heard_modCycle {g : Cycle → Cycle} (blind : DoorBlind g) (a : ActiveConsist) (records : List CycleRecord) :
    (s.modCycle g).heard a records = (s.heard a records).modCycle g := by
  unfold State.heard
  rw [doorReturn_modCycle blind, grantReturn_modCycle]

/-- The blocks that a RETURN at the Door Unit and the Grant Engine reaches (R75). -/
def heardBlocks (a : ActiveConsist) : List Block := .grants :: doorReturnBlocks a

theorem forget_heard (s : State) (a : ActiveConsist) (records : List CycleRecord) :
    (s.heard a records).forget (heardBlocks a) = s.forget (heardBlocks a) := by
  refine Eq.trans ?_ (forget_mono (forget_doorReturn_tail s a records) fun b hb => by simp [heardBlocks, hb])
  simp [State.heard, heardBlocks, doorReturnBlocks]

/-- The Grant Engine's part leaves the Door Unit alone (R126). -/
theorem heard_doorReturn (s : State) (a : ActiveConsist) (records : List CycleRecord) :
    (s.heard a records).track = (s.doorReturn a records).track ∧ (s.heard a records).door = (s.doorReturn a records).door
      ∧ ∀ d, (s.heard a records).lineEnd d = (s.doorReturn a records).lineEnd d := by
  have still : (s.heard a records).forget [.grants, .portOf .portA, .portOf .portB]
      = (s.doorReturn a records).forget [.grants, .portOf .portA, .portOf .portB] := by simp [State.heard]
  exact ⟨sameBlock_of_forget still .tracking (by simp), sameBlock_of_forget still .door (by simp),
    fun d => sameBlock_of_forget still (.endOf d) (by simp)⟩

theorem heard_grants (s : State) (a : ActiveConsist) (records : List CycleRecord) :
    (s.heard a records).grants = (s.grantReturn a records).grants :=
  grants_grantReturn (sameBlock_of_forget (forget_doorReturn_tail s a records) .grants (by simp [doorReturnBlocks]))

/-- The Cycle source of both Ends is as it was (R12). -/
def CycleSlotsKept (s t : State) : Prop :=
  ∀ d, (t.lineEnd d).link = (s.lineEnd d).link ∧ (t.lineEnd d).slots.get .cycle = (s.lineEnd d).slots.get .cycle

theorem CycleSlotsKept.trans {u : State} (h : CycleSlotsKept s t) (k : CycleSlotsKept t u) : CycleSlotsKept s u :=
  fun d => ⟨(k d).1.trans (h d).1, (k d).2.trans (h d).2⟩

theorem cycleSlotsKept_of_ends (h : ∀ d, t.lineEnd d = s.lineEnd d) : CycleSlotsKept s t :=
  fun d => by rw [h d]; exact ⟨rfl, rfl⟩

theorem CycleSlotsKept.free {e : EndId} (h : CycleSlotsKept s t) (free : SlotFree s e .cycle) : SlotFree t e .cycle := by
  unfold SlotFree at free ⊢
  rw [(h e).1, (h e).2]
  exact free

theorem placeOrder_keepsCycleSlots (s : State) (a : ActiveConsist) (f : Frame) : CycleSlotsKept s (s.placeOrder a f) := by
  unfold State.placeOrder
  split
  · exact cycleSlotsKept_of_ends fun d => sameBlock_of_forget (L := [.moments, .door, .tracking, .portOf .portA
      , .portOf .portB]) (by simp) (.endOf d) (by simp)
  · exact fun d => ⟨link_place _ _ _ _ d, slots_place _ _ _ (by decide) d⟩

/-- The orders that a RETURN makes the head repeat wait in the Door source (R113). -/
theorem heard_keepsCycleSlots (s : State) (a : ActiveConsist) (records : List CycleRecord) :
    CycleSlotsKept s (s.heard a records) := by
  have repeats (u : State) (r : OutstandingOrder) : CycleSlotsKept u (u.repeatOrLose a r) := by
    unfold State.repeatOrLose
    split
    · exact cycleSlotsKept_of_ends fun _ => rfl
    · split
      · exact cycleSlotsKept_of_ends fun _ => by simp
      · exact (cycleSlotsKept_of_ends fun _ => by simp).trans (placeOrder_keepsCycleSlots _ _ _)
  have completes (u : State) : CycleSlotsKept u u.checkComplete :=
    cycleSlotsKept_of_ends fun d => sameBlock_of_forget (L := [.tracking, .portOf .portA, .portOf .portB]) (by simp)
      (.endOf d) (by simp)
  have echoes (u : State) : CycleSlotsKept u (u.readEchoes a records) := by
    unfold State.readEchoes
    split
    · split
      · exact ((cycleSlotsKept_of_ends fun _ => by simp).trans (repeats _ _)).trans (completes _)
      · exact cycleSlotsKept_of_ends fun _ => rfl
    · exact cycleSlotsKept_of_ends fun _ => rfl
  have proves (u : State) : CycleSlotsKept u (u.evaluateProof a.length records) :=
    cycleSlotsKept_of_ends fun d => sameBlock_of_forget (L := [.tracking, .portOf .portA, .portOf .portB]) (by simp)
      (.endOf d) (by simp)
  have door : CycleSlotsKept s (s.doorReturn a records) := by
    unfold State.doorReturn
    exact ((cycleSlotsKept_of_ends fun _ => by simp).trans (echoes _)).trans (proves _)
  exact door.trans (cycleSlotsKept_of_ends (heard_doorReturn s a records).2.2)

/-- A RETURN leaves Standstill of the head alone (R98, R99). -/
theorem heard_headStandstill (s : State) (a : ActiveConsist) (records : List CycleRecord) :
    (s.heard a records).door.headStandstill = s.door.headStandstill := by
  have places (u : State) (f : Frame) : (u.placeOrder a f).door.headStandstill = u.door.headStandstill := by
    unfold State.placeOrder
    split
    · unfold State.orderLeaves
      simp only
      split
      · rw [unprove_door]; rfl
      · rfl
    · rw [(place_rest _ _ _ _).2.1]
  have repeats (u : State) (r : OutstandingOrder) : (u.repeatOrLose a r).door.headStandstill = u.door.headStandstill := by
    unfold State.repeatOrLose
    split
    · rfl
    · split
      · rfl
      · rw [places]; rfl
  have completes (u : State) : u.checkComplete.door = u.door :=
    sameBlock_of_forget (L := [.tracking, .portOf .portA, .portOf .portB]) (by simp) .door (by simp)
  have echoes (u : State) : (u.readEchoes a records).door.headStandstill = u.door.headStandstill := by
    unfold State.readEchoes
    split
    · split
      · simp only
        rw [completes, repeats]; rfl
      · rfl
    · rfl
  have proves (u : State) : (u.evaluateProof a.length records).door = u.door :=
    sameBlock_of_forget (L := [.tracking, .portOf .portA, .portOf .portB]) (by simp) .door (by simp)
  rw [(heard_doorReturn s a records).2.1]
  unfold State.doorReturn
  simp only
  rw [proves, echoes]
  rfl

/-! ## How a RETURN is judged and answered -/

theorem judgeReturn_eq (length : Nat) (short : Bool) (records : List CycleRecord) : judgeReturn length short records =
    if 0 ∈ records.map (fun r => r.position.toNat) then some .unplaced
    else if short = true then some .short
    else if records.map (fun r => r.position.toNat) ≠ (List.range length).map (· + 1) then some .count
    else none := by
  have unplaced : (records.any fun r => decide (r.position = 0)) = true ↔ 0 ∈ records.map fun r => r.position.toNat := by
    simp only [List.any_eq_true, decide_eq_true_eq, List.mem_map]
    refine exists_congr fun r => and_congr_right fun _ => ⟨fun zero => by rw [zero]; rfl, fun zero => ?_⟩
    exact BitVec.eq_of_toNat_eq zero
  unfold judgeReturn
  simp only [unplaced]

theorem evaluateReturn_none {a : ActiveConsist} {short : Bool} {records : List CycleRecord}
    (h : judgeReturn a.length short records = none) : s.evaluateReturn a short records
      = ((s.heard a records).modCycle fun c => { c with failures := 0 }).settle a false records := by
  have commutes := heard_modCycle (s := s) (g := fun c => { c with failures := 0 }) (fun _ => ⟨rfl, rfl, rfl⟩) a records
  unfold State.evaluateReturn
  rw [h, ← commutes]
  rfl

theorem evaluateReturn_some {a : ActiveConsist} {short : Bool} {records : List CycleRecord} {c : CycleFailure}
    (h : judgeReturn a.length short records = some c) : s.evaluateReturn a short records = s.returnFails a c records := by
  unfold State.evaluateReturn
  rw [h]

/-- The SETTLE that answers a RETURN agrees with what the head takes from it for itself (R78, R131, R132). -/
theorem settle_settled {a : ActiveConsist} {failed : Bool} {records : List CycleRecord} (head : s.heading = true) :
    let t := s.settle a failed records
    t.cycle.lastSettle.map (fun l => (l.cycleNumber, l.nextMode, l.proof))
        = some (s.cycle.number, t.cycle.nextMode.code, if t.track.proved then 1 else 0)
      ∧ t.cycle.state = (if t.cycle.nextMode = .continuous then .idleContinuous else .idleQuiet)
      ∧ (SlotFree s a.headward.other .cycle → InSlot t a.headward.other .cycle
          { kind := .settle
            payload := a.identity.bytes ++ be16 s.cycle.number ++ t.cycle.nextMode.code
              :: (if t.track.proved then 1 else 0)
              :: t.grants.table.map fun g => byteOf (if g.seeded then g.grant else 255) }) := by
  obtain ⟨⟨b, c, cycle⟩, ⟨x, grants⟩, still, ends⟩ := settle_items (a := a) (failed := failed) (records := records) head
  have track : (s.settle a failed records).track = s.track :=
    sameBlock_of_forget still .tracking (by simp [ownSettleBlocks])
  simp only
  rw [cycle, grants, track]
  refine ⟨?_, ?_, fun free => ?_⟩
  · unfold State.ownSettle flagBit
    rfl
  · simp only
    cases s.paceAfter failed records <;> rfl
  · have inSlot := place_inSlot _ _ _ (s.ownSettleFrame a failed records) free
    unfold InSlot at inSlot ⊢
    rw [ends, inSlot]
    unfold State.ownSettleFrame settleFrame flagBit
    rw [List.map_map]
    rfl

/-- The idle state that matches a pace (R78). -/
def NextMode.idle (mode : NextMode) : CycleState := if mode = .quiet then .idleQuiet else .idleContinuous

/-- What a successful RETURN leaves at the head (R75, R78, R126, R132). -/
theorem evaluateReturn_success {a : ActiveConsist} {short : Bool} {records : List CycleRecord} (head : s.heading = true)
    (h : judgeReturn a.length short records = none) :
    let t := s.evaluateReturn a short records
    let x := (s.heard a records).modCycle fun c => { c with failures := 0 }
    let mode := x.paceAfter false records
    t = x.settle a false records ∧ x.heading = true ∧ x.cycle = { s.cycle with failures := 0 }
      ∧ (∃ b c, t.cycle = { s.cycle with
          failures := 0, nextMode := mode, state := mode.idle
          lastSettle := some (x.ownSettle mode), statusRaised := b, callRequested := c })
      ∧ t.inaug = s.inaug ∧ t.track = (s.heard a records).track ∧ t.door = (s.heard a records).door
      ∧ (∃ y, t.grants = { (s.heard a records).grants with takenGrant := y })
      ∧ (SlotFree s a.headward.other .cycle → SlotFree x a.headward.other .cycle)
      ∧ t.forget (.cycle :: .stages :: heardBlocks a) = s.forget (.cycle :: .stages :: heardBlocks a) := by
  have heard := forget_heard s a records
  have cycle : (s.heard a records).cycle = s.cycle :=
    sameBlock_of_forget heard .cycle (by simp [heardBlocks, doorReturnBlocks])
  have inaug : (s.heard a records).inaug = s.inaug :=
    sameBlock_of_forget heard .inauguration (by simp [heardBlocks, doorReturnBlocks])
  have heads : ((s.heard a records).modCycle fun c => { c with failures := 0 }).heading = true :=
    (heading_of_inaug inaug).trans head
  obtain ⟨⟨b, c, settles⟩, ⟨y, grants⟩, still, -⟩ := settle_items (a := a) (failed := false) (records := records) heads
  have keeps := heard_keepsCycleSlots s a records
  simp only
  rw [evaluateReturn_none h]
  refine ⟨rfl, heads, by rw [modCycle_cycle, cycle], ⟨b, c, ?_⟩, ?_, ?_, ?_, ⟨y, grants⟩, fun free => ?_, ?_⟩
  · rw [settles, modCycle_cycle, cycle]
    rfl
  · exact (sameBlock_of_forget still .inauguration (by simp [ownSettleBlocks])).trans inaug
  · exact sameBlock_of_forget still .tracking (by simp [ownSettleBlocks])
  · exact sameBlock_of_forget still .door (by simp [ownSettleBlocks])
  · exact slotFree_of_lineEnd (lineEnd_modCycle _ _ _) (keeps.free free)
  · refine (forget_mono still (by simp [ownSettleBlocks, heardBlocks, doorReturnBlocks])).trans ?_
    rw [forget_modCycle _ _ _ (by simp)]
    exact forget_mono heard fun b hb => by simp [hb]

theorem timerMs_eq (s : State) (n : Nat) : s.timerMs n = some (s.now + n * 1000) := by
  unfold State.timerMs State.timerUs Config.ms
  rfl

/-- A CALL at a head without other vehicles is its own RETURN (R68). -/
theorem originate_alone_items {a : ActiveConsist} (head : s.heading = true) (n : a.length = 1) :
    let t := s.originate a
    t.cycle.number = nextWrap 65535 s.cycle.number ∧ t.cycle.failures = 0 ∧ t.cycle.cycleTimeout = none
      ∧ t.cycle.periodTimer = some (s.now + s.cycle.timing.cyclePeriod * 1000)
      ∧ t.cycle.refreshTimer = some (s.now + s.cycle.timing.quietRefresh * 1000)
      ∧ (t.cycle.state = .idleContinuous ∨ t.cycle.state = .idleQuiet)
      ∧ t.cycle.lastSettle.map (·.cycleNumber) = some (nextWrap 65535 s.cycle.number)
      ∧ OnlyChanges [.moments, .cycle, .door, .tracking, .grants, .stages, .endOf a.tailward, .portOf .portA
          , .portOf .portB] s t := by
  obtain ⟨still, ⟨c, cycle, -⟩, -⟩ := called_items head
  have now : s.called.now = s.now := sameBlock_of_forget still .clock (by simp [headSideBlocks])
  have leaves : (s.called.callLeaves a).forget [.moments, .cycle] = s.called.forget [.moments, .cycle] := by simp
  have inaug : (s.called.callLeaves a).inaug = s.inaug :=
    (sameBlock_of_forget leaves .inauguration (by simp)).trans
      (sameBlock_of_forget still .inauguration (by simp [headSideBlocks]))
  have whole : judgeReturn a.length false [s.calling.placedRecord 1] = none := by
    rw [n, judgeReturn_eq]
    rfl
  obtain ⟨-, -, number, ⟨b, d, settled⟩, -, -, -, -, -, changes⟩ :=
    evaluateReturn_success ((heading_of_inaug inaug).trans head) whole
  have timers : (s.called.callLeaves a).cycle = { s.called.cycle with
      lastCallLeft := some s.called.moment, cycleTimeout := none
      periodTimer := s.called.timerMs s.called.cycle.timing.cyclePeriod
      refreshTimer := s.called.timerMs s.called.cycle.timing.quietRefresh } := by
    unfold State.callLeaves
    rw [if_pos n]
    rfl
  simp only
  rw [originate_alone n, settled]
  unfold State.ownSettle
  rw [number, timers, cycle, timerMs_eq, timerMs_eq, now]
  refine ⟨rfl, rfl, rfl, rfl, rfl, ?_, rfl, ?_⟩
  · unfold NextMode.idle
    split
    · exact Or.inr rfl
    · exact Or.inl rfl
  · rw [onlyChanges_iff_forget]
    refine (forget_mono changes (by simp [heardBlocks, doorReturnBlocks, ActiveConsist.tailward])).trans ?_
    exact (forget_mono leaves (by simp)).trans (forget_mono still (by simp [headSideBlocks]))

end Sys2Proof.Machine

/-! SUPPORT. The RETURN at the head: taken, judged and answered (R74, R75, R77, R78); O41. -/

namespace Sys2Proof.Machine

variable {s t : State}

theorem handOn_ret {e : EndId} {f : Frame} (h : f.kind = .ret) :
    s.handOn e f = if s.heading then s.receiveReturn e f.payload else s.passThrough e.other f := by
  unfold State.handOn
  rw [h]

/-- A RETURN that ends at a node that is no head (R15, R74). -/
theorem handOn_ret_away {e : EndId} {f : Frame} (h : f.kind = .ret) (away : s.heading = false) :
    s.handOn e f = s.passThrough e.other f
      ∧ (s.usable e.other = false → s.handOn e f = s.modEnd e.other (·.countDrops 1)) := by
  have passes : s.handOn e f = s.passThrough e.other f := by
    rw [handOn_ret h, away]
    rfl
  refine ⟨passes, fun u => ?_⟩
  rw [passes]
  refine passThrough_dropped u ?_
  rintro ⟨-, msg, -⟩
  rw [h] at msg
  cases msg

/-- A RETURN fits the CALL that is out (R74). -/
def State.awaitsReturn (s : State) (a : ActiveConsist) (e : EndId) (p : List Byte) : Prop :=
  s.cycle.state = .callOut ∧ e = a.headward.other ∧ identityAt p 0 = a.identity ∧ num16 p 6 = s.cycle.number

theorem takesReturn_iff {a : ActiveConsist} {e : EndId} {p : List Byte} (head : s.heading = true) :
    s.takesReturn a e p = true ↔ s.awaitsReturn a e p := by
  unfold State.takesReturn State.awaitsReturn ActiveConsist.tailward
  simp only [head, Bool.true_and, Bool.and_eq_true, decide_eq_true_eq, and_assoc]

theorem handOn_ret_stray {a : ActiveConsist} {e : EndId} {f : Frame} (h : f.kind = .ret) (head : s.heading = true)
    (ha : s.active = some a) (stray : ¬s.awaitsReturn a e f.payload) : s.handOn e f = s := by
  rw [handOn_ret h, if_pos head, State.receiveReturn, ha]
  exact if_neg fun takes => stray ((takesReturn_iff head).1 takes)

/-- The head whose CALL has come back (R74, R76). -/
def State.answered (s : State) : State := s.modCycle fun c => { c with cycleTimeout := none }

theorem handOn_ret_taken {a : ActiveConsist} {e : EndId} {f : Frame} (h : f.kind = .ret) (head : s.heading = true)
    (ha : s.active = some a) (taken : s.awaitsReturn a e f.payload) :
    s.handOn e f = s.answered.evaluateReturn a (returnShort f.payload) (returnRecords f.payload) := by
  rw [handOn_ret h, if_pos head, State.receiveReturn, ha]
  exact if_pos ((takesReturn_iff head).2 taken)

/-- What keeps the cycle in the Continuous pace after a successful RETURN (R78). -/
def State.keepsPace (s : State) (records : List CycleRecord) : Prop :=
  s.door.headStandstill = false ∨ (∃ r ∈ records, r.doorOpen = true) ∨ s.track.outstanding.map (·.complete) = some false
    ∨ (∃ g ∈ s.grants.table, g.withheld = true) ∨ (∀ g ∈ s.grants.table, g.seeded = false)
    ∨ s.cycle.timing.continuousOnly = true

theorem continuousNext_iff (s : State) (records : List CycleRecord) :
    s.continuousNext false records = true ↔ s.keepsPace records := by
  have withheld : decide (0 < withheldCount s.grants.table) = true ↔ ∃ g ∈ s.grants.table, g.withheld = true := by
    unfold withheldCount
    rw [decide_eq_true_eq, List.length_pos_iff_exists_mem]
    simp only [List.mem_filter]
  have fresh : unseeded s.grants.table = true ↔ ∀ g ∈ s.grants.table, g.seeded = false := by
    unfold unseeded
    simp
  unfold State.continuousNext State.keepsPace
  simp only [Bool.or_eq_true, withheld, fresh, Bool.false_or, Bool.not_eq_true', List.any_eq_true, or_assoc]
  cases s.track.outstanding <;> simp

theorem paceAfter_iff (s : State) (records : List CycleRecord) :
    s.paceAfter false records = .continuous ↔ s.keepsPace records := by
  rw [← continuousNext_iff]
  unfold State.paceAfter
  cases s.continuousNext false records <;> simp

theorem paceAfter_failed (s : State) (records : List CycleRecord) : s.paceAfter true records = .continuous := rfl

theorem keepsPace_congr {records : List CycleRecord} (still : t.door.headStandstill = s.door.headStandstill)
    (track : t.track = s.track) (grants : t.grants.table = s.grants.table) (timing : t.cycle.timing = s.cycle.timing) :
    t.keepsPace records ↔ s.keepsPace records := by
  unfold State.keepsPace
  rw [still, track, grants, timing]

/-- A taken RETURN that is successful (R75, R78, R126, R131). -/
theorem taken_success {a : ActiveConsist} {short : Bool} {records : List CycleRecord} (head : s.heading = true)
    (h : judgeReturn a.length short records = none) :
    let t := s.answered.evaluateReturn a short records
    t.cycle.failures = 0 ∧ t.cycle.lastFailure = s.cycle.lastFailure ∧ t.cycle.cycleTimeout = none
      ∧ t.track = (s.doorReturn a records).track ∧ t.door = (s.doorReturn a records).door
      ∧ t.grants.table = (s.grantReturn a records).grants.table ∧ t.grants.room = (s.grantReturn a records).grants.room
      ∧ (t.cycle.nextMode = .continuous ↔ t.keepsPace records) ∧ t.door.headStandstill = s.door.headStandstill
      ∧ t.cycle.timing = s.cycle.timing ∧ t.inaug = s.inaug := by
  have heard : s.answered.heard a records = (s.heard a records).answered :=
    heard_modCycle (g := fun c => { c with cycleTimeout := none }) (fun _ => ⟨rfl, rfl, rfl⟩) a records
  obtain ⟨heardTrack, heardDoor, -⟩ := heard_doorReturn s a records
  have heardGrants := heard_grants s a records
  have standstill := heard_headStandstill s a records
  obtain ⟨-, -, number, ⟨b, c, cycle⟩, inaug, track, door, ⟨y, grants⟩, -, -⟩ :=
    evaluateReturn_success (s := s.answered) head h
  rw [heard] at number cycle track door grants
  generalize s.answered.evaluateReturn a short records = t at cycle inaug track door grants ⊢
  generalize s.heard a records = x at heardTrack heardDoor heardGrants standstill number cycle track door grants
  have trackT : t.track = x.track := track
  have doorT : t.door = x.door := door
  have tableT : t.grants.table = x.grants.table := (congrArg GrantEngine.table grants).trans rfl
  have roomT : t.grants.room = x.grants.room := (congrArg GrantEngine.room grants).trans rfl
  have timingT : t.cycle.timing = s.cycle.timing := (congrArg Cycle.timing cycle).trans rfl
  refine ⟨(congrArg Cycle.failures cycle).trans rfl, (congrArg Cycle.lastFailure cycle).trans rfl,
    (congrArg Cycle.cycleTimeout cycle).trans rfl,
    trackT.trans heardTrack, doorT.trans heardDoor, by rw [tableT, heardGrants], by rw [roomT, heardGrants], ?_,
    by rw [doorT, standstill], timingT, inaug⟩
  rw [show t.cycle.nextMode = _ from congrArg Cycle.nextMode cycle, paceAfter_iff]
  have timingX : x.cycle.timing = s.cycle.timing := Eq.trans rfl ((congrArg Cycle.timing number).trans rfl)
  exact (keepsPace_congr (by rw [doorT]) trackT tableT (timingT.trans timingX.symm)).symm

/-- A failure that is counted (R77). -/
theorem countFailure_items (s : State) (c : CycleFailure) :
    (s.countFailure c).cycle = { s.cycle with failures := min 3 (s.cycle.failures + 1), lastFailure := some c }
      ∧ (s.countFailure c).forget [.cycle, .portOf .portA, .portOf .portB] = s.forget [.cycle, .portOf .portA, .portOf .portB] :=
  ⟨by unfold State.countFailure; rw [cycle_raise]; rfl, by simp⟩

theorem failureEnds_iff (s : State) (c : CycleFailure) :
    (s.countFailure c).failureEnds c = true ↔ c = .unplaced ∨ 2 ≤ s.cycle.failures := by
  unfold State.failureEnds
  rw [(countFailure_items s c).1]
  simp only [Bool.or_eq_true, decide_eq_true_eq]
  refine or_congr_right ?_
  omega

theorem returnFails_ends {a : ActiveConsist} {c : CycleFailure} {records : List CycleRecord}
    (ends : c = .unplaced ∨ 2 ≤ s.cycle.failures) : s.returnFails a c records = (s.countFailure c).reinaugurate :=
  if_pos ((failureEnds_iff s c).2 ends)

theorem returnFails_stays {a : ActiveConsist} {c : CycleFailure} {records : List CycleRecord}
    (stays : ¬(c = .unplaced ∨ 2 ≤ s.cycle.failures)) :
    s.returnFails a c records = (s.countFailure c).unprove.settle a true records :=
  if_neg fun ends => stays ((failureEnds_iff s c).1 ends)

/-- The failure of a cycle is told (R77). -/
theorem returnFails_raised (s : State) (a : ActiveConsist) (c : CycleFailure) (records : List CycleRecord) :
    RaisedAt .cycleFailure (s.returnFails a c records) := by
  have counts : Gentle ((s.modCycle fun k => { k with failures := min 3 (k.failures + 1), lastFailure := some c }).raise
      .cycleFailure) (s.countFailure c) := .refl _
  by_cases ends : c = .unplaced ∨ 2 ≤ s.cycle.failures
  · rw [returnFails_ends ends]
    exact counts.reinaugurate.raised
  · rw [returnFails_stays ends]
    exact counts.unprove.settle.raised

/-- A failing RETURN that does not end the consist (R77). -/
theorem returnFails_stays_items {a : ActiveConsist} {c : CycleFailure} {records : List CycleRecord} (head : s.heading = true)
    (stays : ¬(c = .unplaced ∨ 2 ≤ s.cycle.failures)) :
    let t := s.returnFails a c records
    let x := (s.countFailure c).unprove
    t = x.settle a true records ∧ x.heading = true ∧ x.cycle.number = s.cycle.number
      ∧ (SlotFree s a.headward.other .cycle → SlotFree x a.headward.other .cycle)
      ∧ t.track = { s.track with proved := false, lifetime := none } ∧ t.cycle.cycleTimeout = s.cycle.cycleTimeout
      ∧ t.cycle.failures = min 3 (s.cycle.failures + 1) ∧ t.cycle.lastFailure = some c
      ∧ t.grants.table = s.grants.table ∧ t.cycle.nextMode = .continuous ∧ t.inaug = s.inaug ∧ t.door = s.door := by
  obtain ⟨cycle, counted⟩ := countFailure_items s c
  generalize hx : (s.countFailure c).unprove = x
  have takes : x.forget [.tracking, .portOf .portA, .portOf .portB]
      = (s.countFailure c).forget [.tracking, .portOf .portA, .portOf .portB] := by rw [← hx]; simp
  have still : x.forget [.cycle, .tracking, .portOf .portA, .portOf .portB]
      = s.forget [.cycle, .tracking, .portOf .portA, .portOf .portB] :=
    (forget_mono takes (by simp)).trans (forget_mono counted (by simp))
  have cycleX : x.cycle = (s.countFailure c).cycle := sameBlock_of_forget takes .cycle (by simp)
  have trackX : x.track = { s.track with proved := false, lifetime := none } := by
    rw [← hx, track_unprove, show (s.countFailure c).track = s.track from sameBlock_of_forget counted .tracking (by simp)]
  have heads : x.heading = true := (heading_of_inaug (sameBlock_of_forget still .inauguration (by simp))).trans head
  obtain ⟨⟨b, d, settles⟩, ⟨y, grants⟩, rest, -⟩ := settle_items (a := a) (failed := true) (records := records) heads
  simp only
  rw [returnFails_stays stays, hx, settles, grants, cycleX, cycle]
  refine ⟨rfl, heads, rfl, slotFree_of_lineEnd (sameBlock_of_forget still (.endOf _) (by simp)), ?_, rfl, rfl, rfl, ?_,
    paceAfter_failed x records, ?_, ?_⟩
  · exact (sameBlock_of_forget rest .tracking (by simp [ownSettleBlocks])).trans trackX
  · rw [show x.grants = s.grants from sameBlock_of_forget still .grants (by simp)]
  · exact (sameBlock_of_forget rest .inauguration (by simp [ownSettleBlocks])).trans
      (sameBlock_of_forget still .inauguration (by simp))
  · exact (sameBlock_of_forget rest .door (by simp [ownSettleBlocks])).trans (sameBlock_of_forget still .door (by simp))

/-- A failing RETURN that ends the consist leaves no proof and no CALL out (R67, R77). -/
theorem returnFails_ends_stops {a : ActiveConsist} {c : CycleFailure} {records : List CycleRecord} (head : s.heading = true)
    (ha : s.active = some a) (ends : c = .unplaced ∨ 2 ≤ s.cycle.failures) :
    let t := s.returnFails a c records
    t.track.proved = false ∧ t.track.lifetime = none ∧ t.cycle.cycleTimeout = none := by
  obtain ⟨-, counted⟩ := countFailure_items s c
  have inaug : (s.countFailure c).inaug = s.inaug := sameBlock_of_forget counted .inauguration (by simp)
  simp only
  rw [returnFails_ends ends]
  exact reinaugurate_stops ((active_of_inaug inaug).trans ha) ((heading_of_inaug inaug).trans head)

/-- The head that begins again after a failing RETURN (R77). -/
theorem returnFails_ends_items {a : ActiveConsist} {c : CycleFailure} {records : List CycleRecord} {h : EndId}
    (head : s.heading = true) (ha : s.active = some a) (ends : c = .unplaced ∨ 2 ≤ s.cycle.failures)
    (claims : s.claimHeadward = some h) (o : (s.lineEnd h.other).link ≠ .opened) :
    let t := s.returnFails a c records
    t.cycle.failures = min 3 (s.cycle.failures + 1) ∧ t.cycle.lastFailure = some c ∧ t.grants.table = s.grants.table
      ∧ t.track.outstanding = s.track.outstanding ∧ t.claiming = true ∧ t.inaug.attempt = 1
      ∧ t.inaug.lastCause = some .countReception ∧ t.cycle.state = .none
      ∧ ∀ d, (t.lineEnd d).slots.cycle = (s.lineEnd d).slots.cycle.withdraw (ownCycleFrame a.identity) := by
  obtain ⟨cycle, counted⟩ := countFailure_items s c
  have inaug : (s.countFailure c).inaug = s.inaug := sameBlock_of_forget counted .inauguration (by simp)
  have lines (d : EndId) : (s.countFailure c).lineEnd d = s.lineEnd d := sameBlock_of_forget counted (.endOf d) (by simp)
  have chosen : (s.countFailure c).claimHeadward = some h := by
    have first : (s.countFailure c).end1 = s.end1 := lines .end1
    have second : (s.countFailure c).end2 = s.end2 := lines .end2
    unfold State.claimHeadward at claims ⊢
    rw [first, second]
    exact claims
  obtain ⟨claiming, attempt, cause, stopped, failures, last, table, order, slots⟩ :=
    reinaugurate_attempts ((active_of_inaug inaug).trans ha) ((heading_of_inaug inaug).trans head) chosen
      (by rw [lines]; exact o)
  simp only
  rw [returnFails_ends ends, failures, last, table, order, cycle,
    show (s.countFailure c).grants = s.grants from sameBlock_of_forget counted .grants (by simp),
    show (s.countFailure c).track = s.track from sameBlock_of_forget counted .tracking (by simp)]
  exact ⟨rfl, rfl, rfl, rfl, claiming, attempt, cause, stopped, fun d => by rw [slots, lines]⟩

/-- Settles O41: the RETURN that answers a CALL is judged, and the head settles, counts the failure or begins again. -/
theorem aDueCallIsOriginated : Obligations.ADueCallIsOriginated := by
  unfold Obligations.ADueCallIsOriginated
  refine ⟨fun s a free wakes ha => ?_, fun s e f kind away => handOn_ret_away kind away, fun s a e f kind head ha => ?_⟩
  · have runs : exec .callOriginate s = .next s.callOriginate := congrArg Host.Outcome.next (awake_of_free _ _ free wakes)
    simp only
    refine ⟨fun due noOrder => ?_, fun idle => ?_⟩
    · have heads := heading_of_callDue due
      rw [runs, callOriginate_due ha due noOrder]
      exact ⟨fun n => ⟨_, rfl, originate_long_items heads n⟩, fun n => ⟨_, rfl, originate_alone_items heads n⟩⟩
    · rw [runs, callOriginate_idle ha idle]
  · have judged := judgeReturn_eq a.length (returnShort f.payload) (returnRecords f.payload)
    simp only
    refine ⟨fun stray => handOn_ret_stray kind head ha stray, fun taken success => ?_, fun taken c fails => ?_, ?_⟩
    · have passes := judged.trans success
      rw [handOn_ret_taken kind head ha taken]
      obtain ⟨failures, last, timeout, track, door, table, room, mode, standstill, timing, inaug⟩ := taken_success head passes
      obtain ⟨settles, heads, number, -, -, -, -, -, free, -⟩ :=
        evaluateReturn_success (s := s.answered) (a := a) head passes
      obtain ⟨l, idle, inSlot⟩ := settle_settled (a := a) (failed := false) (records := returnRecords f.payload) heads
      rw [← settles] at l idle inSlot
      rw [number] at l inSlot
      unfold State.keepsPace at mode
      rw [standstill, timing] at mode
      obtain ⟨-, rfl, -⟩ := taken
      exact ⟨failures, last, timeout, track, door, by rw [table, room], mode, ⟨l, idle, fun empty =>
        inSlot (free (slotFree_of_lineEnd (lineEnd_modCycle _ _ _) empty))⟩, inaug⟩
    · have missed := judged.trans fails
      rw [handOn_ret_taken kind head ha taken, evaluateReturn_some missed]
      obtain ⟨-, rfl, -⟩ := taken
      refine ⟨returnFails_raised _ _ _ _, ?_⟩
      by_cases ends : c = .unplaced ∨ 2 ≤ s.cycle.failures
      · obtain ⟨proved, lifetime, timeout⟩ := returnFails_ends_stops (s := s.answered) (a := a)
          (records := returnRecords f.payload) head ha ends
        refine ⟨proved, lifetime, timeout, fun n low => ?_, fun _ h claims o => ?_⟩
        · rcases ends with c | many
          · exact absurd c n
          · omega
        · obtain ⟨failures, last, table, order, claiming, attempt, cause, stopped, slots⟩ :=
            returnFails_ends_items (s := s.answered) (a := a) (records := returnRecords f.payload) head ha ends claims
              (by rw [State.answered, lineEnd_modCycle]; exact o)
          refine ⟨⟨failures, last, table, order⟩, claiming, attempt, cause, stopped, ?_⟩
          rw [slots, State.answered, lineEnd_modCycle]
      · obtain ⟨settles, heads, number, free, track, timeout, failures, last, table, mode, inaug, door⟩ :=
          returnFails_stays_items (s := s.answered) (a := a) (c := c) (records := returnRecords f.payload) head ends
        obtain ⟨l, idle, inSlot⟩ := settle_settled (a := a) (failed := true) (records := returnRecords f.payload) heads
        rw [← settles] at l idle inSlot
        rw [number] at l inSlot
        have order := congrArg Tracking.outstanding track
        refine ⟨congrArg Tracking.proved track, congrArg Tracking.lifetime track, timeout, fun _ _ => ?_,
          fun final => absurd final ends⟩
        exact ⟨⟨failures, last, table, order⟩, mode, ⟨l, idle, fun empty =>
          inSlot (free (slotFree_of_lineEnd (lineEnd_modCycle _ _ _) empty))⟩, inaug, door⟩
    · rw [handOn_ret kind, if_pos head, onlyChanges_iff_forget]
      simp [roleBlocks]

end Sys2Proof.Machine

/-! SUPPORT. What the report of an End leaves at an End that holds no frame: no more than one frame of an inauguration
(R14, R20, R23). -/

namespace Sys2Proof.Machine

variable {s t : State}

/-! ## An End that holds no frame -/

/-- An End that holds no frame and has dropped none. -/
def LineEnd.cleared (l : LineEnd) : Prop := l.throughQueue = [] ∧ l.throughDrop = 0 ∧ l.slots = .empty

/-- An End that holds no frame but one of an inauguration, and has dropped none. -/
def LineEnd.begun (l : LineEnd) : Prop :=
  l.throughQueue = [] ∧ l.throughDrop = 0 ∧ (∀ x, x ≠ .inauguration → l.slots.get x = .empty) ∧ l.slots.inauguration.held = none

theorem slots_get_empty (x : Source) : Slots.empty.get x = .empty := by cases x <;> rfl

theorem begun_of_cleared {l : LineEnd} (h : l.cleared) : l.begun := by
  obtain ⟨queue, drops, slots⟩ := h
  refine ⟨queue, drops, fun x _ => ?_, ?_⟩
  · rw [slots, slots_get_empty]
  · rw [slots]; rfl

theorem cleared_withdraw {l : LineEnd} (h : l.cleared) (q : Frame → Bool) : (l.modSlot .cycle (·.withdraw q)).cleared := by
  obtain ⟨queue, drops, slots⟩ := h
  refine ⟨queue, drops, ?_⟩
  unfold LineEnd.modSlot
  rw [slots, slots_get_empty]
  rfl

/-- A frame of an inauguration is placed into an empty slot (R14). -/
theorem begun_placed {l : LineEnd} (h : l.cleared) (f : Frame) : (l.modSlot .inauguration (·.place f)).begun := by
  obtain ⟨queue, drops, slots⟩ := h
  refine ⟨queue, drops, fun x other => ?_, ?_⟩
  · unfold LineEnd.modSlot
    rw [slots, slots_get_set_ne _ _ _ _ other, slots_get_empty]
  · unfold LineEnd.modSlot
    rw [slots]
    rfl

theorem begun_place {e : EndId} (h : (s.lineEnd e).cleared) (d : EndId) (f : Frame) :
    ((s.place d .inauguration f).lineEnd e).begun := by
  rcases end_eq_or_other d e with rfl | rfl
  · rw [lineEnd_place]
    split
    · exact begun_of_cleared h
    · exact begun_placed h f
  · rw [place_other]
    exact begun_of_cleared h

/-! ## Changes of the node role -/

theorem lineEnd_fallBack_away (h : s.active = none) (e : EndId) : s.fallBack.lineEnd e = s.lineEnd e :=
  sameBlock_of_forget (forget_fallBack_away [.stages] h (by simp)) (.endOf e) (by simp)

theorem leaveMember_member {a : ActiveConsist} {next : NodeRole} {cause : LeaveCause} (head : s.heading = false) :
    s.leaveMember a next cause = s.left next cause := by
  unfold State.leaveMember
  simp only [head]
  rfl

theorem leaveMember_inaug {a : ActiveConsist} {next : NodeRole} {cause : LeaveCause} (away : ∀ b, next ≠ .member b) :
    (s.leaveMember a next cause).inaug = { s.inaug with role := next, silence := none, lastCause := some cause } := by
  cases head : s.heading with
  | true =>
    obtain ⟨-, -, -, inaug, -⟩ := headLeaves_items (a := a) (cause := cause) head away
    exact inaug
  | false =>
    obtain ⟨-, -, -, inaug, -⟩ := left_items (s := s) (cause := cause) away
    rw [leaveMember_member head]
    exact inaug

/-- A leaving brings an End no frame (R65, R67). -/
theorem cleared_leaveMember {e : EndId} {a : ActiveConsist} {next : NodeRole} {cause : LeaveCause}
    (h : (s.lineEnd e).cleared) (away : ∀ b, next ≠ .member b) : ((s.leaveMember a next cause).lineEnd e).cleared := by
  cases head : s.heading with
  | true =>
    obtain ⟨-, -, -, -, ends⟩ := headLeaves_items (a := a) (cause := cause) head away
    rw [ends]
    exact cleared_withdraw h _
  | false =>
    obtain ⟨-, -, -, -, ends⟩ := left_items (s := s) (cause := cause) away
    rw [leaveMember_member head, ends]
    exact h

theorem cleared_goUnassigned {e : EndId} (cause : LeaveCause) (h : (s.lineEnd e).cleared) :
    ((s.goUnassigned cause).lineEnd e).cleared := by
  cases role : s.inaug.role with
  | unassigned =>
    have stays : s.goUnassigned cause = s := by unfold State.goUnassigned; rw [role]
    rw [stays]
    exact h
  | counted r =>
    have ends : (s.goUnassigned cause).lineEnd e = s.lineEnd e :=
      sameBlock_of_forget (forget_goUnassigned_counted cause (counted_of_role role)) (.endOf e) (by simp [countedLeaving])
    rw [ends]
    exact h
  | member a =>
    have goes : s.goUnassigned cause
        = ((s.leaveMember a .unassigned cause).modInaug Inauguration.stopTimers).fallBack := by
      unfold State.goUnassigned; rw [role]
    have none : ((s.leaveMember a .unassigned cause).modInaug Inauguration.stopTimers).active = none := by
      unfold State.active
      rw [modInaug_inaug, leaveMember_inaug (next := .unassigned) nofun]
      rfl
    rw [goes, lineEnd_fallBack_away none, lineEnd_modInaug]
    exact cleared_leaveMember h nofun

theorem cleared_recount {e : EndId} (r : CountRecord) (h : (s.lineEnd e).cleared) : ((s.recount r).lineEnd e).cleared := by
  have tells (u : State) (none : u.active = none) : u.reportRecount.lineEnd e = u.lineEnd e :=
    sameBlock_of_forget (forget_reportRecount_away (.messages :: sideBlocks) none (by simp [sideBlocks]) (by simp)
      (by simp [sideBlocks])) (.endOf e) (by simp [sideBlocks])
  cases role : s.inaug.role with
  | unassigned =>
    have counts : s.recount r = (s.modInaug fun i => { i with role := .counted r }).roleChanged.reportRecount := by
      unfold State.recount; rw [role]
    rw [counts, tells _ rfl]
    exact h
  | counted q =>
    have counts : s.recount r = (s.modInaug fun i => { i with role := .counted r }).reportRecount := by
      unfold State.recount; rw [role]
    rw [counts, tells _ rfl, lineEnd_modInaug]
    exact h
  | member a =>
    rw [recount_member (active_of_role role)]
    exact cleared_leaveMember h nofun

/-! ## Attempts -/

theorem begun_commit {e : EndId} (h : (s.lineEnd e).cleared) (r : CountRecord) (length : Nat) (others : List RosterEntry)
    (truncated : Bool) : ((s.commit r length others truncated).lineEnd e).begun := by
  rw [commit_eq, lineEnd_modCycle, lineEnd_raise, lineEnd_raise]
  refine begun_place ?_ _ _
  have still : (s.claimed r length others truncated).forget [.inauguration, .cycle, .door, .tracking, .grants, .portOf .portA
      , .portOf .portB] = s.forget [.inauguration, .cycle, .door, .tracking, .grants, .portOf .portA, .portOf .portB] := by
    simp [State.claimed]
  rw [show (s.claimed r length others truncated).lineEnd e = s.lineEnd e from
    sameBlock_of_forget still (.endOf e) (by simp)]
  exact h

theorem begun_attemptFrom {e : EndId} (c : (s.lineEnd e).cleared) (h : EndId) (n : Nat) :
    ((s.attemptFrom h n).lineEnd e).begun := by
  have counted := cleared_recount (s.claimRecord h n) c
  by_cases o : (s.lineEnd h.other).link = .opened
  · rw [attemptFrom_alone o]
    exact begun_commit (by rw [lineEnd_modInaug]; exact counted) _ _ _ _
  · obtain ⟨-, -, -, -, -, -, ends⟩ := attempts_items s h n
    rw [attemptFrom_closed o, ends]
    exact begun_place counted _ _

theorem begun_beginAttempt {e : EndId} (c : (s.lineEnd e).cleared) (n : Nat) : ((s.beginAttempt n).lineEnd e).begun := by
  have numbered : ((s.modInaug fun i => { i with attempt := n }).lineEnd e).cleared := by
    rw [lineEnd_modInaug]; exact c
  unfold State.beginAttempt
  simp only
  split
  · exact begun_attemptFrom numbered _ n
  · rw [failClaim_lineEnd]
    exact begun_of_cleared (cleared_goUnassigned _ numbered)

/-! ## Reports -/

theorem cleared_place_other {e d : EndId} (h : (s.lineEnd e).cleared) (other : e ≠ d) (x : Source) (f : Frame) :
    ((s.place d x f).lineEnd e).cleared := by
  rcases end_eq_or_other d e with rfl | rfl
  · exact absurd rfl other
  · rw [place_other]
    exact h

theorem cleared_topologyAlert_other {e d : EndId} (h : (s.lineEnd e).cleared) (other : e ≠ d) :
    ((s.topologyAlert d).lineEnd e).cleared := by
  rcases end_eq_or_other d e with rfl | rfl
  · exact absurd rfl other
  · rw [topologyAlert_other]
    exact h

theorem begun_reportHeading {c : EndChange} (a : ActiveConsist) (h : (s.lineEnd c.place).cleared) :
    ((s.reportHeading a c).lineEnd c.place).begun := by
  unfold State.reportHeading
  split
  · next here =>
    have apart : c.place ≠ a.tailward := by
      rw [here]
      unfold ActiveConsist.tailward
      cases a.headward <;> decide
    split
    · unfold State.displace
      rw [failClaim_lineEnd]
      exact begun_of_cleared (cleared_goUnassigned _ (cleared_place_other h apart _ _))
    · exact begun_of_cleared h
  · split
    · unfold State.reinaugurate
      split
      · exact begun_beginAttempt h 1
      · exact begun_of_cleared h
    · exact begun_of_cleared h

theorem begun_reportClaiming {c : EndChange} (r : CountRecord) (h : (s.lineEnd c.place).cleared) :
    ((s.reportClaiming r c).lineEnd c.place).begun := by
  unfold State.reportClaiming
  split
  · next here =>
    have apart : c.place ≠ r.tailward := by
      rw [here]
      unfold CountRecord.tailward
      cases r.headward <;> decide
    split
    · rw [failClaim_lineEnd]
      exact begun_of_cleared (cleared_goUnassigned _ (cleared_place_other h apart _ _))
    · exact begun_of_cleared h
  · split
    · split
      · rw [State.setRecord, lineEnd_modInaug, lineEnd_modInaug]
        exact begun_of_cleared h
      · split
        · exact begun_commit h _ _ _ _
        · exact begun_of_cleared h
    · split
      · exact begun_beginAttempt h 1
      · exact begun_of_cleared h

theorem cleared_tailChange {c : EndChange} {r : CountRecord} (h : (s.lineEnd c.place).cleared)
    (apart : c.place ≠ r.headward) : ((s.tailChange r c).lineEnd c.place).cleared := by
  have tallies (flag : TallyFlag) : ((s.tailTally r flag).lineEnd c.place).cleared := by
    unfold State.tailTally State.setRecord
    simp only
    rw [lineEnd_modInaug, lineEnd_modInaug]
    exact cleared_place_other h apart _ _
  unfold State.tailChange
  split
  · split
    · rw [State.setRecord, lineEnd_modInaug, lineEnd_modInaug]
      exact h
    · split
      · exact tallies _
      · exact h
  · split
    · exact tallies _
    · exact h
  · exact h

theorem cleared_reportCounted {c : EndChange} (r : CountRecord) (h : (s.lineEnd c.place).cleared) :
    ((s.reportCounted r c).lineEnd c.place).cleared := by
  unfold State.reportCounted
  split
  · split
    · exact cleared_goUnassigned _ h
    · exact h
  · next apart =>
    simp only
    split
    · exact cleared_topologyAlert_other (cleared_tailChange h apart) apart
    · exact cleared_tailChange h apart

theorem cleared_reportMember {c : EndChange} (a : ActiveConsist) (h : (s.lineEnd c.place).cleared) :
    ((s.reportMember a c).lineEnd c.place).cleared := by
  unfold State.reportMember
  split
  · split
    · exact cleared_goUnassigned _ h
    · exact h
  · next apart =>
    split
    · exact cleared_topologyAlert_other h apart
    · exact h

theorem lineEnd_discardOffer (s : State) (e d : EndId) : (s.discardOffer e).lineEnd d = s.lineEnd d :=
  sameBlock_of_forget (L := [.messages]) (by simp) (.endOf d) (by simp)

/-- The report of an End that holds no frame brings it no frame but one of an inauguration (R14, R20). -/
theorem begun_reportEnd {e : EndId} (old : LinkState) (h : (s.lineEnd e).cleared) : ((s.reportEnd e old).lineEnd e).begun := by
  have waits : ((s.discardOffer e).lineEnd e).cleared := by rw [lineEnd_discardOffer]; exact h
  unfold State.reportEnd
  simp only
  split
  · exact begun_of_cleared h
  · unfold State.reportInauguration
    split
    · exact begun_of_cleared waits
    · split
      · exact begun_reportClaiming (c := ⟨e, old, (s.lineEnd e).link⟩) _ waits
      · exact begun_of_cleared (cleared_reportCounted (c := ⟨e, old, (s.lineEnd e).link⟩) _ waits)
    · split
      · exact begun_reportHeading (c := ⟨e, old, (s.lineEnd e).link⟩) _ waits
      · exact begun_of_cleared (cleared_reportMember (c := ⟨e, old, (s.lineEnd e).link⟩) _ waits)

end Sys2Proof.Machine

/-! PROOF. End Reset (R23): O32. -/

namespace Sys2Proof.Machine

variable {s t : State}

/-! ## The End that was reset, before its report -/

/-- An End that was reset, with its link state set from the sense (R23). -/
def State.restarted (s : State) (e : EndId) : State := (s.freshEnd e).endActive e

theorem endReset_restarted (s : State) (e : EndId) : s.endReset e = (s.restarted e).reportEnd e (s.lineEnd e).link := rfl

theorem sense_freshEnd (s : State) (e : EndId) : ((s.freshEnd e).lineEnd e).sense = (s.lineEnd e).sense := by
  rw [State.freshEnd, lineEnd_healPairs, lineEnd_modEnd_same]
  rfl

theorem endActive_joining {e : EndId} (c : (s.lineEnd e).sense = .closed) : s.endActive e = s.enterJoining e := by
  unfold State.endActive
  rw [c]

theorem endActive_opened {e : EndId} (c : (s.lineEnd e).sense = .opened) : s.endActive e = s.enterOpen e := by
  unfold State.endActive
  rw [c]

/-- The pair after an End Reset (R8, R23). -/
def PairState.restarted (x : PairState) : PairState := { x.lose with frameErrors := 0, health := .healthy, miss := 0, recovery := 0 }

/-- An End whose line was cleared, its counts zeroed and its pairs made HEALTHY (R23). -/
theorem lineEnd_freshEnd (s : State) (e : EndId) : (s.freshEnd e).lineEnd e = { s.lineEnd e with
    sending := none, twinWindow := none, throughQueue := [], slots := .empty, strayCount := 0, throughDrop := 0
    lastAccepted := 0, txSequence := 0, pairA := (s.lineEnd e).pairA.restarted, pairB := (s.lineEnd e).pairB.restarted
    link := if (s.lineEnd e).link.usable then .up else (s.lineEnd e).link } := by
  rw [State.freshEnd, lineEnd_healPairs, lineEnd_modEnd_same]
  rfl

theorem now_freshEnd (s : State) (e : EndId) : (s.freshEnd e).now = s.now :=
  sameBlock_of_forget (L := [.endOf .end1, .endOf .end2, .portOf .portA, .portOf .portB]) (by simp [State.freshEnd]) .clock
    (by simp)

/-- The End after an End Reset, at its report (R2, R3, R23). -/
theorem lineEnd_restarted (s : State) (e : EndId) : (s.restarted e).lineEnd e = { s.lineEnd e with
    sending := none, twinWindow := none, throughQueue := [], slots := .empty, strayCount := 0, throughDrop := 0
    lastAccepted := 0, txSequence := 0, pairA := (s.lineEnd e).pairA.restarted, pairB := (s.lineEnd e).pairB.restarted
    link := if (s.lineEnd e).sense = .closed then .joining else .opened
    linkIdle := if (s.lineEnd e).sense = .closed then some (s.now + 200000) else none
    keepalive := if (s.lineEnd e).sense = .closed then some (s.now + 50000) else none } := by
  unfold State.restarted
  cases c : (s.lineEnd e).sense with
  | closed =>
    rw [endActive_joining ((sense_freshEnd s e).trans c), lineEnd_enterJoining, lineEnd_freshEnd, now_freshEnd]
    rfl
  | opened =>
    rw [endActive_opened ((sense_freshEnd s e).trans c), lineEnd_enterOpen, lineEnd_freshEnd]
    rfl

/-- The blocks that an End Reset reaches before its report (R8, R23). -/
def restartBlocks (e : EndId) : List Block := [.endOf e, .portOf .portA, .portOf .portB]

theorem lineEnd_restarted_other (s : State) (e : EndId) : (s.restarted e).lineEnd e.other = s.lineEnd e.other := by
  rw [State.restarted, lineEnd_endActive_other, State.freshEnd, lineEnd_healPairs_other, lineEnd_modEnd_other]

theorem forget_restarted (s : State) (e : EndId) : (s.restarted e).forget (restartBlocks e) = s.forget (restartBlocks e) := by
  simp [State.restarted, State.freshEnd, restartBlocks]

theorem onlyRaises_of_skeleton (h : t.skeleton = s.skeleton) : OnlyRaises s t := by
  have ports (p : PortId) : (t.port p).still = (s.port p).still := by
    cases p
    · exact congrArg Skeleton.portA h
    · exact congrArg Skeleton.portB h
  intro p
  have still := ports p
  revert still
  unfold OnlyFlags
  cases t.port p
  cases s.port p
  simp only [Port.still, Port.mk.injEq, true_and]
  exact id

theorem healPairs_onlyRaises (s : State) (e : EndId) : OnlyRaises s (s.healPairs e) :=
  (judgePair_onlyRaises _ _ _ _).trans (judgePair_onlyRaises _ _ _ _)

theorem endReset_onlyRaises (s : State) (e : EndId) : OnlyRaises s (s.endReset e) := by
  have fresh : OnlyRaises s (s.freshEnd e) :=
    (onlyRaises_of_port fun _ => by simp).trans (healPairs_onlyRaises _ _)
  have active : OnlyRaises (s.freshEnd e) (s.restarted e) := by
    unfold State.restarted
    cases c : ((s.freshEnd e).lineEnd e).sense with
    | closed =>
      rw [endActive_joining c]
      exact (onlyRaises_of_port fun _ => by simp).trans (healPairs_onlyRaises _ _)
    | opened =>
      rw [endActive_opened c]
      exact onlyRaises_of_port fun _ => by simp [State.enterOpen]
  rw [endReset_restarted]
  exact (fresh.trans active).trans (onlyRaises_of_skeleton (skel_reportEnd _ _ _))

theorem cleared_restarted (s : State) (e : EndId) : ((s.restarted e).lineEnd e).cleared := by
  rw [lineEnd_restarted]
  exact ⟨rfl, rfl, rfl⟩

theorem inaug_restarted (s : State) (e : EndId) : (s.restarted e).inaug = s.inaug :=
  sameBlock_of_forget (forget_restarted s e) .inauguration (by simp [restartBlocks])

theorem link_restarted (s : State) (e : EndId) :
    ((s.restarted e).lineEnd e).link = if (s.lineEnd e).sense = .closed then .joining else .opened := by
  rw [lineEnd_restarted]

theorem usable_restarted (s : State) (e : EndId) : (s.restarted e).usable e = false := by
  unfold State.usable
  rw [link_restarted]
  split <;> rfl

/-! ## The report of the End that was reset -/

/-- The change that an End Reset reports (R20, R23). -/
def State.resetChange (s : State) (e : EndId) : EndChange :=
  { place := e, old := (s.lineEnd e).link, new := ((s.restarted e).lineEnd e).link }

/-- The node that an End Reset reports to: a waiting offer has gone (R16, R23). -/
def State.resetReported (s : State) (e : EndId) : State := (s.restarted e).discardOffer e

theorem endReset_changed {e : EndId} (n : ((s.restarted e).lineEnd e).link ≠ (s.lineEnd e).link) :
    s.endReset e = (s.resetReported e).reportInauguration (s.resetChange e) := by
  rw [endReset_restarted]
  exact if_neg n

theorem endReset_same {e : EndId} (n : ((s.restarted e).lineEnd e).link = (s.lineEnd e).link) :
    s.endReset e = s.restarted e := by
  rw [endReset_restarted]
  exact if_pos n

theorem forget_resetReported (s : State) (e : EndId) :
    (s.resetReported e).forget (.messages :: restartBlocks e) = s.forget (.messages :: restartBlocks e) := by
  refine (forget_discardOffer _ _ _ (by simp)).trans (forget_mono (forget_restarted s e) fun b hb => by simp [hb])

theorem inaug_resetReported (s : State) (e : EndId) : (s.resetReported e).inaug = s.inaug :=
  sameBlock_of_forget (forget_resetReported s e) .inauguration (by simp [restartBlocks])

theorem lineEnd_resetReported (s : State) (e d : EndId) : (s.resetReported e).lineEnd d = (s.restarted e).lineEnd d :=
  lineEnd_discardOffer _ _ _

theorem cleared_resetReported (s : State) (e : EndId) : ((s.resetReported e).lineEnd e).cleared := by
  rw [lineEnd_resetReported]
  exact cleared_restarted s e

/-- An End that was usable is reported as lost (R20, R23). -/
theorem lost_reset {e : EndId} (u : s.usable e = true) : ((s.restarted e).lineEnd e).link ≠ (s.lineEnd e).link
    ∧ (s.resetChange e).lost = true := by
  have now := usable_restarted s e
  unfold State.usable at u now
  refine ⟨fun same => ?_, ?_⟩
  · rw [same, u] at now
    cases now
  · unfold EndChange.lost State.resetChange
    simp only
    rw [u, now]
    rfl

theorem reportInauguration_member {a : ActiveConsist} {c : EndChange} (ha : s.active = some a) (head : s.heading = false) :
    s.reportInauguration c = s.reportMember a c := by
  unfold State.reportInauguration
  rw [role_of_active ha]
  exact if_neg (by rw [head]; decide)

theorem reportInauguration_head {a : ActiveConsist} {c : EndChange} (ha : s.active = some a) (head : s.heading = true) :
    s.reportInauguration c = s.reportHeading a c := by
  unfold State.reportInauguration
  rw [role_of_active ha]
  exact if_pos head

/-- At the head-ward End a member leaves its consist (R20, R23, R64). -/
theorem endReset_headward {a : ActiveConsist} (ha : s.active = some a) (head : s.heading = false)
    (u : s.usable a.headward = true) : let t := s.endReset a.headward
    t.inaug.role = .unassigned ∧ t.inaug.lastCause = some .headWardLoss ∧ (t.lineEnd a.headward).slots = .empty := by
  obtain ⟨new, lost⟩ := lost_reset u
  have inaug := inaug_resetReported s a.headward
  have active := (active_of_inaug inaug).trans ha
  have heads := (heading_of_inaug inaug).trans head
  have leaves : s.endReset a.headward = (s.resetReported a.headward).goUnassigned .headWardLoss := by
    rw [endReset_changed new, reportInauguration_member active heads, State.reportMember, lost]
    exact (if_pos rfl).trans (if_pos rfl)
  obtain ⟨-, -, slots⟩ := cleared_goUnassigned .headWardLoss (cleared_resetReported s a.headward)
  simp only
  rw [leaves, inaug_goUnassigned_member _ active heads]
  exact ⟨rfl, rfl, slots⟩

/-- At the tail-ward End a member alerts the head (R20, R21, R23). -/
theorem endReset_tailward {a : ActiveConsist} (ha : s.active = some a) (head : s.heading = false) :
    let t := s.endReset a.headward.other
    t.inaug = s.inaug ∧ (t.lineEnd a.headward.other).slots = .empty
      ∧ (s.usable a.headward.other = true → s.usable a.headward = true → SlotFree s a.headward .wake →
        (s.lineEnd a.headward).throughQueue = [] → InSlot t a.headward .wake { kind := .wake, payload := [2] }) := by
  have apart : a.headward.other ≠ a.headward := by cases a.headward <;> decide
  have inaug := inaug_resetReported s a.headward.other
  have active := (active_of_inaug inaug).trans ha
  have heads := (heading_of_inaug inaug).trans head
  have reports (new : ((s.restarted a.headward.other).lineEnd a.headward.other).link ≠ (s.lineEnd a.headward.other).link) :
      s.endReset a.headward.other = if (s.resetChange a.headward.other).matters then
        (s.resetReported a.headward.other).topologyAlert a.headward else s.resetReported a.headward.other := by
    rw [endReset_changed new, reportInauguration_member active heads]
    exact if_neg apart
  have cleared := cleared_resetReported s a.headward.other
  simp only
  refine ⟨?_, ?_, fun u ward free queue => ?_⟩
  · by_cases same : ((s.restarted a.headward.other).lineEnd a.headward.other).link = (s.lineEnd a.headward.other).link
    · rw [endReset_same same, inaug_restarted]
    · rw [reports same]
      split
      · rw [topologyAlert_inaug, inaug]
      · exact inaug
  · by_cases same : ((s.restarted a.headward.other).lineEnd a.headward.other).link = (s.lineEnd a.headward.other).link
    · rw [endReset_same same]
      exact (cleared_restarted s _).2.2
    · rw [reports same]
      split
      · exact (cleared_topologyAlert_other cleared apart).2.2
      · exact cleared.2.2
  · obtain ⟨new, lost⟩ := lost_reset u
    have matters : (s.resetChange a.headward.other).matters = true := by
      unfold EndChange.matters
      rw [lost]
      simp
    have ends : (s.resetReported a.headward.other).lineEnd a.headward = s.lineEnd a.headward := by
      have beside := lineEnd_restarted_other s a.headward.other
      rw [show a.headward.other.other = a.headward by cases a.headward <;> rfl] at beside
      rw [lineEnd_resetReported, beside]
    rw [reports new, if_pos matters]
    refine inSlot_topologyAlert ?_ (by rw [ends, queue]) (slotFree_of_lineEnd ends free)
    unfold State.usable at ward ⊢
    rw [ends]
    exact ward

theorem claimHeadward_congr (h : ∀ d, (t.lineEnd d).sense = (s.lineEnd d).sense) : t.claimHeadward = s.claimHeadward := by
  have first : t.end1.sense = s.end1.sense := h .end1
  have second : t.end2.sense = s.end2.sense := h .end2
  unfold State.claimHeadward
  rw [first, second]

theorem claimHeadward_resetReported (s : State) (e : EndId) : (s.resetReported e).claimHeadward = s.claimHeadward := by
  refine claimHeadward_congr fun d => ?_
  rw [lineEnd_resetReported]
  rcases end_eq_or_other e d with rfl | rfl
  · rw [lineEnd_restarted]
  · rw [lineEnd_restarted_other]

/-- A head that begins again toward an End without frames places its COUNT there (R14, R26, R49). -/
theorem reinaugurate_counts {h : EndId} (head : s.heading = true) (claims : s.claimHeadward = some h)
    (o : (s.lineEnd h.other).link ≠ .opened) (c : (s.lineEnd h.other).cleared) :
    InSlot s.reinaugurate h.other .inauguration (CountFrame.frame
      { head := s.power.record.vehicle, attempt := 1, next := 2, timeout := s.cycle.timing.inaugurationTimeout }) := by
  generalize hx : s.modInaug (fun i => { i with attempt := 1 }) = x
  have ends : x.lineEnd h.other = s.lineEnd h.other := by rw [← hx, lineEnd_modInaug]
  have chosen : x.claimHeadward = some h := by rw [← hx]; exact claims
  have begins : s.reinaugurate = x.attempts h 1 := by
    rw [reinaugurate_head head, ← attemptFrom_closed (by rw [ends]; exact o)]
    unfold State.beginAttempt
    simp only [hx, chosen]
  have counted := cleared_recount (e := h.other) (x.claimRecord h 1) (by rw [ends]; exact c)
  have free : SlotFree (x.recount (x.claimRecord h 1)) h.other .inauguration := by
    obtain ⟨-, -, slots⟩ := counted
    refine ⟨?_, ?_⟩
    · rw [skeleton_link (skel_recount x _), ends]
      exact o
    · rw [slots, slots_get_empty]
  obtain ⟨-, -, -, -, -, -, lines⟩ := attempts_items x h 1
  have placed := place_inSlot _ _ _ (x.claimRecord h 1).countFrame free
  unfold InSlot at placed ⊢
  rw [begins, lines, placed, ← hx]
  rfl

/-- At the tail-ward End a head begins again (R20, R23, R49). -/
theorem endReset_head {a : ActiveConsist} (ha : s.active = some a) (head : s.heading = true)
    (u : s.usable a.headward.other = true) (claims : s.claimHeadward = some a.headward)
    (c : (s.lineEnd a.headward.other).sense = .closed) : let t := s.endReset a.headward.other
    t.claiming = true ∧ t.inaug.attempt = 1
      ∧ InSlot t a.headward.other .inauguration (CountFrame.frame
          { head := s.power.record.vehicle, attempt := 1, next := 2, timeout := s.cycle.timing.inaugurationTimeout }) := by
  have apart : a.headward.other ≠ a.headward := by cases a.headward <;> decide
  obtain ⟨new, lost⟩ := lost_reset u
  have inaug := inaug_resetReported s a.headward.other
  have active := (active_of_inaug inaug).trans ha
  have heads := (heading_of_inaug inaug).trans head
  have chosen := (claimHeadward_resetReported s a.headward.other).trans claims
  have still := forget_resetReported s a.headward.other
  have begins : s.endReset a.headward.other = (s.resetReported a.headward.other).reinaugurate := by
    rw [endReset_changed new, reportInauguration_head active heads]
    refine (if_neg apart).trans (if_pos ?_)
    rw [lost]
    simp
  have joining : ((s.resetReported a.headward.other).lineEnd a.headward.other).link ≠ .opened := by
    rw [lineEnd_resetReported, link_restarted, if_pos c]
    decide
  obtain ⟨claiming, attempt, -⟩ := reinaugurate_attempts active heads chosen joining
  have counts := reinaugurate_counts heads chosen joining (cleared_resetReported s _)
  rw [show (s.resetReported a.headward.other).power = s.power from sameBlock_of_forget still .power (by simp [restartBlocks]),
    show (s.resetReported a.headward.other).cycle = s.cycle from sameBlock_of_forget still .cycle (by simp [restartBlocks])]
    at counts
  simp only
  rw [begins]
  exact ⟨claiming, attempt, counts⟩

/-- At a node without a role an End Reset is about that End alone (R20, R23). -/
theorem endReset_unassigned {e : EndId} (role : s.inaug.role = .unassigned) : let t := s.endReset e
    t.inaug = s.inaug ∧ t.lineEnd e.other = s.lineEnd e.other ∧ (t.lineEnd e).slots = .empty
      ∧ (t.lineEnd e).throughQueue = [] ∧ (t.lineEnd e).throughDrop = 0 := by
  have still : (s.endReset e).forget [.messages] = (s.restarted e).forget [.messages] := by
    rw [endReset_restarted]
    exact forget_reportEnd_unassigned [.messages] e _ (by rw [inaug_restarted]; exact role) (by simp)
  have ends (d : EndId) : (s.endReset e).lineEnd d = (s.restarted e).lineEnd d := sameBlock_of_forget still (.endOf d) (by simp)
  obtain ⟨queue, drops, slots⟩ := cleared_restarted s e
  simp only
  rw [ends, ends, lineEnd_restarted_other, show (s.endReset e).inaug = (s.restarted e).inaug from
    sameBlock_of_forget still .inauguration (by simp), inaug_restarted]
  exact ⟨rfl, rfl, slots, queue, drops⟩

/-! ## The End after an End Reset -/

/-- An End that starts afresh from `l`, at a time: its line, its counts and its timers (R23). -/
structure LineEnd.Afresh (l : LineEnd) (now : Nat) (m : LineEnd) : Prop where
  link : m.link = if l.sense = .closed then .joining else .opened
  sense : m.sense = l.sense
  debounce : m.debounce = l.debounce
  sending : m.sending = none
  twinWindow : m.twinWindow = none
  strayCount : m.strayCount = 0
  lastAccepted : m.lastAccepted = 0
  txSequence : m.txSequence = 0
  pairs : ∀ q, m.pair q = (l.pair q).restarted
  linkIdle : m.linkIdle = if l.sense = .closed then some (now + 200000) else none
  keepalive : m.keepalive = if l.sense = .closed then some (now + 50000) else none
  traffic : m.begun

theorem endReset_afresh (s : State) (e : EndId) : (s.lineEnd e).Afresh s.now ((s.endReset e).lineEnd e) := by
  have traffic : ((s.endReset e).lineEnd e).begun := by
    rw [endReset_restarted]
    exact begun_reportEnd _ (cleared_restarted s e)
  obtain ⟨slots, queue, drops, same⟩ :=
    lineEnd_of_skeleton (skel_reportEnd (s.restarted e) e (s.lineEnd e).link) e
  rw [← endReset_restarted, lineEnd_restarted] at same
  rw [same] at traffic ⊢
  exact ⟨rfl, rfl, rfl, rfl, rfl, rfl, rfl, rfl, fun q => by cases q <;> rfl, rfl, rfl, traffic⟩

/-- An End Reset leaves the link state of the other End alone (R23). -/
theorem link_endReset_other (s : State) (e : EndId) : ((s.endReset e).lineEnd e.other).link = (s.lineEnd e.other).link := by
  rw [endReset_restarted, skeleton_link (skel_reportEnd _ _ _), lineEnd_restarted_other]

/-! ## The command -/

/-- The number of an End in a command (12.4). -/
def endNumber : EndId → Nat
  | .end1 => 1
  | .end2 => 2

theorem endOperand_number (e : EndId) : endOperand (endNumber e) = some e := by cases e <;> rfl

theorem endOperand_none {n : Nat} (first : n ≠ 1) (second : n ≠ 2) : endOperand n = none := by
  unfold endOperand
  rw [if_neg first, if_neg second]

/-- What End Reset does at a port (R23, R171). -/
theorem endReset_command {p : PortId} {e : EndId} (h : Admitted s p none) (names : s.operandNum p 1 = endNumber e) :
    exec (.endReset p) s = .next (((s.wrote p opcodeAddress).endReset e).answer p .done none 0)
      ∧ Answered (s.port p) ((((s.wrote p opcodeAddress).endReset e).answer p .done none 0).port p) .done none 0 := by
  have named : endOperand ((s.wrote p opcodeAddress).operandNum p 1) = some e := by
    rw [wrote_operandNum, names, endOperand_number]
  have resets : (s.wrote p opcodeAddress).endResetNamed p = (s.wrote p opcodeAddress).endReset e := by
    unfold State.endResetNamed
    rw [named]
  have check : firstReason [((endOperand ((s.wrote p opcodeAddress).operandNum p 1)).isNone, Reason.range)] = none := by
    rw [named]
    rfl
  have done := command_done s p none (fun s => firstReason [((endOperand (s.operandNum p 1)).isNone, .range)])
    (fun s => s.endResetNamed p) (fun _ => 0) h check
  rw [resets] at done
  refine ⟨congrArg Host.Outcome.next done, ?_⟩
  have own := endReset_onlyRaises (s.wrote p opcodeAddress) e p
  unfold OnlyFlags at own
  rw [wrote_port] at own
  simp only [Answered, State.answer, port_modPort, Port.answer]
  rw [own]
  exact ⟨rfl, rfl, rfl, rfl, rfl, rfl⟩

theorem endReset_refused {p : PortId} (h : Admitted s p none) (first : s.operandNum p 1 ≠ 1) (second : s.operandNum p 1 ≠ 2) :
    ∃ t, exec (.endReset p) s = .next t ∧ RefusedAt p .range s t :=
  ⟨_, rfl, command_refused s p _ _ _ _ h .range (by simp [firstReason, endOperand_none first second])⟩

theorem answer_inaug (s : State) (p : PortId) (x : CommandResult) (y : Option Reason) (n : Nat) :
    (s.answer p x y n).inaug = s.inaug := sameBlock_of_forget (L := [.portOf p]) (by simp) .inauguration (by simp)

/-- Settles O32: the End that was reset starts afresh, and the change is reported as any other. -/
theorem endResetStartsOneEndAfresh : Obligations.EndResetStartsOneEndAfresh := by
  unfold Obligations.EndResetStartsOneEndAfresh
  refine fun s p h => ⟨fun e operand => ?_, fun first second => endReset_refused h first second⟩
  have names : s.operandNum p 1 = endNumber e := by rw [operand]; cases e <;> rfl
  obtain ⟨runs, answered⟩ := endReset_command h names
  obtain ⟨-, cycleW, inaugW, powerW, endsW⟩ := wrote_rest s p opcodeAddress
  have nowW : (s.wrote p opcodeAddress).now = s.now := by cases p <;> rfl
  have changes : OnlyChanges roleBlocks s (((s.wrote p opcodeAddress).endReset e).answer p .done none 0) := by
    rw [onlyChanges_iff_forget]
    cases p <;> simp [roleBlocks]
  refine ⟨_, runs, answered, ?_⟩
  obtain ⟨-, -, endsT⟩ := answer_rest ((s.wrote p opcodeAddress).endReset e) p .done none 0
  have inaugT := answer_inaug ((s.wrote p opcodeAddress).endReset e) p .done none 0
  generalize ((s.wrote p opcodeAddress).endReset e).answer p .done none 0 = t at changes endsT inaugT ⊢
  generalize s.wrote p opcodeAddress = w at cycleW inaugW powerW endsW nowW endsT inaugT
  have usableW (d : EndId) : w.usable d = s.usable d := by unfold State.usable; rw [endsW]
  have activeW := active_of_inaug inaugW
  have headingW := heading_of_inaug inaugW
  obtain ⟨link, sense, debounce, sending, twin, stray, last, sequence, pairs, idle, alive, queue, drops, slots, held⟩ :=
    endReset_afresh w e
  rw [← endsT, endsW] at link sense debounce idle alive
  rw [← endsT] at sending twin stray last sequence queue drops held
  rw [nowW] at idle alive
  refine ⟨link, sense, debounce, sending, twin, stray, last, sequence, fun q => ?_, idle, alive, queue, drops,
    fun x other => ?_, held, fun q => ?_, fun a ha head here u => ?_, fun a ha head here => ?_,
    fun a ha head here u claims c => ?_, changes, ?_, fun role => ?_⟩
  · rw [endsT, pairs]
    exact ⟨rfl, rfl, rfl, rfl⟩
  · rw [endsT, slots x other]
  · unfold State.receiver
    rw [endsT, pairs, endsW]
    rfl
  · subst here
    obtain ⟨roleT, cause, empty⟩ := endReset_headward (activeW.trans ha) (headingW.trans head) ((usableW _).trans u)
    rw [inaugT, endsT]
    exact ⟨roleT, cause, empty⟩
  · subst here
    obtain ⟨inaug, empty, wakes⟩ := endReset_tailward (activeW.trans ha) (headingW.trans head)
    rw [inaugT, endsT]
    refine ⟨inaug.trans inaugW, empty, fun u ward free waits => ?_⟩
    unfold InSlot
    rw [endsT]
    exact wakes ((usableW _).trans u) ((usableW _).trans ward) (slotFree_of_lineEnd (endsW _) free) (by rw [endsW, waits])
  · subst here
    obtain ⟨claiming, attempt, counts⟩ := endReset_head (activeW.trans ha) (headingW.trans head) ((usableW _).trans u)
      ((claimHeadward_congr fun d => by rw [endsW]).trans claims) (by rw [endsW, c])
    rw [powerW, cycleW] at counts
    refine ⟨?_, by rw [inaugT, attempt], ?_⟩
    · unfold State.claiming at claiming ⊢
      rw [inaugT]
      exact claiming
    · unfold InSlot
      rw [endsT]
      exact counts
  · rw [endsT, link_endReset_other, endsW]
  · obtain ⟨inaug, beside, empty, waits, dropped⟩ := endReset_unassigned (e := e) (s := w) (by rw [inaugW, role])
    rw [inaugT, endsT, endsT, inaug, beside, endsW, inaugW]
    exact ⟨rfl, rfl, empty, waits, dropped⟩

end Sys2Proof.Machine

/-! SUPPORT. What the roles of the node rest on, role by role, and the operations that leave it alone (O4). -/

namespace Sys2Proof.Machine

variable {r s t : State}

/-! ## Operations that change no role -/

/-- From `r` on no role has changed: the inauguration, the cycle's state and its timers, the use of the grants; the Proof
agrees with its lifetime, and becomes PROVED at a head alone (R67, R116, R122). -/
structure RolesKept (r s : State) : Prop where
  inaug : s.inaug = r.inaug
  cycle : s.cycle.state = r.cycle.state ∧ s.cycle.cycleTimeout = r.cycle.cycleTimeout
    ∧ s.cycle.periodTimer = r.cycle.periodTimer ∧ s.cycle.refreshTimer = r.cycle.refreshTimer
  inUse : s.grants.inUse = r.grants.inUse
  lifetime : r.track.lifetime.isSome = r.track.proved → s.track.lifetime.isSome = s.track.proved
  proved : s.track.proved = true → r.track.proved = true ∨ r.heading = true

theorem RolesKept.refl (s : State) : RolesKept s s := ⟨rfl, ⟨rfl, rfl, rfl, rfl⟩, rfl, id, .inl⟩

/-- The blocks that hold nothing of the roles. -/
def roleless : List Block :=
  [.clock, .moments, .freeValues, .endOf .end1, .endOf .end2, .door, .stages, .messages, .portOf .portA, .portOf .portB, .power]

theorem RolesKept.same (h : RolesKept r s) (inaug : t.inaug = s.inaug) (cycle : t.cycle = s.cycle)
    (grants : t.grants = s.grants) (track : t.track = s.track) : RolesKept r t := by
  obtain ⟨i, c, g, l, p⟩ := h
  exact ⟨by rw [inaug, i], by rw [cycle]; exact c, by rw [grants, g], by rw [track]; exact l, by rw [track]; exact p⟩

theorem RolesKept.elsewhere (h : RolesKept r s) (f : t.forget roleless = s.forget roleless) : RolesKept r t :=
  h.same (sameBlock_of_forget f .inauguration (by simp [roleless])) (sameBlock_of_forget f .cycle (by simp [roleless]))
    (sameBlock_of_forget f .grants (by simp [roleless])) (sameBlock_of_forget f .tracking (by simp [roleless]))

theorem RolesKept.modCycle {g : Cycle → Cycle} (h : RolesKept r s)
    (hg : ∀ c, (g c).state = c.state ∧ (g c).cycleTimeout = c.cycleTimeout ∧ (g c).periodTimer = c.periodTimer
      ∧ (g c).refreshTimer = c.refreshTimer := by exact fun _ => ⟨rfl, rfl, rfl, rfl⟩) : RolesKept r (s.modCycle g) := by
  obtain ⟨i, ⟨state, timeout, period, refresh⟩, g', l, p⟩ := h
  obtain ⟨hs, ht, hp, hr⟩ := hg s.cycle
  exact ⟨i, ⟨hs.trans state, ht.trans timeout, hp.trans period, hr.trans refresh⟩, g', l, p⟩

theorem RolesKept.modGrants {g : GrantEngine → GrantEngine} (h : RolesKept r s)
    (hg : ∀ x, (g x).inUse = x.inUse := by exact fun _ => rfl) : RolesKept r (s.modGrants g) :=
  ⟨h.inaug, h.cycle, (hg s.grants).trans h.inUse, h.lifetime, h.proved⟩

theorem RolesKept.modTrack {g : Tracking → Tracking} (h : RolesKept r s)
    (hg : ∀ x, (g x).proved = x.proved ∧ (g x).lifetime = x.lifetime := by exact fun _ => ⟨rfl, rfl⟩) :
    RolesKept r (s.modTrack g) := by
  obtain ⟨proved, lifetime⟩ := hg s.track
  refine ⟨h.inaug, h.cycle, h.inUse, fun l => ?_, fun p => h.proved ?_⟩
  · rw [modTrack_track, lifetime, proved]
    exact h.lifetime l
  · rw [modTrack_track, proved] at p
    exact p

theorem RolesKept.modDoor {g : Door → Door} (h : RolesKept r s) : RolesKept r (s.modDoor g) := h.same rfl rfl rfl rfl
theorem RolesKept.modStage {g : StageDrive → StageDrive} (h : RolesKept r s) : RolesKept r (s.modStage g) :=
  h.same rfl rfl rfl rfl
theorem RolesKept.tickMoment (h : RolesKept r s) : RolesKept r s.tickMoment := h.same rfl rfl rfl rfl
theorem RolesKept.raise {c : Cause} (h : RolesKept r s) : RolesKept r (s.raise c) := h.elsewhere (by simp [roleless])
theorem RolesKept.place {e : EndId} {x : Source} {f : Frame} (h : RolesKept r s) : RolesKept r (s.place e x f) :=
  h.elsewhere (by simp [roleless])

theorem RolesKept.heading (h : RolesKept r s) : s.heading = r.heading := heading_of_inaug h.inaug

/-! ### Record sources and the Stage Drive -/

theorem RolesKept.sourceChanged (h : RolesKept r s) : RolesKept r s.sourceChanged := by
  unfold State.sourceChanged
  split
  · split
    · split
      · exact h.modCycle
      · exact (h.modCycle (g := fun c => { c with statusRaised := true })).elsewhere (by simp [roleless])
    · exact h
  · exact h

theorem RolesKept.recomputeTarget {risen : Bool} (h : RolesKept r s) : RolesKept r (s.recomputeTarget risen) :=
  (h.elsewhere (t := s.applyTarget s.newTarget risen) (by simp [roleless])).sourceChanged
theorem RolesKept.setCeiling {c : Nat} {b : Bool} (h : RolesKept r s) : RolesKept r (s.setCeiling c b) :=
  h.modStage.recomputeTarget
theorem RolesKept.fallBack (h : RolesKept r s) : RolesKept r s.fallBack := h.setCeiling
theorem RolesKept.identityToStages (h : RolesKept r s) : RolesKept r s.identityToStages := by
  unfold State.identityToStages
  split
  · exact h.fallBack
  · exact h.recomputeTarget
theorem RolesKept.ceilingFromGrant {g : Nat} (h : RolesKept r s) : RolesKept r (s.ceilingFromGrant g) := by
  unfold State.ceilingFromGrant
  split
  · exact h
  · exact h.setCeiling
theorem RolesKept.stageNodeReset (h : RolesKept r s) : RolesKept r s.stageNodeReset :=
  (h.elsewhere (t := ((s.modStage fun d => { d with target := 0, demand := 0 }).switchOffFrom 0).endRise)
    (by simp [roleless])).fallBack
theorem RolesKept.stageExpired {i : Nat} (h : RolesKept r s) : RolesKept r (s.stageExpired i) := by
  have rises : RolesKept r ((s.switchOn i).nextStage false 5).sourceChanged :=
    (h.elsewhere (t := (s.switchOn i).nextStage false 5) (by simp [roleless])).sourceChanged
  unfold State.stageExpired
  split
  · exact rises
  · split
    · split
      · split
        · exact rises
        · exact h.modStage
      · exact h.modStage
    · exact h.modStage
  · exact h
  · exact h
theorem RolesKept.setDemand {v : Nat} (h : RolesKept r s) : RolesKept r (s.setDemand v) := by
  unfold State.setDemand
  split
  · exact h
  · exact h.modStage.sourceChanged.recomputeTarget

/-! ### Door Unit -/

theorem RolesKept.setSide {i : SideId} {st : SideState} (h : RolesKept r s) : RolesKept r (s.setSide i st) := by
  unfold State.setSide
  split
  · exact h
  · exact h.modDoor.raise.sourceChanged
theorem RolesKept.fromReleased {i : SideId} {st : SideState} (h : RolesKept r s) : RolesKept r (s.fromReleased st i) := by
  unfold State.fromReleased
  split
  · exact h.setSide
  · exact h
theorem RolesKept.withdrawSide {i : SideId} (h : RolesKept r s) : RolesKept r (s.withdrawSide i) := h.fromReleased
theorem RolesKept.closeSide {i : SideId} (h : RolesKept r s) : RolesKept r (s.closeSide i) := by
  unfold State.closeSide
  split
  · exact h.setSide
  · split
    · exact h
    · exact h.setSide
  · exact h
theorem RolesKept.headFlags {b : Bool} (h : RolesKept r s) : RolesKept r (s.headFlags b) := by
  unfold State.headFlags
  split
  · exact h
  · exact h.fromReleased.fromReleased
theorem RolesKept.doorReport (h : RolesKept r s) : RolesKept r s.doorReport := h.withdrawSide.withdrawSide.modDoor.sourceChanged
theorem RolesKept.statusSide {i : SideId} (h : RolesKept r s) : RolesKept r (s.statusSide i) := by
  unfold State.statusSide
  simp only
  split
  · split
    · exact h.setSide.withdrawSide
    · exact h.setSide
  · split
    · exact h.withdrawSide
    · exact h
theorem RolesKept.writeDoorStatus {x : DoorStatus} (h : RolesKept r s) : RolesKept r (s.writeDoorStatus x) :=
  h.modDoor.sourceChanged.statusSide.statusSide
theorem RolesKept.localClose {sides : List SideId} (h : RolesKept r s) : RolesKept r (s.localClose sides) := by
  unfold State.localClose
  induction sides generalizing s with
  | nil => exact h
  | cons i rest ih => exact ih h.closeSide
theorem RolesKept.requestCall (h : RolesKept r s) : RolesKept r s.requestCall := by
  unfold State.requestCall
  split
  · exact h.modCycle
  · exact h

theorem RolesKept.unprove (h : RolesKept r s) : RolesKept r s.unprove := by
  have track := track_unprove s
  have still : s.unprove.forget [.tracking, .portOf .portA, .portOf .portB]
      = s.forget [.tracking, .portOf .portA, .portOf .portB] := by simp
  refine ⟨(sameBlock_of_forget still .inauguration (by simp) : s.unprove.inaug = _).trans h.inaug, ?_, ?_, fun _ => ?_,
    fun p => ?_⟩
  · rw [show s.unprove.cycle = s.cycle from sameBlock_of_forget still .cycle (by simp)]
    exact h.cycle
  · rw [show s.unprove.grants = s.grants from sameBlock_of_forget still .grants (by simp)]
    exact h.inUse
  · rw [track]
    rfl
  · rw [track] at p
    cases p

theorem RolesKept.applyAction {o : DoorOrder} {i : SideId} (h : RolesKept r s) : RolesKept r (s.applyAction o i) := by
  unfold State.applyAction
  split
  · split
    · exact h.setSide
    · exact h
  · exact h.closeSide
  · exact h.withdrawSide
theorem RolesKept.takeOrder {a : ActiveConsist} {o : DoorOrder} (h : RolesKept r s) : RolesKept r (s.takeOrder a o) := by
  have applied (l : List SideId) (u : State) (k : RolesKept r u) : RolesKept r (l.foldl (fun s i => s.applyAction o i) u) := by
    induction l generalizing u with
    | nil => exact k
    | cons i rest ih => exact ih _ k.applyAction
  unfold State.takeOrder
  simp only
  split
  · exact applied _ _ h.modDoor.raise.sourceChanged
  · exact h.modDoor.raise.sourceChanged
theorem RolesKept.judgeOrder {a : ActiveConsist} {f : Frame} (h : RolesKept r s) : RolesKept r (s.judgeOrder a f) := by
  unfold State.judgeOrder
  simp only
  split
  · exact h.place
  · split
    · exact h.place
    · exact h.place.takeOrder
theorem RolesKept.orderLeaves {a : ActiveConsist} {f : Frame} (h : RolesKept r s) : RolesKept r (s.orderLeaves a f) := by
  unfold State.orderLeaves
  simp only
  split
  · exact (h.tickMoment.modTrack).modDoor.unprove
  · exact h.tickMoment.modTrack
theorem RolesKept.placeOrder {a : ActiveConsist} {f : Frame} (h : RolesKept r s) : RolesKept r (s.placeOrder a f) := by
  unfold State.placeOrder
  split
  · exact h.orderLeaves
  · exact h.place
theorem RolesKept.checkComplete (h : RolesKept r s) : RolesKept r s.checkComplete := by
  unfold State.checkComplete
  split
  · split
    · exact h.modTrack.raise
    · exact h
  · exact h
theorem RolesKept.issue {a : ActiveConsist} {x : DoorAction} {y : TrainSide} {m n : Nat} (h : RolesKept r s) :
    RolesKept r (s.issue a x y m n) := by
  unfold State.issue
  simp only
  split
  · exact h.modDoor.modTrack.checkComplete.takeOrder.placeOrder.unprove.requestCall
  · exact h.modDoor.modTrack.checkComplete.takeOrder.placeOrder.requestCall
theorem RolesKept.setStandstill {v : Bool} (h : RolesKept r s) : RolesKept r (s.setStandstill v) := by
  unfold State.setStandstill State.automaticClose
  simp only
  split
  · split
    · split
      · exact h.modDoor.issue.requestCall
      · exact h.modDoor.requestCall
    · exact h.modDoor.requestCall
  · exact h.modDoor.requestCall
theorem RolesKept.issueFromOperands {p : PortId} (h : RolesKept r s) : RolesKept r (s.issueFromOperands p) := by
  unfold State.issueFromOperands
  split
  · exact h.issue
  · exact h
theorem RolesKept.readEchoes {a : ActiveConsist} {records : List CycleRecord} (h : RolesKept r s) :
    RolesKept r (s.readEchoes a records) := by
  unfold State.readEchoes State.repeatOrLose
  simp only
  split
  · split
    · split
      · exact h.modTrack.checkComplete
      · split
        · exact h.modTrack.modTrack.checkComplete
        · exact h.modTrack.modTrack.placeOrder.checkComplete
    · exact h
  · exact h

/-- A head that evaluates its proof: PROVED, with the lifetime running, or UNPROVEN (R116, R118). -/
theorem RolesKept.evaluateProof {n : Nat} {records : List CycleRecord} (h : RolesKept r s) (head : r.heading = true) :
    RolesKept r (s.evaluateProof n records) := by
  unfold State.evaluateProof
  split
  · generalize hx : s.modTrack _ = x
    have setsProof : (x.setProof true).track = { x.track with proved := true } := by
      unfold State.setProof
      split
      · next same => rw [← same]
      · rw [raise_track]; rfl
    have still : (x.setProof true).forget [.tracking, .portOf .portA, .portOf .portB]
        = s.forget [.tracking, .portOf .portA, .portOf .portB] := by rw [← hx]; simp
    refine ⟨(sameBlock_of_forget still .inauguration (by simp) : _ = s.inaug).trans h.inaug, ?_, ?_, fun _ => ?_,
      fun _ => .inr head⟩
    · rw [show (x.setProof true).cycle = s.cycle from sameBlock_of_forget still .cycle (by simp)]
      exact h.cycle
    · rw [show (x.setProof true).grants = s.grants from sameBlock_of_forget still .grants (by simp)]
      exact h.inUse
    · rw [setsProof, ← hx]
      rfl
  · exact h.unprove
theorem RolesKept.doorReturn {a : ActiveConsist} {records : List CycleRecord} (h : RolesKept r s) (head : r.heading = true) :
    RolesKept r (s.doorReturn a records) := h.modDoor.readEchoes.evaluateProof head

/-! ### Grant Engine -/

theorem RolesKept.shed {a : ActiveConsist} (h : RolesKept r s) : RolesKept r (s.shed a) := by
  unfold State.shed
  simp only
  split
  · exact h.modGrants
  · exact h.modGrants.raise
theorem RolesKept.grantReturn {a : ActiveConsist} {records : List CycleRecord} (h : RolesKept r s) :
    RolesKept r (s.grantReturn a records) := by
  unfold State.grantReturn State.raiseGrants
  simp only
  split
  · exact h.modGrants.shed.modGrants
  · exact h.modGrants.modGrants
theorem RolesKept.useSettle {l : LastSettle} (h : RolesKept r s) : RolesKept r (s.useSettle l) := by
  unfold State.useSettle State.takeGrant
  simp only
  split
  · exact h.modCycle.ceilingFromGrant
  · split
    · exact h.modCycle.ceilingFromGrant
    · exact h.modCycle.ceilingFromGrant.modGrants.raise
theorem RolesKept.setBudget {v : Nat} (h : RolesKept r s) : RolesKept r (s.setBudget v) := by
  unfold State.setBudget
  simp only
  split
  · split
    · exact h.modGrants.shed.requestCall
    · exact h.modGrants.requestCall
  · exact h.modGrants.requestCall

end Sys2Proof.Machine

/-! SUPPORT. The roles of a node, case by case, and what a leaving, a commit and an attempt make of them (R25 to R50). -/

namespace Sys2Proof.Machine

variable {r s t : State}

/-! ## The roles, case by case -/

/-- The head parts are at rest: no cycle, no grants in use, no proof (R67, R117, R123). -/
structure HeadRests (s : State) : Prop where
  state : s.cycle.state = .none
  cycleTimeout : s.cycle.cycleTimeout = none
  periodTimer : s.cycle.periodTimer = none
  refreshTimer : s.cycle.refreshTimer = none
  inUse : s.grants.inUse = false
  proved : s.track.proved = false
  lifetime : s.track.lifetime = none

/-- The head parts are at work (R67, R116, R122). -/
structure HeadWorks (s : State) : Prop where
  state : s.cycle.state ≠ .none
  inUse : s.grants.inUse = true
  lifetime : s.track.lifetime.isSome = s.track.proved

/-- The timers of a count are stopped (R31, R41, R45). -/
def State.CountStopped (s : State) : Prop :=
  s.inaug.inaugurationTimer = none ∧ s.inaug.hopTimer = none ∧ s.inaug.commitWait = none

/-- The node is neither CLAIMING nor HEADING. -/
def State.NoHead (s : State) : Prop := s.claiming = false ∧ s.heading = false

/-- Where a head stands: position 1, its head-ward End OPEN, its identity locked (2.1, R25, R48). -/
def HeadStands (links : EndId → LinkState) (s : State) (headward : EndId) (position : Nat) : Prop :=
  position = 1 ∧ links headward = .opened ∧ s.power.locked = true

/-- The roles of a node and what they rest on, with the link states its Ends report. -/
inductive RoleOk (links : EndId → LinkState) (s : State) : Prop where
  | unassigned (role : s.inaug.role = .unassigned) (away : s.NoHead) (stopped : s.CountStopped)
      (silence : s.inaug.silence = none) (rests : HeadRests s)
  | counted (x : CountRecord) (role : s.inaug.role = .counted x) (away : s.NoHead)
      (timer : s.inaug.inaugurationTimer = none) (silence : s.inaug.silence = none) (rests : HeadRests s)
      (awake : s.asleep = false)
  | claiming (x : CountRecord) (role : s.inaug.role = .counted x) (head : s.inaug.headRole = .claiming)
      (wait : s.inaug.commitWait = none) (silence : s.inaug.silence = none) (rests : HeadRests s)
      (awake : s.asleep = false) (loaded : s.loading = false) (stands : HeadStands links s x.headward x.position)
  | member (a : ActiveConsist) (role : s.inaug.role = .member a) (away : s.NoHead) (stopped : s.CountStopped)
      (rests : HeadRests s) (awake : s.asleep = false) (loaded : s.loading = false) (fits : a.identity.Fits)
  | heading (a : ActiveConsist) (role : s.inaug.role = .member a) (head : s.inaug.headRole = .heading)
      (stopped : s.CountStopped) (silence : s.inaug.silence = none) (works : HeadWorks s)
      (awake : s.asleep = false) (loaded : s.loading = false) (fits : a.identity.Fits)
      (stands : HeadStands links s a.headward a.position)

/-- The power state, the sense of an awake node, and the own vehicle number (R1, R179, R185, R188). -/
structure PowerOk (s : State) : Prop where
  reads : s.power.held = true ∨ s.power.readTimer.isSome = true → s.loading = true
  settles : s.power.wakeSettle.isSome = true → s.power.state = .waking
  senses : s.asleep = false → ∀ e, (s.lineEnd e).sense = .opened ↔ (s.lineEnd e).link = .opened
  vehicle : s.power.record.vehicle < 2 ^ 32

/-- The link states of the Ends. -/
def State.links (s : State) (e : EndId) : LinkState := (s.lineEnd e).link

theorem claiming_iff (s : State) : s.claiming = true ↔ s.inaug.headRole = .claiming := by simp [State.claiming]
theorem heading_iff (s : State) : s.heading = true ↔ s.inaug.headRole = .heading := by simp [State.heading]

theorem timer_none {x : Timer} (h : ¬x.isSome = true) : x = none := by simpa using h

theorem HeadRests.of_away (h : RoleTimersOk s) (away : s.heading = false) : HeadRests s := by
  obtain ⟨-, -, -, -, timers, state, inUse, proved, lifetime⟩ := h
  rw [away] at timers state inUse proved
  have unproved : s.track.proved = false := by
    cases p : s.track.proved with
    | false => rfl
    | true => cases proved p
  refine ⟨?_, timer_none fun p => ?_, timer_none fun p => ?_, timer_none fun p => ?_, inUse, unproved, timer_none fun p => ?_⟩
  · by_contra running
    cases state.1 running
  · cases timers (.inl p)
  · cases timers (.inr (.inl p))
  · cases timers (.inr (.inr p))
  · rw [lifetime, unproved] at p
    cases p

theorem HeadWorks.of_heading (h : RoleTimersOk s) (head : s.heading = true) : HeadWorks s := by
  obtain ⟨-, -, -, -, -, state, inUse, -, lifetime⟩ := h
  exact ⟨state.2 head, inUse.trans head, lifetime⟩

/-- An invariant of the roles is one of its cases. -/
theorem RolesOk.roleOk (h : RolesOk s) : RoleOk s.links s := by
  obtain ⟨⟨valid, update, stands⟩, timers, ⟨-, -, loading, asleep, -⟩, -, fits⟩ := h
  have rests := HeadRests.of_away timers
  have works := HeadWorks.of_heading timers
  obtain ⟨inauguration, hop, wait, silent, -⟩ := timers
  have loaded : s.heading = true ∨ s.claiming = true ∨ s.valid = true → s.loading = false := by
    intro role
    by_contra on
    obtain ⟨noHead, noClaim, noConsist⟩ := loading (by simpa using on)
    rcases role with head | claim | member
    · rw [noHead] at head; cases head
    · rw [noClaim] at claim; cases claim
    · rw [noConsist] at member; cases member
  have awake : s.inaug.role ≠ .unassigned → s.asleep = false := by
    intro role
    by_contra on
    exact role (asleep (by simpa using on)).1
  cases role : s.inaug.role with
  | unassigned =>
    have noCount : s.updateInProgress = false := by simp [State.updateInProgress, State.counted, role]
    have noConsist : s.valid = false := by simp [State.valid, State.active, role]
    rw [noConsist] at valid silent
    rw [noCount] at update hop wait
    have noClaim : s.claiming = false := by
      by_contra on
      cases update (by simpa using on)
    have noHead : s.heading = false := by
      by_contra on
      cases valid (by simpa using on)
    rw [noClaim] at inauguration
    exact .unassigned role ⟨noClaim, noHead⟩
      ⟨timer_none fun p => (by cases inauguration p), timer_none fun p => (by cases hop p),
        timer_none fun p => (by cases (wait p).1)⟩ (timer_none fun p => by cases (silent p).1) (rests noHead)
  | counted x =>
    have noConsist : s.valid = false := by simp [State.valid, State.active, role]
    have noHead : s.heading = false := by
      by_contra on
      rw [noConsist] at valid
      cases valid (by simpa using on)
    have wakes := awake (by rw [role]; nofun)
    have silence : s.inaug.silence = none := timer_none fun p => by rw [noConsist] at silent; cases (silent p).1
    cases claim : s.claiming with
    | false =>
      rw [claim] at inauguration
      exact .counted x role ⟨claim, noHead⟩ (timer_none fun p => by cases inauguration p) silence (rests noHead) wakes
    | true =>
      obtain ⟨position, link, locked⟩ := stands (.inr claim)
      simp only [State.ownPosition, State.headward, role, Option.some.injEq, Option.map_some] at position link
      exact .claiming x role ((claiming_iff s).1 claim)
        (timer_none fun p => by have off := (wait p).2; rw [claim] at off; cases off) silence
        (rests noHead) wakes (loaded (.inr (.inl claim))) ⟨position, link, locked⟩
  | member a =>
    have noCount : s.updateInProgress = false := by simp [State.updateInProgress, State.counted, role]
    have member : s.valid = true := by simp [State.valid, State.active, role]
    rw [noCount] at update hop wait
    have noClaim : s.claiming = false := by
      by_contra on
      cases update (by simpa using on)
    rw [noClaim] at inauguration
    have stopped : s.CountStopped := ⟨timer_none fun p => (by cases inauguration p), timer_none fun p => (by cases hop p),
      timer_none fun p => (by cases (wait p).1)⟩
    have wakes := awake (by rw [role]; nofun)
    have fitting := fits a (active_of_role role)
    cases head : s.heading with
    | false =>
      exact .member a role ⟨noClaim, head⟩ stopped (rests head) wakes (loaded (.inr (.inr member))) fitting
    | true =>
      obtain ⟨position, link, locked⟩ := stands (.inl head)
      simp only [State.ownPosition, State.headward, role, Option.some.injEq, Option.map_some] at position link
      exact .heading a role ((heading_iff s).1 head) stopped
        (timer_none fun p => by have off := (silent p).2; rw [head] at off; cases off) (works head) wakes
        (loaded (.inl head)) fitting ⟨position, link, locked⟩

theorem RolesOk.powerOk (h : RolesOk s) : PowerOk s := by
  obtain ⟨-, -, ⟨reads, settles, -, -, senses⟩, vehicle, -⟩ := h
  exact ⟨reads, settles, senses, vehicle⟩

/-- Without a head the head parts are at rest, with their timers. -/
theorem HeadRests.timers (h : HeadRests s) (away : s.heading = false) :
    (s.cycle.cycleTimeout.isSome = true ∨ s.cycle.periodTimer.isSome = true ∨ s.cycle.refreshTimer.isSome = true →
        s.heading = true)
      ∧ (s.cycle.state ≠ .none ↔ s.heading = true) ∧ s.grants.inUse = s.heading
      ∧ (s.track.proved = true → s.heading = true) ∧ s.track.lifetime.isSome = s.track.proved := by
  obtain ⟨state, timeout, period, refresh, inUse, proved, lifetime⟩ := h
  rw [state, timeout, period, refresh, inUse, proved, lifetime, away]
  simp

theorem HeadWorks.timers (h : HeadWorks s) (head : s.heading = true) :
    (s.cycle.cycleTimeout.isSome = true ∨ s.cycle.periodTimer.isSome = true ∨ s.cycle.refreshTimer.isSome = true →
        s.heading = true)
      ∧ (s.cycle.state ≠ .none ↔ s.heading = true) ∧ s.grants.inUse = s.heading
      ∧ (s.track.proved = true → s.heading = true) ∧ s.track.lifetime.isSome = s.track.proved :=
  ⟨fun _ => head, ⟨fun _ => head, fun _ => h.state⟩, h.inUse.trans head.symm, fun _ => head, h.lifetime⟩

/-- Each case meets the invariant. -/
theorem RoleOk.rolesOk (h : RoleOk s.links s) (p : PowerOk s) : RolesOk s := by
  obtain ⟨reads, settles, senses, vehicle⟩ := p
  cases h with
  | unassigned role away stopped silence rests =>
    obtain ⟨claim, head⟩ := away
    obtain ⟨i, h, c⟩ := stopped
    have parts := rests.timers head
    simp_all [RolesOk, HeadOk, RoleTimersOk, PowerRolesOk, IdentityOk, State.valid, State.active]
  | counted x role away timer silence rests awake =>
    obtain ⟨claim, head⟩ := away
    have parts := rests.timers head
    simp_all [RolesOk, HeadOk, RoleTimersOk, PowerRolesOk, IdentityOk, State.valid, State.active, State.updateInProgress,
      State.counted]
  | claiming x role head wait silence rests awake loaded stands =>
    obtain ⟨position, link, locked⟩ := stands
    have claim := (claiming_iff s).2 head
    have away : s.heading = false := by simp [State.heading, head]
    have parts := rests.timers away
    simp_all [RolesOk, HeadOk, RoleTimersOk, PowerRolesOk, IdentityOk, State.valid, State.active, State.updateInProgress,
      State.counted, State.ownPosition, State.headward, State.links]
  | member a role away stopped rests awake loaded fits =>
    obtain ⟨claim, head⟩ := away
    obtain ⟨i, h, c⟩ := stopped
    have parts := rests.timers head
    simp_all [RolesOk, HeadOk, RoleTimersOk, PowerRolesOk, IdentityOk, State.valid, State.active]
  | heading a role head stopped silence works awake loaded fits stands =>
    obtain ⟨position, link, locked⟩ := stands
    obtain ⟨i, h, c⟩ := stopped
    have heads := (heading_iff s).2 head
    have claim : s.claiming = false := by simp [State.claiming, head]
    have parts := works.timers heads
    simp_all [RolesOk, HeadOk, RoleTimersOk, PowerRolesOk, IdentityOk, State.valid, State.active, State.updateInProgress,
      State.counted, State.ownPosition, State.headward, State.links]

theorem rolesOk_iff (s : State) : RolesOk s ↔ RoleOk s.links s ∧ PowerOk s :=
  ⟨fun h => ⟨h.roleOk, h.powerOk⟩, fun ⟨h, p⟩ => h.rolesOk p⟩

end Sys2Proof.Machine

/-! SUPPORT. What a leaving, a recount, a commit and an attempt make of the roles of the node (R25 to R49, R65, R67). -/

namespace Sys2Proof.Machine

variable {r s t : State} {l k : EndId → LinkState}

/-! ## Operations that change no role -/

theorem RolesKept.roleChanged (h : RolesKept r s) : RolesKept r s.roleChanged := h.modCycle.modGrants
theorem RolesKept.reportRecount (h : RolesKept r s) : RolesKept r s.reportRecount :=
  h.doorReport.elsewhere (by simp [State.reportRecount, roleless])
theorem RolesKept.emptyOrder (h : RolesKept r s) : RolesKept r s.emptyOrder := h.modTrack

theorem HeadRests.kept (h : HeadRests s) (kept : RolesKept s t) (away : s.heading = false) : HeadRests t := by
  obtain ⟨state, timeout, period, refresh, inUse, proved, lifetime⟩ := h
  obtain ⟨-, ⟨stateT, timeoutT, periodT, refreshT⟩, inUseT, lifetimeT, provedT⟩ := kept
  have unproved : t.track.proved = false := by
    by_contra on
    rcases provedT (by simpa using on) with was | head
    · rw [proved] at was; cases was
    · rw [away] at head; cases head
  refine ⟨stateT.trans state, timeoutT.trans timeout, periodT.trans period, refreshT.trans refresh, inUseT.trans inUse,
    unproved, timer_none fun p => ?_⟩
  rw [lifetimeT (by rw [proved, lifetime]; rfl), unproved] at p
  cases p

theorem HeadWorks.kept (h : HeadWorks s) (kept : RolesKept s t) : HeadWorks t := by
  obtain ⟨state, inUse, lifetime⟩ := h
  obtain ⟨-, ⟨stateT, -⟩, inUseT, lifetimeT, -⟩ := kept
  exact ⟨by rw [stateT]; exact state, inUseT.trans inUse, lifetimeT lifetime⟩

theorem State.NoHead.of_headRole (away : s.NoHead) (same : t.inaug.headRole = s.inaug.headRole) : t.NoHead := by
  obtain ⟨claim, head⟩ := away
  unfold State.claiming at claim
  unfold State.heading at head
  exact ⟨by unfold State.claiming; rw [same]; exact claim, by unfold State.heading; rw [same]; exact head⟩

theorem asleep_of_power (p : t.power = s.power) : t.asleep = s.asleep := by unfold State.asleep; rw [p]
theorem loading_of_power (p : t.power = s.power) : t.loading = s.loading := by unfold State.loading; rw [p]

theorem HeadStands.of_locked {e : EndId} {n : Nat} (h : HeadStands l s e n) (locked : t.power.locked = true) :
    HeadStands l t e n := ⟨h.1, h.2.1, locked⟩

/-- Where no role changes, the roles stay in agreement, if the node does not fall asleep or begin to load, and a lock stays. -/
theorem RoleOk.repower (h : RoleOk l s) (kept : RolesKept s t) (wakes : s.asleep = false → t.asleep = false)
    (loads : s.loading = false → t.loading = false)
    (locks : s.loading = false → s.power.locked = true → t.power.locked = true) : RoleOk l t := by
  have inaug := kept.inaug
  have away (n : s.NoHead) : t.NoHead := n.of_headRole (by rw [inaug])
  have stops (n : s.CountStopped) : t.CountStopped := by unfold State.CountStopped; rw [inaug]; exact n
  cases h with
  | unassigned role none stopped silence rests =>
    exact .unassigned (by rw [inaug, role]) (away none) (stops stopped) (by rw [inaug, silence]) (rests.kept kept none.2)
  | counted x role none timer silence rests awake =>
    exact .counted x (by rw [inaug, role]) (away none) (by rw [inaug, timer]) (by rw [inaug, silence])
      (rests.kept kept none.2) (wakes awake)
  | claiming x role head wait silence rests awake loaded stands =>
    exact .claiming x (by rw [inaug, role]) (by rw [inaug, head]) (by rw [inaug, wait]) (by rw [inaug, silence])
      (rests.kept kept (by simp [State.heading, head])) (wakes awake) (loads loaded)
      (stands.of_locked (locks loaded stands.2.2))
  | member a role none stopped rests awake loaded fits =>
    exact .member a (by rw [inaug, role]) (away none) (stops stopped) (rests.kept kept none.2) (wakes awake)
      (loads loaded) fits
  | heading a role head stopped silence works awake loaded fits stands =>
    exact .heading a (by rw [inaug, role]) (by rw [inaug, head]) (stops stopped) (by rw [inaug, silence])
      (works.kept kept) (wakes awake) (loads loaded) fits (stands.of_locked (locks loaded stands.2.2))

/-- Where no role and no power state changes, the roles stay in agreement. -/
theorem RoleOk.kept (h : RoleOk l s) (kept : RolesKept s t) (p : t.power = s.power) : RoleOk l t :=
  h.repower kept (asleep_of_power p).trans (loading_of_power p).trans fun _ locked => by rw [p]; exact locked

/-! ## What the roles say of the head parts -/

theorem RoleOk.rests (h : RoleOk l s) (away : s.heading = false) : HeadRests s := by
  cases h with
  | unassigned _ _ _ _ rests => exact rests
  | counted _ _ _ _ _ rests => exact rests
  | claiming _ _ _ _ _ rests => exact rests
  | member _ _ _ _ rests => exact rests
  | heading _ _ head => rw [(heading_iff s).2 head] at away; cases away

theorem RoleOk.works (h : RoleOk l s) (head : s.heading = true) : HeadWorks s := by
  have role := (heading_iff s).1 head
  cases h with
  | unassigned _ away => rw [away.2] at head; cases head
  | counted _ _ away => rw [away.2] at head; cases head
  | claiming _ _ claim => rw [claim] at role; cases role
  | member _ _ away => rw [away.2] at head; cases head
  | heading _ _ _ _ _ works => exact works

theorem RoleOk.member_of_heading (h : RoleOk l s) (head : s.heading = true) : ∃ a, s.active = some a := by
  have role := (heading_iff s).1 head
  cases h with
  | unassigned _ away => rw [away.2] at head; cases head
  | counted _ _ away => rw [away.2] at head; cases head
  | claiming _ _ claim => rw [claim] at role; cases role
  | member _ _ away => rw [away.2] at head; cases head
  | heading a member => exact ⟨a, active_of_role member⟩

theorem RoleOk.not_heading_of_counted {x : CountRecord} (h : RoleOk l s) (role : s.inaug.role = .counted x) :
    s.heading = false := by
  by_contra on
  obtain ⟨a, ha⟩ := h.member_of_heading (by simpa using on)
  rw [role_of_active ha] at role
  cases role

theorem RoleOk.silence_of_counted {x : CountRecord} (h : RoleOk l s) (role : s.inaug.role = .counted x) :
    s.inaug.silence = none := by
  cases h with
  | unassigned none => rw [none] at role; cases role
  | counted _ _ _ _ silence => exact silence
  | claiming _ _ _ _ silence => exact silence
  | member _ member => rw [member] at role; cases role
  | heading _ member => rw [member] at role; cases role

/-! ## Leaving -/

/-- The leaving of a member brings the head parts to rest (R65, R67). -/
theorem headRests_leaveMember {a : ActiveConsist} {next : NodeRole} {cause : LeaveCause} (h : RoleOk l s)
    (away : ∀ b, next ≠ .member b) : HeadRests (s.leaveMember a next cause) := by
  cases head : s.heading with
  | true =>
    obtain ⟨track, cycle, grants, -⟩ := headLeaves_items (a := a) (cause := cause) head away
    exact ⟨by rw [cycle], by rw [cycle], by rw [cycle], by rw [cycle], by rw [grants], by rw [track], by rw [track]⟩
  | false =>
    obtain ⟨track, cycle, grants, -⟩ := left_items (s := s) (cause := cause) away
    obtain ⟨state, timeout, period, refresh, inUse, proved, lifetime⟩ := h.rests head
    rw [leaveMember_member head]
    exact ⟨by rw [cycle, ← state], by rw [cycle, ← timeout], by rw [cycle, ← period], by rw [cycle, ← refresh],
      by rw [grants, ← inUse], by rw [track, proved], by rw [track, lifetime]⟩

/-- The node has gone UNASSIGNED, and nothing of a consist or a count goes on. -/
structure GoneFrom (s t : State) : Prop where
  role : t.inaug.role = .unassigned
  headRole : t.inaug.headRole = s.inaug.headRole
  stopped : t.CountStopped
  silence : t.inaug.silence = none
  rests : HeadRests t

theorem goneFrom_goUnassigned (h : RoleOk l s) (cause : LeaveCause) : GoneFrom s (s.goUnassigned cause) := by
  cases role : s.inaug.role with
  | unassigned =>
    have stays : s.goUnassigned cause = s := by unfold State.goUnassigned; rw [role]
    rw [stays]
    cases h with
    | unassigned _ _ stopped silence rests => exact ⟨role, rfl, stopped, silence, rests⟩
    | counted _ counted => rw [counted] at role; cases role
    | claiming _ counted => rw [counted] at role; cases role
    | member _ member => rw [member] at role; cases role
    | heading _ member => rw [member] at role; cases role
  | counted x =>
    have inaug := inaug_goUnassigned_counted cause (counted_of_role role)
    have away := h.not_heading_of_counted role
    refine ⟨by rw [inaug], by rw [inaug], by rw [State.CountStopped, inaug]; exact ⟨rfl, rfl, rfl⟩,
      by rw [inaug]; exact h.silence_of_counted role, ?_⟩
    have leaves : HeadRests (s.modInaug fun i => { i.stopTimers with role := .unassigned, lastCause := some cause }) := by
      obtain ⟨state, timeout, period, refresh, inUse, proved, lifetime⟩ := h.rests away
      exact ⟨state, timeout, period, refresh, inUse, proved, lifetime⟩
    rw [goUnassigned_counted cause (counted_of_role role)]
    exact leaves.kept (RolesKept.refl _).roleChanged.raise.fallBack away
  | member a =>
    have goes : s.goUnassigned cause
        = ((s.leaveMember a .unassigned cause).modInaug Inauguration.stopTimers).fallBack := by
      unfold State.goUnassigned; rw [role]
    have inaug : ((s.leaveMember a .unassigned cause).modInaug Inauguration.stopTimers).inaug
        = { s.inaug with role := .unassigned, silence := none, lastCause := some cause }.stopTimers := by
      rw [modInaug_inaug, leaveMember_inaug (next := .unassigned) nofun]
    have rests := headRests_leaveMember (a := a) (next := .unassigned) (cause := cause) h nofun
    have none : ((s.leaveMember a .unassigned cause).modInaug Inauguration.stopTimers).active = none := by
      unfold State.active
      rw [inaug]
      rfl
    have still := forget_fallBack_away [.stages] none (by simp)
    rw [goes]
    refine ⟨by rw [fallBack_inaug, inaug]; rfl, by rw [fallBack_inaug, inaug]; rfl,
      by rw [State.CountStopped, fallBack_inaug, inaug]; exact ⟨rfl, rfl, rfl⟩, by rw [fallBack_inaug, inaug]; rfl, ?_⟩
    obtain ⟨state, timeout, period, refresh, inUse, proved, lifetime⟩ := rests
    have cycle : (State.fallBack _).cycle = (s.leaveMember a .unassigned cause).cycle :=
      sameBlock_of_forget still .cycle (by simp)
    have grants : (State.fallBack _).grants = (s.leaveMember a .unassigned cause).grants :=
      sameBlock_of_forget still .grants (by simp)
    have track : (State.fallBack _).track = (s.leaveMember a .unassigned cause).track :=
      sameBlock_of_forget still .tracking (by simp)
    exact ⟨by rw [cycle, state], by rw [cycle, timeout], by rw [cycle, period], by rw [cycle, refresh],
      by rw [grants, inUse], by rw [track, proved], by rw [track, lifetime]⟩

/-- A node that was no head goes UNASSIGNED. -/
theorem RoleOk.goUnassigned {cause : LeaveCause} (h : RoleOk l s) (away : s.NoHead) : RoleOk k (s.goUnassigned cause) := by
  obtain ⟨role, headRole, stopped, silence, rests⟩ := goneFrom_goUnassigned h cause
  exact .unassigned role (away.of_headRole headRole) stopped silence rests

theorem noHead_modInaug {g : Inauguration → Inauguration} (h : (g s.inaug).headRole ≠ .claiming ∧ (g s.inaug).headRole ≠ .heading) :
    (s.modInaug g).NoHead := by
  obtain ⟨claim, head⟩ := h
  exact ⟨decide_eq_false claim, decide_eq_false head⟩

/-- A node gone UNASSIGNED holds a claim no more (R46, R48, R49). -/
theorem GoneFrom.withHeadRole {x : HeadRole} (h : GoneFrom s t) (hx : x ≠ .claiming ∧ x ≠ .heading) :
    RoleOk k (t.modInaug fun i => { i with headRole := x }) := by
  obtain ⟨role, -, stopped, silence, ⟨state, timeout, period, refresh, inUse, proved, lifetime⟩⟩ := h
  exact .unassigned role (noHead_modInaug hx) stopped silence ⟨state, timeout, period, refresh, inUse, proved, lifetime⟩

theorem GoneFrom.failClaim {why : ClaimFailure} (h : GoneFrom s t) : RoleOk k (t.failClaim why) :=
  (h.withHeadRole (x := .claimFailed why) ⟨nofun, nofun⟩).kept (RolesKept.refl _).emptyOrder.raise (skeleton_power (by simp))

theorem GoneFrom.dropClaim (h : GoneFrom s t) : RoleOk k t.dropClaim :=
  (h.withHeadRole (x := .noClaim) ⟨nofun, nofun⟩).kept (RolesKept.refl _).emptyOrder (skeleton_power (by simp))

/-- A node that is no head shows another head role (R25, R46). -/
theorem RoleOk.withHeadRole {x : HeadRole} (h : RoleOk l s) (away : s.NoHead) (hx : x ≠ .claiming ∧ x ≠ .heading) :
    RoleOk k (s.modInaug fun i => { i with headRole := x }) := by
  have rests : HeadRests (s.modInaug fun i => { i with headRole := x }) := by
    obtain ⟨state, timeout, period, refresh, inUse, proved, lifetime⟩ := h.rests away.2
    exact ⟨state, timeout, period, refresh, inUse, proved, lifetime⟩
  cases h with
  | unassigned role _ stopped silence => exact .unassigned role (noHead_modInaug hx) stopped silence rests
  | counted y role _ timer silence _ awake => exact .counted y role (noHead_modInaug hx) timer silence rests awake
  | claiming _ _ head => rw [State.NoHead, State.claiming, head] at away; cases away.1
  | member a role _ stopped _ awake loaded fits => exact .member a role (noHead_modInaug hx) stopped rests awake loaded fits
  | heading _ _ head => rw [State.NoHead, State.heading, head] at away; cases away.2

theorem RoleOk.failClaim {why : ClaimFailure} (h : RoleOk l s) (away : s.NoHead) : RoleOk k (s.failClaim why) :=
  (h.withHeadRole (x := .claimFailed why) away ⟨nofun, nofun⟩).kept (RolesKept.refl _).emptyOrder.raise (skeleton_power (by simp))

theorem RoleOk.dropClaim (h : RoleOk l s) (away : s.NoHead) : RoleOk k s.dropClaim :=
  (h.withHeadRole (x := .noClaim) away ⟨nofun, nofun⟩).kept (RolesKept.refl _).emptyOrder (skeleton_power (by simp))

/-! ## Recounts -/

/-- A recount makes the node COUNTED, with the head parts at rest (R26, R29). -/
theorem recount_items (h : RoleOk l s) (x : CountRecord) :
    (s.recount x).inaug.role = .counted x ∧ (s.recount x).inaug.headRole = s.inaug.headRole
      ∧ (s.recount x).inaug.silence = none ∧ HeadRests (s.recount x) := by
  cases role : s.inaug.role with
  | unassigned =>
    have counts : s.recount x = (s.modInaug fun i => { i with role := .counted x }).roleChanged.reportRecount := by
      unfold State.recount; rw [role]
    rw [counts, reportRecount_inaug]
    cases h with
    | unassigned _ away _ silence rests =>
      obtain ⟨state, timeout, period, refresh, inUse, proved, lifetime⟩ := rests
      have begins : HeadRests (s.modInaug fun i => { i with role := .counted x }) :=
        ⟨state, timeout, period, refresh, inUse, proved, lifetime⟩
      exact ⟨rfl, rfl, silence, begins.kept (RolesKept.refl _).roleChanged.reportRecount away.2⟩
    | counted _ counted => rw [counted] at role; cases role
    | claiming _ counted => rw [counted] at role; cases role
    | member _ member => rw [member] at role; cases role
    | heading _ member => rw [member] at role; cases role
  | counted y =>
    have counts : s.recount x = (s.modInaug fun i => { i with role := .counted x }).reportRecount := by
      unfold State.recount; rw [role]
    have away := h.not_heading_of_counted role
    obtain ⟨state, timeout, period, refresh, inUse, proved, lifetime⟩ := h.rests away
    have begins : HeadRests (s.modInaug fun i => { i with role := .counted x }) :=
      ⟨state, timeout, period, refresh, inUse, proved, lifetime⟩
    rw [counts, reportRecount_inaug]
    exact ⟨rfl, rfl, h.silence_of_counted role, begins.kept (RolesKept.refl _).reportRecount away⟩
  | member a =>
    rw [recount_member (active_of_role role), leaveMember_inaug (next := .counted x) nofun]
    exact ⟨rfl, rfl, rfl, headRests_leaveMember h nofun⟩

/-! ## Committing and attempts -/

/-- What a node needs to be a head: it is awake and not in LOADING, its identity is locked and fits its field, and an End
that senses the end of the train is OPEN. -/
structure CanHead (l : EndId → LinkState) (s : State) : Prop where
  awake : s.asleep = false
  loaded : s.loading = false
  locked : s.power.locked = true
  vehicle : s.power.record.vehicle < 2 ^ 32
  opens : ∀ e, (s.lineEnd e).sense = .opened → l e = .opened

theorem skeleton_sense (h : t.skeleton = s.skeleton) (e : EndId) : (t.lineEnd e).sense = (s.lineEnd e).sense := by
  have same := congrArg LineEnd.sense (skeleton_still h e)
  exact same

theorem CanHead.engine (h : CanHead l s) (same : t.skeleton = s.skeleton) : CanHead l t := by
  obtain ⟨awake, loaded, locked, vehicle, opens⟩ := h
  have power := skeleton_power same
  exact ⟨(asleep_of_power power).trans awake, (loading_of_power power).trans loaded, by rw [power]; exact locked,
    by rw [power]; exact vehicle, fun e => by rw [skeleton_sense same]; exact opens e⟩

/-- A commit makes a head (R40, R67). -/
theorem roleOk_commit {x : CountRecord} {n : Nat} {others : List RosterEntry} {truncated : Bool} (can : CanHead l s)
    (silence : s.inaug.silence = none) (stands : l x.headward = .opened) : RoleOk l (s.commit x n others truncated) := by
  obtain ⟨inaug, -, -, ⟨c, cycle⟩, grants, -, track, -⟩ := commit_items s x n others truncated
  obtain ⟨inaugC, grantsC, -, trackC⟩ := claimed_items s x n others truncated
  have commits : (s.commit x n others truncated).skeleton = s.skeleton := by simp
  obtain ⟨awake, loaded, locked, vehicle, -⟩ := can.engine commits
  rw [inaugC] at inaug
  refine .heading (s.headConsist x n others) (by rw [inaug]) (by rw [inaug])
    (by rw [State.CountStopped, inaug]; exact ⟨rfl, rfl, rfl⟩) (by rw [inaug]; exact silence) ?_ awake loaded ?_
    ⟨rfl, stands, locked⟩
  · exact ⟨by rw [cycle]; nofun, by rw [grants, grantsC], by rw [track, trackC]; rfl⟩
  · refine ⟨can.vehicle, ?_⟩
    have wraps := nextWrap_le 65535 s.inaug.generation (by decide)
    exact Nat.lt_of_le_of_lt wraps (by decide)

/-- An attempt with a head-ward End that is OPEN (R26, R27). -/
theorem RoleOk.attemptFrom {e : EndId} {n : Nat} (h : RoleOk l s) (can : CanHead l s) (o : l e = .opened) :
    RoleOk l (s.attemptFrom e n) := by
  obtain ⟨role, -, silence, rests⟩ := recount_items h (s.claimRecord e n)
  by_cases alone : (s.lineEnd e.other).link = .opened
  · rw [attemptFrom_alone alone]
    exact roleOk_commit (can.engine (by simp)) silence o
  · have same : (s.attempts e n).skeleton = s.skeleton := by rw [← attemptFrom_closed alone]; simp
    obtain ⟨awake, loaded, locked, -⟩ := can.engine same
    obtain ⟨track, cycle, grants, -⟩ := attempts_items s e n
    obtain ⟨state, timeout, period, refresh, inUse, proved, lifetime⟩ := rests
    have inaug : ∃ timer hop, (s.attempts e n).inaug = { (s.recount (s.claimRecord e n)).inaug.stopTimers with
        headRole := .claiming, attempt := n, inaugurationTimer := timer, hopTimer := hop } := by
      unfold State.attempts State.startHop
      simp only [modInaug_inaug, (place_rest _ _ _ _).1]
      exact ⟨_, _, rfl⟩
    obtain ⟨timer, hop, inaug⟩ := inaug
    rw [attemptFrom_closed alone]
    exact .claiming (s.claimRecord e n) (by rw [inaug]; exact role) (by rw [inaug]) (by rw [inaug]; rfl)
      (by rw [inaug]; exact silence) ⟨by rw [cycle, state], by rw [cycle, timeout], by rw [cycle, period],
        by rw [cycle, refresh], by rw [grants, inUse], by rw [track, proved], by rw [track, lifetime]⟩
      awake loaded ⟨rfl, o, locked⟩

/-- The End a claim chooses senses the end of the train (R25). -/
theorem sense_of_claimHeadward {e : EndId} (h : s.claimHeadward = some e) : (s.lineEnd e).sense = .opened := by
  unfold State.claimHeadward at h
  split at h
  · cases h
  · next second => cases h; exact second
  · next first => cases h; exact first

theorem RoleOk.withAttempt (h : RoleOk l s) (n : Nat) : RoleOk l (s.modInaug fun i => { i with attempt := n }) := by
  have rests (x : HeadRests s) : HeadRests (s.modInaug fun i => { i with attempt := n }) := by
    obtain ⟨state, timeout, period, refresh, inUse, proved, lifetime⟩ := x
    exact ⟨state, timeout, period, refresh, inUse, proved, lifetime⟩
  cases h with
  | unassigned role away stopped silence x => exact .unassigned role away stopped silence (rests x)
  | counted y role away timer silence x awake => exact .counted y role away timer silence (rests x) awake
  | claiming y role head wait silence x awake loaded stands =>
    exact .claiming y role head wait silence (rests x) awake loaded stands
  | member a role away stopped x awake loaded fits => exact .member a role away stopped (rests x) awake loaded fits
  | heading a role head stopped silence works awake loaded fits stands =>
    obtain ⟨state, inUse, lifetime⟩ := works
    exact .heading a role head stopped silence ⟨state, inUse, lifetime⟩ awake loaded fits stands

theorem RoleOk.beginAttempt {n : Nat} (h : RoleOk l s) (can : CanHead l s) : RoleOk l (s.beginAttempt n) := by
  have numbered := h.withAttempt n
  have able : CanHead l (s.modInaug fun i => { i with attempt := n }) := can.engine (by simp)
  unfold State.beginAttempt
  simp only
  split
  · next e chosen => exact numbered.attemptFrom able (able.opens e (sense_of_claimHeadward chosen))
  · exact (goneFrom_goUnassigned numbered _).failClaim

theorem RoleOk.reinaugurate (h : RoleOk l s) (can : s.heading = true → CanHead l s) : RoleOk l s.reinaugurate := by
  unfold State.reinaugurate
  split
  · next head => exact h.beginAttempt (can head)
  · exact h

end Sys2Proof.Machine

/-! SUPPORT. The roles while the Ends report and the frames of an inauguration are handed on (R20, R28 to R49). -/

namespace Sys2Proof.Machine

variable {r s t : State} {l k : EndId → LinkState} {x : CountRecord}

/-! ## Heads and other nodes -/

theorem RoleOk.canHead (h : RoleOk l s) (p : PowerOk s) (leads : s.heading = true ∨ s.claiming = true) :
    CanHead s.links s := by
  have able (awake : s.asleep = false) (loaded : s.loading = false) (locked : s.power.locked = true) : CanHead s.links s :=
    ⟨awake, loaded, locked, p.vehicle, fun e sense => (p.senses awake e).1 sense⟩
  cases h with
  | unassigned _ away => rw [away.1, away.2] at leads; rcases leads with on | on <;> cases on
  | counted _ _ away => rw [away.1, away.2] at leads; rcases leads with on | on <;> cases on
  | claiming _ _ _ _ _ _ awake loaded stands => exact able awake loaded stands.2.2
  | member _ _ away => rw [away.1, away.2] at leads; rcases leads with on | on <;> cases on
  | heading _ _ _ _ _ _ awake loaded _ stands => exact able awake loaded stands.2.2

/-- Other link states bear the roles too, where the head-ward End of a head is OPEN in them. -/
theorem RoleOk.relink (h : RoleOk l s)
    (opens : ∀ e, s.heading = true ∨ s.claiming = true → s.headward = some e → l e = .opened → k e = .opened) : RoleOk k s := by
  cases h with
  | unassigned role away stopped silence rests => exact .unassigned role away stopped silence rests
  | counted y role away timer silence rests awake => exact .counted y role away timer silence rests awake
  | claiming y role head wait silence rests awake loaded stands =>
    obtain ⟨position, link, locked⟩ := stands
    exact .claiming y role head wait silence rests awake loaded
      ⟨position, opens _ (.inr ((claiming_iff s).2 head)) (by unfold State.headward; rw [role]) link, locked⟩
  | member a role away stopped rests awake loaded fits => exact .member a role away stopped rests awake loaded fits
  | heading a role head stopped silence works awake loaded fits stands =>
    obtain ⟨position, link, locked⟩ := stands
    exact .heading a role head stopped silence works awake loaded fits
      ⟨position, opens _ (.inl ((heading_iff s).2 head)) (by unfold State.headward; rw [role]) link, locked⟩

theorem RoleOk.headStands_of_claiming (h : RoleOk l s) (claim : s.claiming = true) (role : s.inaug.role = .counted x) :
    HeadStands l s x.headward x.position := by
  have head := (claiming_iff s).1 claim
  cases h with
  | unassigned none => rw [none] at role; cases role
  | counted _ _ away => rw [away.1] at claim; cases claim
  | claiming y counted _ _ _ _ _ _ stands => rw [counted] at role; cases role; exact stands
  | member _ member => rw [member] at role; cases role
  | heading _ member => rw [member] at role; cases role

theorem noHead_of_not (h : ¬(s.claiming || s.heading) = true) : s.NoHead := by
  rw [Bool.or_eq_true, not_or, Bool.not_eq_true, Bool.not_eq_true] at h
  exact h

/-! ## A count at a node that is no head -/

/-- What a COUNTED node that is no head rests on. -/
structure Counting (s : State) : Prop where
  away : s.NoHead
  timer : s.inaug.inaugurationTimer = none
  silence : s.inaug.silence = none
  rests : HeadRests s
  awake : s.asleep = false

theorem RoleOk.counting (h : RoleOk l s) (role : s.inaug.role = .counted x) (claim : s.claiming = false) : Counting s := by
  cases h with
  | unassigned none => rw [none] at role; cases role
  | counted _ _ away timer silence rests awake => exact ⟨away, timer, silence, rests, awake⟩
  | claiming _ _ head => rw [(claiming_iff s).2 head] at claim; cases claim
  | member _ member => rw [member] at role; cases role
  | heading _ member => rw [member] at role; cases role

theorem Counting.roleOk (h : Counting s) (role : s.inaug.role = .counted x) : RoleOk l s := by
  obtain ⟨away, timer, silence, rests, awake⟩ := h
  exact .counted x role away timer silence rests awake

theorem Counting.kept (h : Counting s) (kept : RolesKept s t) (p : t.power = s.power) : Counting t := by
  obtain ⟨away, timer, silence, rests, awake⟩ := h
  have inaug := kept.inaug
  exact ⟨away.of_headRole (by rw [inaug]), by rw [inaug, timer], by rw [inaug, silence], rests.kept kept away.2,
    (asleep_of_power p).trans awake⟩

theorem Counting.place {e : EndId} {y : Source} {f : Frame} (h : Counting s) : Counting (s.place e y f) :=
  h.kept (RolesKept.refl _).place (skeleton_power (by simp))

theorem HeadRests.modInaug {g : Inauguration → Inauguration} (h : HeadRests s) : HeadRests (s.modInaug g) := by
  obtain ⟨state, timeout, period, refresh, inUse, proved, lifetime⟩ := h
  exact ⟨state, timeout, period, refresh, inUse, proved, lifetime⟩

/-- Hop Timer, commit wait and count record change while the count goes on. -/
theorem Counting.modInaug {g : Inauguration → Inauguration} (h : Counting s)
    (hg : ∀ i, (g i).headRole = i.headRole ∧ (g i).inaugurationTimer = i.inaugurationTimer ∧ (g i).silence = i.silence
      := by exact fun _ => ⟨rfl, rfl, rfl⟩) : Counting (s.modInaug g) := by
  obtain ⟨away, timer, silence, rests, awake⟩ := h
  obtain ⟨same, timerG, silenceG⟩ := hg s.inaug
  exact ⟨away.of_headRole same, timerG.trans timer, silenceG.trans silence, rests.modInaug, awake⟩

theorem Counting.setRecord (h : Counting s) : RoleOk l (s.setRecord x) :=
  h.modInaug (g := fun i => { i with role := .counted x }).roleOk rfl

theorem Counting.tailTally {flag : TallyFlag} (h : Counting s) : RoleOk l (s.tailTally x flag) :=
  h.place.modInaug (g := fun i => { i with hopTimer := none }).setRecord

theorem Counting.startHop {stage : TallyStage} (h : Counting s) : Counting (s.startHop stage) := by
  unfold State.startHop
  exact h.modInaug

theorem Counting.answerCount (h : Counting s) (role : s.inaug.role = .counted x) : RoleOk l (s.answerCount x) := by
  unfold State.answerCount
  split
  · exact h.place.roleOk (by rw [(place_rest _ _ _ _).1, role])
  · split
    · exact h.tailTally
    · refine h.place.startHop.roleOk (x := x) ?_
      unfold State.startHop
      rw [modInaug_inaug, (place_rest _ _ _ _).1]
      exact role

/-! ## COUNT -/

theorem RoleOk.takeCount {e : EndId} {c : CountFrame} (h : RoleOk l s) (away : s.NoHead) (awake : s.asleep = false) :
    RoleOk l (s.takeCount e c) := by
  obtain ⟨role, headRole, silence, rests⟩ := recount_items h (s.countRecord e c)
  unfold State.takeCount
  refine Counting.answerCount ⟨?_, rfl, silence, rests.modInaug, ?_⟩ role
  · exact away.of_headRole headRole
  · exact (asleep_of_power (skeleton_power (by simp))).trans awake

theorem RoleOk.contest {e : EndId} {c : CountFrame} (h : RoleOk l s) (away : s.NoHead) : RoleOk l (s.contest x e c) := by
  have placed (d : EndId) (f g : Frame) : RolesKept s ((s.place d .inauguration f).place e .inauguration g) :=
    (RolesKept.refl s).place.place
  exact (h.kept (placed _ _ _) (skeleton_power (by simp))).goUnassigned (away.of_headRole (by rw [(placed _ _ _).inaug]))

theorem RoleOk.receiveCount {e : EndId} {p : List Byte} (h : RoleOk l s) (awake : s.asleep = false) :
    RoleOk l (s.receiveCount e p) := by
  unfold State.receiveCount
  simp only
  split
  · exact h
  · split
    · exact (goneFrom_goUnassigned (h.kept (RolesKept.refl s).place.place (skeleton_power (by simp))) _).failClaim
    · next lone =>
      have away := noHead_of_not lone
      split
      · split
        · exact h.contest away
        · exact h.takeCount away awake
      · exact h.takeCount away awake

/-! ## TALLY -/

theorem RoleOk.tallyAtNode {f : Frame} (h : RoleOk l s) (role : s.inaug.role = .counted x) (claim : s.claiming = false) :
    RoleOk l (s.tallyAtNode x f) := by
  have counts := h.counting role claim
  unfold State.tallyAtNode
  split
  · exact counts.place.modInaug (g := fun i => { i with hopTimer := none }).setRecord
  · refine (h.kept (RolesKept.refl s).place (skeleton_power (by simp))).goUnassigned counts.place.away
  · split
    · exact counts.place.setRecord
    · exact h
  · split
    · exact counts.place.setRecord
    · exact h

theorem RoleOk.placeDissolve {e : EndId} {n : Nat} (h : RoleOk l s) : RoleOk l (s.placeDissolve e n) :=
  h.kept (RolesKept.refl s).place (skeleton_power (by simp))

theorem RoleOk.tallyAtHead {f : Frame} (h : RoleOk l s) (can : CanHead l s) (role : s.inaug.role = .counted x)
    (claim : s.claiming = true) : RoleOk l (s.tallyAtHead x f) := by
  obtain ⟨-, stands, -⟩ := h.headStands_of_claiming claim role
  have commits (n : Nat) (others : List RosterEntry) (b : Bool) : RoleOk l (s.commit x n others b) :=
    roleOk_commit can (h.silence_of_counted role) stands
  unfold State.tallyAtHead
  simp only
  split
  · exact (goneFrom_goUnassigned h _).failClaim
  · exact (goneFrom_goUnassigned h.placeDissolve _).failClaim
  · split
    · exact commits _ _ _
    · exact h
  · split
    · exact commits _ _ _
    · exact h

theorem RoleOk.receiveTally {e : EndId} {f : Frame} (h : RoleOk l s) (can : s.claiming = true → CanHead l s) :
    RoleOk l (s.receiveTally e f) := by
  unfold State.receiveTally
  split
  · exact h
  · next y counted =>
    have role := role_of_counted counted
    simp only
    split
    · exact h
    · split
      · next claim =>
        split
        · exact h.tallyAtHead (can claim) role claim
        · exact h
      · next claim =>
        split
        · exact h.tallyAtNode role (by simpa using claim)
        · exact h

/-! ## COMMIT -/

theorem num16_lt (p : List Byte) (i : Nat) : num16 p i < 2 ^ 16 := by
  have high := (byteAt p i).isLt
  have low := (byteAt p (i + 1)).isLt
  unfold num16 num8
  omega

theorem num32_lt (p : List Byte) (i : Nat) : num32 p i < 2 ^ 32 := by
  have high := num16_lt p i
  have low := num16_lt p (i + 2)
  unfold num32
  omega

/-- An accepted COMMIT makes a MEMBER (R43). -/
theorem Counting.acceptCommit {f : Frame} (h : Counting s) (loaded : s.loading = false) : RoleOk l (s.acceptCommit x f) := by
  obtain ⟨away, timer, silence, rests, awake⟩ := h
  have same : (s.acceptCommit x f).skeleton = s.skeleton := by simp
  have power := skeleton_power same
  have inaug : (s.acceptCommit x f).inaug = { s.inaug with
      role := .member (memberConsist x f.payload), silence := some (s.now + num16 f.payload 6 * 1000)
      inaugurationTimer := none, hopTimer := none, commitWait := none } := by
    rw [acceptCommit_eq, (place_rest _ _ _ _).1, committed_inaug]
  refine .member (memberConsist x f.payload) (by rw [inaug]) (away.of_headRole (by rw [inaug]))
    (by rw [State.CountStopped, inaug]; exact ⟨rfl, rfl, rfl⟩) ?_ ((asleep_of_power power).trans awake)
    ((loading_of_power power).trans loaded) ⟨num32_lt _ _, num16_lt _ _⟩
  have begins : HeadRests (s.modInaug fun i => { i.stopTimers with
      role := .member (memberConsist x f.payload), silence := s.timerMs (num16 f.payload 6) }) := rests.modInaug
  rw [acceptCommit_eq]
  exact begins.kept (RolesKept.refl _).roleChanged.modDoor.unprove.modTrack.raise.place away.2

theorem RoleOk.topologyAlert {e : EndId} (h : RoleOk l s) : RoleOk l (s.topologyAlert e) :=
  h.kept ((RolesKept.refl s).elsewhere (by simp [roleless])) (skeleton_power (by simp))

theorem RoleOk.leaveWithAlert {e : EndId} {cause : LeaveCause} (h : RoleOk l s) (away : s.NoHead) :
    RoleOk l (s.leaveWithAlert e cause) :=
  (h.goUnassigned away).topologyAlert

theorem RoleOk.rejectCommit {e : EndId} {f : Frame} (h : RoleOk l s) : RoleOk l (s.rejectCommit e f) := by
  have placed : RoleOk l (s.place e.other .inauguration f) :=
    h.kept (RolesKept.refl s).place (skeleton_power (by simp))
  unfold State.rejectCommit
  simp only
  split
  · exact placed
  · next lone =>
    have away := noHead_of_not lone
    split
    · exact placed
    · exact placed.leaveWithAlert away
    · exact placed.leaveWithAlert away

theorem RoleOk.receiveDissolve {e : EndId} {f : Frame} (h : RoleOk l s) : RoleOk l (s.receiveDissolve e f) := by
  have placed {u : State} (k : RoleOk l u) : RoleOk l (u.place e.other .inauguration f) :=
    k.kept (RolesKept.refl u).place (skeleton_power (by simp))
  unfold State.receiveDissolve
  split
  · next takes =>
    unfold State.takesDissolve at takes
    rw [Bool.and_eq_true, Bool.not_eq_true'] at takes
    exact placed (h.goUnassigned (noHead_of_not (by simpa using takes.1)))
  · exact placed h

theorem RoleOk.receiveCommit {e : EndId} {f : Frame} (h : RoleOk l s) : RoleOk l (s.receiveCommit e f) := by
  unfold State.receiveCommit
  simp only
  split
  · exact h.receiveDissolve
  · split
    · next y counted =>
      split
      · next fits =>
        obtain ⟨-, claim, accepts⟩ := fits
        have loaded : s.loading = false := by
          unfold State.acceptsCommit at accepts
          by_contra on
          simp [on] at accepts
        exact (h.counting (role_of_counted counted) claim).acceptCommit loaded
      · exact h.rejectCommit
    · exact h.rejectCommit

/-! ## Reports of the Ends -/

theorem Counting.tailChange {c : EndChange} (h : Counting s) (role : s.inaug.role = .counted x) :
    RoleOk l (s.tailChange x c) := by
  unfold State.tailChange
  split
  · split
    · exact h.modInaug (g := fun i => { i with hopTimer := none }).setRecord
    · split
      · exact h.tailTally
      · exact h.roleOk role
  · split
    · exact h.tailTally
    · exact h.roleOk role
  · exact h.roleOk role

theorem RoleOk.reportCounted {c : EndChange} (h : RoleOk l s) (role : s.inaug.role = .counted x) (claim : s.claiming = false) :
    RoleOk l (s.reportCounted x c) := by
  have counts := h.counting role claim
  unfold State.reportCounted
  split
  · split
    · exact h.goUnassigned counts.away
    · exact h
  · simp only
    split
    · exact (counts.tailChange role).topologyAlert
    · exact counts.tailChange role

theorem RoleOk.reportMember {a : ActiveConsist} {c : EndChange} (h : RoleOk l s) (away : s.NoHead) :
    RoleOk l (s.reportMember a c) := by
  unfold State.reportMember
  split
  · split
    · exact h.goUnassigned away
    · exact h
  · split
    · exact h.topologyAlert
    · exact h

/-- What a claiming node hears of its tail-ward End (R31, R42). -/
theorem RoleOk.claimNotes (h : RoleOk l s) (role : s.inaug.role = .counted x) (claim : s.claiming = true) :
    RoleOk l ((s.modInaug fun i => { i with hopTimer := none }).setRecord { x with stage := .awaitingTally }) := by
  have head := (claiming_iff s).1 claim
  cases h with
  | unassigned none => rw [none] at role; cases role
  | counted _ _ away => rw [away.1] at claim; cases claim
  | claiming y counted _ wait silence rests awake loaded stands =>
    rw [counted] at role
    cases role
    exact .claiming _ rfl head wait silence rests.modInaug.modInaug awake loaded stands
  | member _ member => rw [member] at role; cases role
  | heading _ member => rw [member] at role; cases role

/-- The link states of the Ends, with the one an End had before. -/
def State.linksBefore (s : State) (e : EndId) (old : LinkState) (d : EndId) : LinkState := if d = e then old else s.links d

/-- A head takes up the link states as they are, but where its head-ward End has left OPEN. -/
theorem RoleOk.relinked {e d : EndId} {old : LinkState} (h : RoleOk (s.linksBefore e old) s) (hd : s.headward = some d)
    (stays : d = e → old = .opened → s.links e = .opened) : RoleOk s.links s := by
  refine h.relink fun b _ hb opened => ?_
  rw [hd] at hb
  cases hb
  unfold State.linksBefore at opened
  split at opened
  · next here => rw [here]; exact stays here opened
  · exact opened

theorem RoleOk.reportClaiming {e : EndId} {old : LinkState} (h : RoleOk (s.linksBefore e old) s) (p : PowerOk s)
    (role : s.inaug.role = .counted x) (claim : s.claiming = true) :
    RoleOk s.links (s.reportClaiming x { place := e, old := old, new := s.links e }) := by
  have hd : s.headward = some x.headward := by unfold State.headward; rw [role]
  have can := h.canHead p (.inr claim)
  unfold State.reportClaiming
  simp only
  split
  · next here =>
    split
    · exact (goneFrom_goUnassigned h.placeDissolve _).failClaim
    · next stays =>
      exact h.relinked hd fun _ opened => by
        by_contra left
        exact stays (by simp [EndChange.leftOpen, opened, left])
  · next apart =>
    have now : RoleOk s.links s := h.relinked hd fun here => absurd here.symm apart
    obtain ⟨-, stands, -⟩ := now.headStands_of_claiming claim role
    split
    · split
      · exact now.claimNotes role claim
      · split
        · exact roleOk_commit can (now.silence_of_counted role) stands
        · exact now
    · split
      · exact now.beginAttempt can
      · exact now

theorem RoleOk.reportHeading {a : ActiveConsist} {e : EndId} {old : LinkState} (h : RoleOk (s.linksBefore e old) s)
    (p : PowerOk s) (ha : s.active = some a) (head : s.heading = true) :
    RoleOk s.links (s.reportHeading a { place := e, old := old, new := s.links e }) := by
  have hd : s.headward = some a.headward := by unfold State.headward; rw [role_of_active ha]
  have can := h.canHead p (.inl head)
  unfold State.reportHeading
  simp only
  split
  · next here =>
    split
    · exact (goneFrom_goUnassigned h.placeDissolve _).failClaim
    · next stays =>
      exact h.relinked hd fun _ opened => by
        by_contra left
        exact stays (by simp [EndChange.leftOpen, opened, left])
  · next apart =>
    have now : RoleOk s.links s := h.relinked hd fun here => absurd here.symm apart
    split
    · exact now.reinaugurate fun _ => can
    · exact now

/-- A report of an End keeps the roles: a head whose head-ward End has left OPEN is a head no more (R20, R48, R49). -/
theorem RoleOk.reportInauguration {e : EndId} {old : LinkState} (h : RoleOk (s.linksBefore e old) s) (p : PowerOk s) :
    RoleOk s.links (s.reportInauguration { place := e, old := old, new := s.links e }) := by
  have lone (away : s.NoHead) : RoleOk s.links s := h.relink fun _ leads => by
    rw [away.1, away.2] at leads
    rcases leads with on | on <;> cases on
  unfold State.reportInauguration
  split
  · next role =>
    refine lone ⟨?_, ?_⟩
    · cases h with
      | unassigned _ away => exact away.1
      | counted _ counted => rw [counted] at role; cases role
      | claiming _ counted => rw [counted] at role; cases role
      | member _ member => rw [member] at role; cases role
      | heading _ member => rw [member] at role; cases role
    · by_contra on
      obtain ⟨a, ha⟩ := h.member_of_heading (by simpa using on)
      rw [role_of_active ha] at role
      cases role
  · next y role =>
    split
    · next claim => exact h.reportClaiming p role claim
    · next claim =>
      have claim : s.claiming = false := by simpa using claim
      exact (lone (h.counting role claim).away).reportCounted role claim
  · next a role =>
    split
    · next head => exact h.reportHeading p (active_of_role role) head
    · next head =>
      have away : s.NoHead := by
        refine ⟨?_, by simpa using head⟩
        cases h with
        | unassigned none => rw [none] at role; cases role
        | counted _ counted => rw [counted] at role; cases role
        | claiming _ counted => rw [counted] at role; cases role
        | member _ _ away => exact away.1
        | heading _ _ heads => simp [State.claiming, heads]
      exact (lone away).reportMember away

theorem PowerOk.engine (h : PowerOk s) (same : t.skeleton = s.skeleton) : PowerOk t := by
  obtain ⟨reads, settles, senses, vehicle⟩ := h
  have power := skeleton_power same
  refine ⟨?_, ?_, fun awake e => ?_, by rw [power]; exact vehicle⟩
  · rw [power, loading_of_power power]; exact reads
  · rw [power]; exact settles
  · rw [skeleton_sense same, skeleton_link same]
    exact senses (by rwa [asleep_of_power power] at awake) e

theorem links_of_skeleton (same : t.skeleton = s.skeleton) : t.links = s.links := funext fun e => skeleton_link same e

/-- An engine that keeps the roles keeps the invariant. -/
theorem PowerOk.rolesOk (h : PowerOk s) (roles : RoleOk s.links t) (same : t.skeleton = s.skeleton) : RolesOk t :=
  (rolesOk_iff t).2 ⟨by rw [links_of_skeleton same]; exact roles, h.engine same⟩

theorem RolesOk.reportEnd {e : EndId} {old : LinkState} (h : RoleOk (s.linksBefore e old) s) (p : PowerOk s) :
    RolesOk (s.reportEnd e old) := by
  refine p.rolesOk ?_ (by simp)
  unfold State.reportEnd
  simp only
  split
  · next same =>
    have now : s.linksBefore e old = s.links := funext fun d => by
      unfold State.linksBefore
      split
      · next here => rw [here, ← same]; rfl
      · rfl
    rw [← now]
    exact h
  · have discards : (s.discardOffer e).skeleton = s.skeleton := by simp
    have links := links_of_skeleton discards
    have before : (s.discardOffer e).linksBefore e old = s.linksBefore e old := by unfold State.linksBefore; rw [links]
    have waits : RoleOk ((s.discardOffer e).linksBefore e old) (s.discardOffer e) := by
      rw [before]
      exact h.kept ((RolesKept.refl s).elsewhere (by simp [roleless])) (skeleton_power discards)
    have told := waits.reportInauguration (p.engine discards)
    rw [links] at told
    exact told

end Sys2Proof.Machine

/-! SUPPORT. The roles while the Cycle Engine works and the timers of the roles lapse (R27, R31, R41, R45, R61 to R84). -/

namespace Sys2Proof.Machine

variable {r s t : State} {l k : EndId → LinkState} {x : CountRecord}

/-! ## The cycle of a head -/

theorem RolesKept.appended {q : CycleRecord} (h : RolesKept r s) : RolesKept r (s.appended q) := h.modCycle

/-- The roles agree at a HEADING node. -/
structure Heads (l : EndId → LinkState) (s : State) : Prop where
  roles : RoleOk l s
  head : s.heading = true

theorem Heads.kept (h : Heads l s) (kept : RolesKept s t) (p : t.power = s.power) : Heads l t :=
  ⟨h.roles.kept kept p, kept.heading.trans h.head⟩

theorem Heads.works (h : Heads l s) : HeadWorks s := h.roles.works h.head

/-- At a head only the head parts have changed. -/
theorem Heads.parts (h : Heads l s) (works : HeadWorks t) (inaug : t.inaug = s.inaug) (p : t.power = s.power) : Heads l t := by
  obtain ⟨roles, head⟩ := h
  refine ⟨?_, (heading_of_inaug inaug).trans head⟩
  have role := (heading_iff s).1 head
  cases roles with
  | unassigned _ away => rw [away.2] at head; cases head
  | counted _ _ away => rw [away.2] at head; cases head
  | claiming _ _ claim => rw [claim] at role; cases role
  | member _ _ away => rw [away.2] at head; cases head
  | heading a member _ stopped silence _ awake loaded fits stands =>
    exact .heading a (by rw [inaug, member]) (by rw [inaug, role]) (by rw [State.CountStopped, inaug]; exact stopped)
      (by rw [inaug, silence]) works ((asleep_of_power p).trans awake) ((loading_of_power p).trans loaded) fits
      (stands.of_locked (by rw [p]; exact stands.2.2))

theorem Heads.modCycle {g : Cycle → Cycle} (h : Heads l s) (running : (g s.cycle).state ≠ .none) : Heads l (s.modCycle g) := by
  obtain ⟨-, inUse, lifetime⟩ := h.works
  exact h.parts ⟨running, inUse, lifetime⟩ rfl rfl

theorem Heads.settle {a : ActiveConsist} {failed : Bool} {records : List CycleRecord} (h : Heads l s) :
    Heads l (s.settle a failed records) := by
  unfold State.settle State.placeCycle
  simp only
  refine (h.modCycle ?_).kept (RolesKept.refl _).place.useSettle (skeleton_power (by simp))
  dsimp only
  split <;> nofun

theorem Heads.canHead (h : Heads s.links s) (p : PowerOk s) : CanHead s.links s := h.roles.canHead p (.inl h.head)

theorem Heads.returnFails {a : ActiveConsist} {c : CycleFailure} {records : List CycleRecord} (h : Heads l s)
    (can : CanHead l s) : RoleOk l (s.returnFails a c records) := by
  have failing : RolesKept s (s.countFailure c) := (RolesKept.refl s).modCycle.raise
  have counts : Heads l (s.countFailure c) := h.kept failing (skeleton_power (by simp))
  unfold State.returnFails
  simp only
  split
  · exact counts.roles.reinaugurate fun _ => can.engine (by simp)
  · exact (counts.kept (RolesKept.refl _).unprove (skeleton_power (by simp))).settle.roles

theorem Heads.evaluateReturn {a : ActiveConsist} {short : Bool} {records : List CycleRecord} (h : Heads l s)
    (can : CanHead l s) : RoleOk l (s.evaluateReturn a short records) := by
  unfold State.evaluateReturn
  split
  · exact h.returnFails can
  · have counts : Heads l (s.modCycle fun c => { c with failures := 0 }) := h.modCycle h.works.state
    exact (counts.kept (((RolesKept.refl _).doorReturn counts.head).grantReturn) (skeleton_power (by simp))).settle.roles

theorem Heads.receiveReturn {e : EndId} {p : List Byte} (h : Heads l s) (can : CanHead l s) :
    RoleOk l (s.receiveReturn e p) := by
  unfold State.receiveReturn
  split
  · split
    · have answered : Heads l (s.modCycle fun c => { c with cycleTimeout := none }) := h.modCycle h.works.state
      exact answered.evaluateReturn (can.engine (by simp))
    · exact h.roles
  · exact h.roles

theorem Heads.callLeaves {a : ActiveConsist} (h : Heads l s) : Heads l (s.callLeaves a) := by
  have ticks : Heads l s.tickMoment := h.kept (RolesKept.refl s).tickMoment rfl
  unfold State.callLeaves
  exact ticks.modCycle h.works.state

theorem Heads.originate {a : ActiveConsist} (h : Heads l s) (can : CanHead l s) : RoleOk l (s.originate a) := by
  have starts : Heads l s.calling := h.kept (RolesKept.refl s).modCycle.headFlags (skeleton_power (by simp [State.calling]))
  have appends : Heads l s.called := starts.kept (RolesKept.refl _).appended rfl
  have able : CanHead l s.called := can.engine (by simp [State.called, State.calling])
  unfold State.originate
  simp only
  split
  · exact appends.callLeaves.evaluateReturn (able.engine (by simp))
  · exact ((appends.kept (RolesKept.refl _).place (skeleton_power (by simp))).modCycle (by nofun)).roles

theorem RoleOk.callOriginate (h : RoleOk s.links s) (p : PowerOk s) : RoleOk s.links s.callOriginate := by
  unfold State.callOriginate
  split
  · split
    · next due =>
      rw [Bool.and_eq_true] at due
      have heads : Heads s.links s := ⟨h, heading_of_callDue due.1⟩
      exact heads.originate (heads.canHead p)
    · exact h
  · exact h

theorem RoleOk.ownLeaves {e : EndId} {y : Source} {f : Frame} (h : RoleOk l s) : RoleOk l (s.ownLeaves e y f) := by
  unfold State.ownLeaves
  split
  · split
    · next leads =>
      split
      · exact (Heads.callLeaves ⟨h, leads.1⟩).roles
      · split
        · exact h.kept (RolesKept.refl s).orderLeaves (skeleton_power (by simp))
        · exact h
    · exact h
  · exact h

/-! ## The silence of the line -/

theorem HeadWorks.modInaug {g : Inauguration → Inauguration} (h : HeadWorks s) : HeadWorks (s.modInaug g) := by
  obtain ⟨state, inUse, lifetime⟩ := h
  exact ⟨state, inUse, lifetime⟩

theorem RoleOk.setLineSilence {a : ActiveConsist} {v : Nat} (h : RoleOk l s) (ha : s.active = some a) :
    RoleOk l (s.setLineSilence a v) := by
  have role := role_of_active ha
  cases h with
  | unassigned none => rw [none] at role; cases role
  | counted _ counted => rw [counted] at role; cases role
  | claiming _ counted => rw [counted] at role; cases role
  | member b member away stopped rests awake loaded fits =>
    rw [member] at role
    cases role
    exact .member _ rfl away stopped rests.modInaug awake loaded fits
  | heading b member head stopped silence works awake loaded fits stands =>
    rw [member] at role
    cases role
    exact .heading _ rfl head stopped silence works.modInaug awake loaded fits stands

theorem RoleOk.restartSilence {a b : ActiveConsist} (h : RoleOk l s) (hb : s.active = some b) :
    RoleOk l (s.restartSilence a) := by
  have role := role_of_active hb
  unfold State.restartSilence
  split
  · exact h
  · next head =>
    cases h with
    | unassigned none => rw [none] at role; cases role
    | counted _ counted => rw [counted] at role; cases role
    | claiming _ counted => rw [counted] at role; cases role
    | member c member away stopped rests awake loaded fits =>
      exact .member c member away stopped rests.modInaug awake loaded fits
    | heading _ _ heads => exact absurd ((heading_iff s).2 heads) head

theorem active_setLineSilence {a : ActiveConsist} {v : Nat} :
    (s.setLineSilence a v).active = some { a with lineSilence := v } := rfl

/-! ## CALL, SETTLE and ORDER at a node -/

theorem RoleOk.placedCall {a : ActiveConsist} {e : EndId} {p : List Byte} (h : RoleOk l s) (ha : s.active = some a) :
    RoleOk l (s.placedCall a e p) := by
  have used : RoleOk l (s.useCall a (CallHeader.ofPayload p)) :=
    ((h.setLineSilence ha).restartSilence active_setLineSilence).kept (RolesKept.refl _).headFlags (skeleton_power (by simp))
  have notes {u : State} {e : EndId} {f : Frame} {q : CallRole} (hu : RoleOk l u) : RoleOk l ((u.placeCycle e f).noteCall q) :=
    hu.kept (RolesKept.refl u).place.modCycle (skeleton_power (by simp))
  have appends (q : CycleRecord) : RoleOk l ((s.useCall a (CallHeader.ofPayload p)).appended q) :=
    used.kept (RolesKept.refl _).appended rfl
  unfold State.placedCall
  simp only
  split
  · exact notes used
  · split
    · exact notes (appends _)
    · split
      · exact notes (appends _)
      · exact notes (appends _)

theorem RoleOk.unplacedCall {e : EndId} {p : List Byte} (h : RoleOk l s) : RoleOk l (s.unplacedCall e p) := by
  have notes {e : EndId} {f : Frame} {q : CallRole} : RoleOk l ((s.placeCycle e f).noteCall q) :=
    h.kept (RolesKept.refl s).place.modCycle (skeleton_power (by simp))
  unfold State.unplacedCall
  simp only
  split
  · exact notes
  · split
    · exact notes
    · exact notes

theorem RoleOk.receiveCall {e : EndId} {p : List Byte} (h : RoleOk l s) : RoleOk l (s.receiveCall e p) := by
  unfold State.receiveCall
  split
  · next a ha =>
    split
    · exact h.placedCall ha
    · exact h.unplacedCall
  · exact h.unplacedCall

theorem RoleOk.receiveSettle {e : EndId} {f : Frame} (h : RoleOk l s) : RoleOk l (s.receiveSettle e f) := by
  have passes {u : State} {d : EndId} (hu : RoleOk l u) : RoleOk l (u.placeCycle d f) :=
    hu.kept (RolesKept.refl u).place (skeleton_power (by simp))
  unfold State.receiveSettle
  split
  · next a ha =>
    have restarted : RoleOk l (s.restartSilence a) := h.restartSilence ha
    split
    · unfold State.memberSettles
      simp only
      split
      · exact passes (restarted.kept (RolesKept.refl _).useSettle (skeleton_power (by simp)))
      · exact passes restarted
    · exact passes h
  · exact passes h

theorem RoleOk.receiveOrder {e : EndId} {f : Frame} (h : RoleOk l s) : RoleOk l (s.receiveOrder e f) := by
  have passes {d : EndId} : RoleOk l (s.place d .door f) := h.kept (RolesKept.refl s).place (skeleton_power (by simp))
  unfold State.receiveOrder
  split
  · next a ha =>
    split
    · exact (h.restartSilence ha).kept (RolesKept.refl _).judgeOrder (skeleton_power (by simp))
    · exact passes
  · exact passes

theorem RoleOk.headWake {f : Frame} (h : RoleOk l s) (can : s.heading = true → CanHead l s) : RoleOk l (s.headWake f) := by
  unfold State.headWake
  simp only
  split
  · exact h.reinaugurate can
  · split
    · exact h.kept (RolesKept.refl s).requestCall (skeleton_power (by simp))
    · exact h

/-- An accepted frame keeps the roles, whatever its Kind (R9). -/
theorem RoleOk.handOn {e : EndId} {f : Frame} (h : RoleOk s.links s) (p : PowerOk s) (awake : s.asleep = false) :
    RoleOk s.links (s.handOn e f) := by
  have elsewhere {t : State} (still : t.forget roleless = s.forget roleless) (same : t.skeleton = s.skeleton) :
      RoleOk s.links t := h.kept ((RolesKept.refl s).elsewhere still) (skeleton_power same)
  unfold State.handOn
  split
  · exact h
  · exact h.receiveCount awake
  · exact h.receiveTally fun claim => h.canHead p (.inr claim)
  · exact h.receiveCommit
  · exact h.receiveCall
  · split
    · next head => exact Heads.receiveReturn ⟨h, head⟩ (h.canHead p (.inl head))
    · exact elsewhere (by simp [roleless]) (by simp)
  · exact h.receiveSettle
  · exact h.receiveOrder
  · split
    · exact h.headWake fun head => h.canHead p (.inl head)
    · exact elsewhere (by simp [roleless]) (by simp)
  · unfold State.receiveMsgFrame
    split
    · split
      · exact elsewhere (by simp [roleless]) (by simp)
      · split
        · exact elsewhere (by simp [roleless]) (by simp)
        · exact elsewhere (by simp [roleless]) (by simp)
    · exact elsewhere (by simp [roleless]) (by simp)
  · unfold State.receiveNoteFrame
    split
    · split
      · exact elsewhere (by simp [roleless]) (by simp)
      · exact elsewhere (by simp [roleless]) (by simp)
    · exact elsewhere (by simp [roleless]) (by simp)

/-! ## Line Timing -/

theorem RoleOk.setLineTiming {v : LineTiming} (h : RoleOk l s) : RoleOk l (s.setLineTiming v) := by
  have timed : RoleOk l (s.modCycle fun c => { c with timing := v }) := h.kept (RolesKept.refl s).modCycle rfl
  have asks (b : Bool) (u : State) (hu : RoleOk l u) : RoleOk l (if b then u.requestCall else u) := by
    split
    · exact hu.kept (RolesKept.refl u).requestCall (skeleton_power (by simp))
    · exact hu
  refine asks _ _ ?_
  split
  · next a ha =>
    split
    · exact timed.setLineSilence ha
    · exact timed
  · exact timed

/-! ## Timers of the roles -/

theorem RoleOk.stopHop (h : RoleOk l s) : RoleOk l (s.modInaug fun i => { i with hopTimer := none }) := by
  cases h with
  | unassigned role away stopped silence rests =>
    exact .unassigned role away ⟨stopped.1, rfl, stopped.2.2⟩ silence rests.modInaug
  | counted y role away timer silence rests awake => exact .counted y role away timer silence rests.modInaug awake
  | claiming y role head wait silence rests awake loaded stands =>
    exact .claiming y role head wait silence rests.modInaug awake loaded stands
  | member a role away stopped rests awake loaded fits =>
    exact .member a role away ⟨stopped.1, rfl, stopped.2.2⟩ rests.modInaug awake loaded fits
  | heading a role head stopped silence works awake loaded fits stands =>
    exact .heading a role head ⟨stopped.1, rfl, stopped.2.2⟩ silence works.modInaug awake loaded fits stands

theorem RoleOk.stopInauguration (h : RoleOk l s) : RoleOk l (s.modInaug fun i => { i with inaugurationTimer := none }) := by
  cases h with
  | unassigned role away stopped silence rests => exact .unassigned role away ⟨rfl, stopped.2⟩ silence rests.modInaug
  | counted y role away _ silence rests awake => exact .counted y role away rfl silence rests.modInaug awake
  | claiming y role head wait silence rests awake loaded stands =>
    exact .claiming y role head wait silence rests.modInaug awake loaded stands
  | member a role away stopped rests awake loaded fits =>
    exact .member a role away ⟨rfl, stopped.2⟩ rests.modInaug awake loaded fits
  | heading a role head stopped silence works awake loaded fits stands =>
    exact .heading a role head ⟨rfl, stopped.2⟩ silence works.modInaug awake loaded fits stands

theorem RoleOk.hopExpired (h : RoleOk s.links s) (p : PowerOk s) : RoleOk s.links s.hopExpired := by
  have stops := h.stopHop
  unfold State.hopExpired
  simp only
  split
  · next y counted =>
    have role := role_of_counted counted
    split
    · next claim =>
      obtain ⟨-, stands, -⟩ := stops.headStands_of_claiming claim role
      exact roleOk_commit ((h.canHead p (.inr claim)).engine (by simp)) (stops.silence_of_counted role) stands
    · next claim => exact (stops.counting role (by simpa using claim)).tailTally
  · exact stops

theorem RoleOk.inaugurationExpired (h : RoleOk s.links s) (p : PowerOk s) : RoleOk s.links s.inaugurationExpired := by
  have stops := h.stopInauguration
  unfold State.inaugurationExpired
  simp only
  split
  · next claim =>
    split
    · exact stops.beginAttempt ((h.canHead p (.inr claim)).engine (by simp))
    · exact (goneFrom_goUnassigned stops _).failClaim
  · exact stops

/-- The node waits for a COMMIT as no head alone (R45). -/
theorem RoleOk.noHead_of_commitWait {d : Nat} (h : RoleOk l s) (waits : s.inaug.commitWait = some d) :
    ∃ y, s.inaug.role = .counted y ∧ Counting s := by
  cases h with
  | unassigned _ _ stopped => rw [stopped.2.2] at waits; cases waits
  | counted y role away timer silence rests awake => exact ⟨y, role, away, timer, silence, rests, awake⟩
  | claiming _ _ _ wait => rw [wait] at waits; cases waits
  | member _ _ _ stopped => rw [stopped.2.2] at waits; cases waits
  | heading _ _ _ stopped => rw [stopped.2.2] at waits; cases waits

theorem RoleOk.commitWaited {d : Nat} (h : RoleOk l s) (waits : s.inaug.commitWait = some d) :
    RoleOk l ((s.modInaug fun i => { i with commitWait := none }).goUnassigned .commitWaitExpiry) := by
  obtain ⟨y, role, counts⟩ := h.noHead_of_commitWait waits
  have stops : Counting (s.modInaug fun i => { i with commitWait := none }) := counts.modInaug
  have roles : RoleOk l (s.modInaug fun i => { i with commitWait := none }) := stops.roleOk role
  exact roles.goUnassigned stops.away

theorem RoleOk.silenceExpired {d : Nat} (h : RoleOk l s) (silent : s.inaug.silence = some d) : RoleOk l s.silenceExpired := by
  unfold State.silenceExpired
  cases h with
  | unassigned _ _ _ silence => rw [silence] at silent; cases silent
  | counted _ _ _ _ silence => rw [silence] at silent; cases silent
  | claiming _ _ _ _ silence => rw [silence] at silent; cases silent
  | member a role away stopped rests awake loaded fits =>
    have stops : RoleOk l (s.modInaug fun i => { i with silence := none }) :=
      .member a role away stopped rests.modInaug awake loaded fits
    simp only
    split
    · exact stops.leaveWithAlert away
    · exact stops
  | heading _ _ _ _ silence => rw [silence] at silent; cases silent

/-- A timer of the head's cycle that stops changes no role (R76, R80, R81). -/
theorem RoleOk.stopCycleTimer {g : Cycle → Cycle} (h : RoleOk l s) (hg : (g s.cycle).state = s.cycle.state
      ∧ ((g s.cycle).cycleTimeout = s.cycle.cycleTimeout ∨ (g s.cycle).cycleTimeout = none)
      ∧ ((g s.cycle).periodTimer = s.cycle.periodTimer ∨ (g s.cycle).periodTimer = none)
      ∧ ((g s.cycle).refreshTimer = s.cycle.refreshTimer ∨ (g s.cycle).refreshTimer = none)) : RoleOk l (s.modCycle g) := by
  obtain ⟨same, timeoutG, periodG, refreshG⟩ := hg
  have rests (away : HeadRests s) : HeadRests (s.modCycle g) := by
    obtain ⟨state, timeout, period, refresh, inUse, proved, lifetime⟩ := away
    rw [timeout, or_self] at timeoutG
    rw [period, or_self] at periodG
    rw [refresh, or_self] at refreshG
    exact ⟨same.trans state, timeoutG, periodG, refreshG, inUse, proved, lifetime⟩
  cases h with
  | unassigned role away stopped silence x => exact .unassigned role away stopped silence (rests x)
  | counted y role away timer silence x awake => exact .counted y role away timer silence (rests x) awake
  | claiming y role head wait silence x awake loaded stands =>
    exact .claiming y role head wait silence (rests x) awake loaded stands
  | member a role away stopped x awake loaded fits => exact .member a role away stopped (rests x) awake loaded fits
  | heading a role head stopped silence works awake loaded fits stands =>
    obtain ⟨state, inUse, lifetime⟩ := works
    exact .heading a role head stopped silence ⟨by rw [modCycle_cycle, same]; exact state, inUse, lifetime⟩ awake loaded fits stands

theorem RoleOk.cycleTimedOut (h : RoleOk s.links s) (p : PowerOk s) : RoleOk s.links s.cycleTimedOut := by
  have stops : RoleOk s.links (s.modCycle fun c => { c with cycleTimeout := none }) :=
    h.stopCycleTimer ⟨rfl, .inr rfl, .inl rfl, .inl rfl⟩
  unfold State.cycleTimedOut
  simp only
  split
  · next out =>
    have head : s.heading = true := by
      by_contra away
      have idle := (h.rests (by simpa using away)).state
      rw [modCycle_cycle, idle] at out
      cases out
    have fails : Heads s.links ((s.modCycle fun c => { c with cycleTimeout := none }).unprove.countFailure .timeout) :=
      Heads.kept ⟨stops, head⟩ (RolesKept.refl _).unprove.modCycle.raise (skeleton_power (by simp))
    split
    · exact fails.roles.reinaugurate fun _ => (h.canHead p (.inl head)).engine (by simp)
    · exact (fails.modCycle (by nofun)).roles
  · exact stops

end Sys2Proof.Machine

/-! SUPPORT. The roles while the Ends work: coupler sense, copies, timers, the transmitter, End Reset (R1 to R24). -/

namespace Sys2Proof.Machine

variable {r s t : State}

/-! ## Ends that stay OPEN or not -/

/-- From `r` on each End has kept its sense, and whether it is OPEN. -/
def EndsAlike (r s : State) : Prop :=
  ∀ d, (s.lineEnd d).sense = (r.lineEnd d).sense ∧ ((s.lineEnd d).link = .opened ↔ (r.lineEnd d).link = .opened)

theorem EndsAlike.refl (s : State) : EndsAlike s s := fun _ => ⟨rfl, .rfl⟩

theorem EndsAlike.same (h : EndsAlike r s) (ends : ∀ d, t.lineEnd d = s.lineEnd d) : EndsAlike r t := fun d => by
  rw [ends]
  exact h d

theorem EndsAlike.modEnd {e : EndId} {g : LineEnd → LineEnd} (h : EndsAlike r s)
    (hg : (g (s.lineEnd e)).sense = (s.lineEnd e).sense
      ∧ ((g (s.lineEnd e)).link = .opened ↔ (s.lineEnd e).link = .opened)) : EndsAlike r (s.modEnd e g) := by
  intro d
  rw [lineEnd_modEnd]
  split
  · next here =>
    subst here
    exact ⟨hg.1.trans (h d).1, hg.2.trans (h d).2⟩
  · exact h d

theorem sense_modPair (l : LineEnd) (p : Pair) (f : PairState → PairState) : (l.modPair p f).sense = l.sense := by
  cases p <;> rfl

theorem EndsAlike.modPairAt {e : EndId} {p : Pair} {f : PairState → PairState} (h : EndsAlike r s) :
    EndsAlike r (s.modPairAt e p f) :=
  h.modEnd ⟨sense_modPair _ _ _, by rw [(link_modPair _ _ _).1]⟩

theorem opened_followHealth (l : LineEnd) : l.followHealth.link = .opened ↔ l.link = .opened := by
  have healthy : l.linkByHealth ≠ .opened := fun o => by
    have usable := linkByHealth_usable l
    rw [o] at usable
    cases usable
  rw [followHealth_eq]
  cases l.link <;> simp [LinkState.usable, healthy]

theorem EndsAlike.judgePair {e : EndId} {p : Pair} {f : PairState → PairState} (h : EndsAlike r s) :
    EndsAlike r (s.judgePair e p f) := by
  intro d
  rcases end_eq_or_other e d with rfl | rfl
  · rw [lineEnd_judgePair, opened_followHealth, (link_modPair _ _ _).1, followHealth_eq]
    exact ⟨(sense_modPair _ _ _).trans (h _).1, (h _).2⟩
  · rw [lineEnd_judgePair_other]
    exact h _

theorem EndsAlike.closeWindow {e : EndId} (h : EndsAlike r s) : EndsAlike r (s.closeWindow e) := by
  unfold State.closeWindow
  split
  · exact h
  · exact (h.modEnd ⟨rfl, .rfl⟩).judgePair

theorem EndsAlike.hearCopy {e : EndId} (h : EndsAlike r s) : EndsAlike r (s.hearCopy e) := by
  unfold State.hearCopy
  refine h.modEnd ⟨rfl, ?_⟩
  dsimp only
  cases link : (s.lineEnd e).link <;> simp
  split <;> simp

theorem EndsAlike.twin {e : EndId} {p : Pair} (h : EndsAlike r s) : EndsAlike r (s.twin e p) := by
  unfold State.twin
  split
  · split
    · exact (h.modEnd ⟨rfl, .rfl⟩).judgePair
    · exact h
  · exact h

theorem EndsAlike.acceptCopy {e : EndId} {p : Pair} {n : Nat} (h : EndsAlike r s) : EndsAlike r (s.acceptCopy e p n) := by
  unfold State.acceptCopy
  exact (EndsAlike.judgePair (h.closeWindow.modEnd ⟨rfl, .rfl⟩)).modEnd ⟨rfl, .rfl⟩

/-! ## What the line leaves of the roles -/

theorem RolesOk.keep (h : RolesOk s) (kept : RolesKept s t) (p : t.power = s.power) (ends : EndsAlike s t) : RolesOk t := by
  obtain ⟨reads, settles, senses, vehicle⟩ := h.powerOk
  have sleep := asleep_of_power p
  have load := loading_of_power p
  refine (rolesOk_iff t).2 ⟨(h.roleOk.kept kept p).relink fun e _ _ opened => (ends e).2.2 opened, ?_, ?_,
    fun awake e => ?_, by rw [p]; exact vehicle⟩
  · rw [p, load]; exact reads
  · rw [p]; exact settles
  · rw [(ends e).1, (ends e).2]
    exact senses (by rwa [sleep] at awake) e

/-- The blocks of the line, with the clock and the ports. -/
def lineBlocks : List Block := [.clock, .endOf .end1, .endOf .end2, .portOf .portA, .portOf .portB]

theorem rolesKept_of_line (still : t.forget lineBlocks = s.forget lineBlocks) : RolesKept s t :=
  (RolesKept.refl s).elsewhere (forget_mono still (by simp [lineBlocks, roleless]))

theorem power_of_line (still : t.forget lineBlocks = s.forget lineBlocks) : t.power = s.power :=
  sameBlock_of_forget still .power (by simp [lineBlocks])

theorem RolesOk.line (h : RolesOk s) (still : t.forget lineBlocks = s.forget lineBlocks) (ends : EndsAlike s t) : RolesOk t :=
  h.keep (rolesKept_of_line still) (power_of_line still) ends

/-- An End that takes up another link state, and reports it (R2, R20). -/
theorem RolesOk.moved {e : EndId} (h : RolesOk s) (still : t.forget lineBlocks = s.forget lineBlocks)
    (other : t.lineEnd e.other = s.lineEnd e.other)
    (agrees : s.asleep = false → ((t.lineEnd e).sense = .opened ↔ (t.lineEnd e).link = .opened)) :
    RolesOk (t.reportEnd e (s.lineEnd e).link) := by
  have p := power_of_line still
  have sleep := asleep_of_power p
  have load := loading_of_power p
  have before : t.linksBefore e (s.lineEnd e).link = s.links := funext fun d => by
    unfold State.linksBefore State.links
    rcases end_eq_or_other e d with rfl | rfl
    · rw [if_pos rfl]
    · rw [if_neg (end_other_ne e), other]
  obtain ⟨reads, settles, senses, vehicle⟩ := h.powerOk
  refine RolesOk.reportEnd ?_ ⟨?_, ?_, fun awake d => ?_, by rw [p]; exact vehicle⟩
  · rw [before]
    exact h.roleOk.kept (rolesKept_of_line still) p
  · rw [p, load]; exact reads
  · rw [p]; exact settles
  · rw [sleep] at awake
    rcases end_eq_or_other e d with rfl | rfl
    · exact agrees awake
    · rw [other]
      exact senses awake _

theorem RolesOk.engine (h : RolesOk s) (roles : RoleOk s.links t) (same : t.skeleton = s.skeleton) : RolesOk t :=
  h.powerOk.rolesOk roles same

/-- An engine that changes no role. -/
theorem RolesOk.still (h : RolesOk s) (kept : RolesKept s t) (same : t.skeleton = s.skeleton) : RolesOk t :=
  h.engine (h.roleOk.kept kept (skeleton_power same)) same

theorem RolesOk.reach {d : Nat} (h : RolesOk s) : RolesOk (s.reach d) :=
  h.line (by simp [lineBlocks]) ((EndsAlike.refl s).same (by simp))

theorem RolesOk.modPort {p : PortId} {g : Port → Port} (h : RolesOk s) : RolesOk (s.modPort p g) :=
  h.line (forget_modPort _ _ _ _ (by cases p <;> simp [lineBlocks])) ((EndsAlike.refl s).same (by simp))

theorem RolesOk.handOn {e : EndId} {f : Frame} (h : RolesOk s) (awake : s.asleep = false) : RolesOk (s.handOn e f) :=
  h.engine (h.roleOk.handOn h.powerOk awake) (skel_handOn s e f)

/-! ## The coupler sense -/

theorem RolesOk.startDebounce {e : EndId} (h : RolesOk s) : RolesOk (s.startDebounce e) :=
  h.line (by cases e <;> simp [lineBlocks]) (by
    unfold State.startDebounce
    exact (EndsAlike.refl s).modEnd ⟨rfl, .rfl⟩)

/-- A wake cause takes a sleeping node no further than WAKING (R184, R185). -/
theorem RolesOk.wakeBy {c : WakeCause} (h : RolesOk s) : RolesOk (s.wakeBy c) := by
  unfold State.wakeBy
  split
  · next stabled =>
    obtain ⟨reads, -, -, vehicle⟩ := h.powerOk
    have loading : s.loading = false := by simp [State.loading, stabled]
    have asleep : s.asleep = true := by simp [State.asleep, stabled]
    refine (rolesOk_iff _).2 ⟨RoleOk.repower ?_ ((RolesKept.refl s).elsewhere (by simp [roleless])) ?_ (fun _ => rfl)
      fun _ locked => locked, ?_, fun _ => rfl, nofun, vehicle⟩
    · exact h.roleOk.relink fun _ _ _ opened => opened
    · intro awake
      rw [asleep] at awake
      cases awake
    · intro on
      rw [loading] at reads
      cases reads on
  · exact h

theorem RolesOk.live {f : State → State} (h : RolesOk s) (hf : s.power.held = false → RolesOk (f s)) : RolesOk (s.live f) := by
  unfold State.live
  split
  · exact h
  · next free => exact hf (by simpa using free)

theorem RolesOk.rawChange {e : EndId} {level : Sense} (h : RolesOk s) : RolesOk (s.rawChange e level) := by
  unfold State.rawChange
  split
  · exact h
  · have raw : RolesOk (s.modEnd e fun l => { l with rawSense := level }) :=
      h.line (by cases e <;> simp [lineBlocks]) ((EndsAlike.refl s).modEnd ⟨rfl, .rfl⟩)
    exact raw.live fun _ => raw.startDebounce.wakeBy

theorem RolesOk.debounceExpiry {e : EndId} (h : RolesOk s) : RolesOk (s.debounceExpiry e) := by
  cases hd : (s.lineEnd e).debounce with
  | none => unfold State.debounceExpiry; rw [hd, expire_none]; exact h
  | some d =>
    have still : (s.sensed e d).forget lineBlocks = s.forget lineBlocks :=
      forget_sensed _ _ _ _ (by simp [lineBlocks]) (by cases e <;> simp [lineBlocks]) (by simp [lineBlocks])
    have other : (s.sensed e d).lineEnd e.other = s.lineEnd e.other := by cases e <;> simp [State.sensed] <;> rfl
    rw [debounceExpiry_eq hd]
    split
    · next asleep =>
      have sleeps := (asleep_of_power (power_of_line still)).trans asleep
      obtain ⟨reads, settles, -, vehicle⟩ := h.powerOk
      have power := power_of_line still
      have h : RoleOk (s.sensed e d).links s := by
        refine h.roleOk.relink fun _ leads => ?_
        have awake := (h.roleOk.canHead h.powerOk leads).awake
        rw [asleep] at awake
        cases awake
      refine (rolesOk_iff _).2 ⟨h.kept (rolesKept_of_line still) power, ?_, ?_, ?_, by rw [power]; exact vehicle⟩
      · rw [power, loading_of_power power]; exact reads
      · rw [power]; exact settles
      · intro awake
        rw [sleeps] at awake
        cases awake
    · have takes : ((s.sensed e d).linkBySense e).forget lineBlocks = (s.sensed e d).forget lineBlocks := by
        cases e <;> simp [lineBlocks]
      refine h.moved (takes.trans still) ?_ fun awake => ?_
      · refine Eq.trans ?_ other
        unfold State.linkBySense
        split
        · exact lineEnd_enterOpen_other _ _
        · exact lineEnd_enterJoining_other _ _
        · rfl
      · rw [(sense_linkBySense _ _).1]
        unfold State.linkBySense
        split
        · next opened => rw [opened, lineEnd_enterOpen]; simp
        · next closed _ => rw [closed, lineEnd_enterJoining]; simp
        · next closed stays => rw [closed]; simpa using stays

/-! ## Copies -/

theorem RolesOk.setReceiver {e : EndId} {p : Pair} {x : Receiver} (h : RolesOk s) : RolesOk (s.setReceiver e p x) :=
  h.line (by cases e <;> simp [lineBlocks]) (EndsAlike.refl s).modPairAt

theorem RolesOk.badCopy {e : EndId} {p : Pair} (h : RolesOk s) : RolesOk (s.badCopy e p) :=
  h.line (by cases e <;> simp [lineBlocks]) (EndsAlike.refl s).modPairAt

theorem RolesOk.copyStart {e : EndId} {p : Pair} (h : RolesOk s) : RolesOk (s.copyStart e p) := by
  unfold State.copyStart
  split
  · exact h.setReceiver.wakeBy
  · simp only
    split
    · exact h.badCopy.setReceiver
    · exact h.setReceiver

theorem RolesOk.idleAbort {e : EndId} {p : Pair} (h : RolesOk s) : RolesOk (s.idleAbort e p) := by
  unfold State.idleAbort
  simp only
  split
  · exact h.setReceiver.badCopy
  · exact h.setReceiver

/-- A report of an End that is OPEN or not as before. -/
theorem RolesOk.movedAlike {e : EndId} (h : RolesOk s) (still : t.forget lineBlocks = s.forget lineBlocks)
    (other : t.lineEnd e.other = s.lineEnd e.other) (alike : EndsAlike s t) : RolesOk (t.reportEnd e (s.lineEnd e).link) :=
  h.moved still other fun awake => by
    rw [(alike e).1, (alike e).2]
    exact h.powerOk.senses awake e

theorem RolesOk.filterCopy {e : EndId} {p : Pair} {c : IntactCopy} (h : RolesOk s) (awake : s.asleep = false) :
    RolesOk (s.filterCopy e p c) := by
  have hears : (s.hearCopy e).lineEnd e.other = s.lineEnd e.other := by simp [State.hearCopy]
  unfold State.filterCopy
  simp only
  split
  · refine h.movedAlike (by cases e <;> simp [lineBlocks]) ?_ (EndsAlike.refl s).hearCopy.twin
    refine Eq.trans ?_ hears
    exact sameBlock_of_forget (L := [.endOf e, .portOf .portA, .portOf .portB]) (by simp) (.endOf e.other)
      (by cases e <;> simp [EndId.other])
  · refine RolesOk.handOn (h.movedAlike (by cases e <;> simp [lineBlocks]) ?_ (EndsAlike.refl s).hearCopy.acceptCopy) ?_
    · refine Eq.trans ?_ hears
      exact sameBlock_of_forget (L := [.endOf e, .portOf .portA, .portOf .portB]) (by simp) (.endOf e.other)
        (by cases e <;> simp [EndId.other])
    · rw [asleep_of_skeleton_reportEnd]
      exact (asleep_of_forget (by cases e <;> simp)).trans awake

theorem RolesOk.copyReceived {e : EndId} {p : Pair} {bytes : List Byte} (h : RolesOk s) : RolesOk (s.copyReceived e p bytes) := by
  unfold State.copyReceived
  simp only
  split
  · exact h.setReceiver
  · next reaches =>
    have heard : RolesOk (s.setReceiver e p .idle) := h.setReceiver
    have awake : (s.setReceiver e p .idle).asleep = false := by
      simp only [Bool.or_eq_true, not_or, Bool.not_eq_true] at reaches
      exact (asleep_of_forget (by cases e <;> simp)).trans reaches.2
    unfold State.judgeCopy
    split
    · exact heard.badCopy
    · split
      · exact heard.line (by cases e <;> simp [lineBlocks]) ((EndsAlike.refl _).modEnd ⟨rfl, .rfl⟩)
      · exact heard.filterCopy awake

/-! ## Timers of an End -/

theorem RolesOk.expire {x : Timer} {f : State → State} (h : RolesOk s) (hf : ∀ d, x = some d → RolesOk (f (s.reach d))) :
    RolesOk (s.expire x f) := by
  unfold State.expire
  split
  · exact h
  · exact hf _ rfl

theorem RolesOk.twinExpiry {e : EndId} (h : RolesOk s) : RolesOk (s.twinExpiry e) :=
  h.expire fun d _ => (h.reach (d := d)).line (by cases e <;> simp [lineBlocks]) (EndsAlike.refl _).closeWindow

theorem RolesOk.linkIdleExpiry {e : EndId} (h : RolesOk s) : RolesOk (s.linkIdleExpiry e) := by
  refine h.expire fun d _ => ?_
  have reached : RolesOk (s.reach d) := h.reach
  have downs (usable : ((s.reach d).lineEnd e).link ≠ .opened) :
      RolesOk (((s.reach d).enterDown e).reportEnd e ((s.reach d).lineEnd e).link) := by
    refine reached.moved (by cases e <;> simp [lineBlocks]) (lineEnd_enterDown_other _ _) fun awake => ?_
    rw [lineEnd_enterDown]
    have closed := mt (reached.powerOk.senses awake e).1 usable
    exact ⟨fun opened => absurd opened closed, nofun⟩
  simp only
  split
  iterate 3
    · next link => exact downs (by rw [link]; nofun)
  · exact reached.line (by cases e <;> simp [lineBlocks]) ((EndsAlike.refl _).modEnd ⟨rfl, .rfl⟩)
  · exact reached.line (by cases e <;> simp [lineBlocks]) ((EndsAlike.refl _).modEnd ⟨rfl, .rfl⟩)

theorem RolesOk.keepaliveExpiry {e : EndId} (h : RolesOk s) : RolesOk (s.keepaliveExpiry e) :=
  h.expire fun d _ => (h.reach (d := d)).line (by cases e <;> simp [lineBlocks]) ((EndsAlike.refl _).modEnd ⟨rfl, .rfl⟩)

/-! ## The transmitter -/

theorem RolesOk.arbiterTake {e : EndId} (h : RolesOk s) : RolesOk (s.arbiterTake e) := by
  have sends {u : State} {f : Frame} (hu : RolesOk u) : RolesOk (u.send e f) :=
    hu.line (by cases e <;> simp [lineBlocks]) (by unfold State.send; exact (EndsAlike.refl _).modEnd ⟨rfl, .rfl⟩)
  have leaves {g : LineEnd → LineEnd} (hg : ∀ l, (g l).sense = l.sense ∧ (g l).link = l.link) : RolesOk (s.modEnd e g) :=
    h.line (by cases e <;> simp [lineBlocks]) ((EndsAlike.refl s).modEnd ⟨(hg _).1, by rw [(hg _).2]⟩)
  unfold State.arbiterTake
  split
  · exact h
  · split
    · exact h
    · next x f _ =>
      have sent := sends (f := f) (leaves (g := (·.modSlot x SourceSlot.advance)) fun _ => ⟨rfl, rfl⟩)
      exact sent.engine sent.roleOk.ownLeaves (skel_ownLeaves _ _ _ _)
    · exact sends (leaves fun _ => ⟨rfl, rfl⟩)
    · exact (sends h).still ((RolesKept.refl _).elsewhere (by simp [roleless])) (skel_takeOffer _ _)

theorem RolesOk.transmitComplete {e : EndId} (h : RolesOk s) : RolesOk (s.transmitComplete e) := by
  unfold State.transmitComplete
  simp only
  split
  · exact h.line (by cases e <;> simp [lineBlocks]) ((EndsAlike.refl s).modEnd ⟨rfl, .rfl⟩)
  · exact h

/-! ## End Reset -/

theorem RolesOk.endReset {e : EndId} (h : RolesOk s) : RolesOk (s.endReset e) := by
  rw [endReset_restarted]
  refine h.moved (forget_mono (forget_restarted s e) (by cases e <;> simp [restartBlocks, lineBlocks]))
    (lineEnd_restarted_other s e) fun _ => ?_
  rw [lineEnd_restarted]
  dsimp only
  cases (s.lineEnd e).sense <;> simp

theorem RolesOk.endResetNamed {p : PortId} (h : RolesOk s) : RolesOk (s.endResetNamed p) := by
  unfold State.endResetNamed
  split
  · exact h.endReset
  · exact h

end Sys2Proof.Machine

/-! PROOF. Every command keeps the roles and the power state in agreement (O4). -/

namespace Sys2Proof.Machine

variable {r s t : State}

/-! ## Resets and loading -/

theorem rolesOk_hardReset (s : State) : RolesOk s.hardReset :=
  (rolesOk_iff _).2 ⟨.unassigned rfl ⟨rfl, rfl⟩ ⟨rfl, rfl, rfl⟩ rfl ⟨rfl, rfl, rfl, rfl, rfl, rfl, rfl⟩,
    fun _ => rfl, nofun, fun _ e => by cases e <;> exact ⟨fun _ => rfl, fun _ => rfl⟩, show 0 < 2 ^ 32 by decide⟩

theorem awake_of_loading (loading : s.loading = true) : s.asleep = false := by
  have state : s.power.state = .loading := by simpa [State.loading] using loading
  simp [State.asleep, state]

theorem RolesOk.not_waking (h : RolesOk s) (state : s.power.state ≠ .waking) : s.power.wakeSettle = none :=
  timer_none fun on => state (h.powerOk.settles on)

theorem RolesOk.not_reading (h : RolesOk s) (state : s.loading = false) :
    s.power.held = false ∧ s.power.readTimer = none := by
  have reads := h.powerOk.reads
  rw [state] at reads
  refine ⟨?_, timer_none fun on => by cases reads (.inr on)⟩
  by_contra on
  cases reads (.inl (by simpa using on))

/-- A power state the node takes up, its Ends and roles as they were. -/
theorem RolesOk.powered {g : Power → Power} (h : RolesOk s) (wakes : (s.modPower g).asleep = false)
    (awake : s.asleep = false) (loads : s.loading = false → (s.modPower g).loading = false)
    (locks : s.loading = false → s.power.locked = true → (g s.power).locked = true)
    (reads : (g s.power).held = true ∨ (g s.power).readTimer.isSome = true → (s.modPower g).loading = true)
    (settles : (g s.power).wakeSettle = none) (vehicle : (g s.power).record.vehicle < 2 ^ 32) : RolesOk (s.modPower g) := by
  have links : (s.modPower g).links = s.links := funext fun e => by unfold State.links; rw [lineEnd_modPower]
  refine (rolesOk_iff _).2 ⟨?_, reads, fun on => ?_, fun _ e => ?_, vehicle⟩
  · rw [links]
    exact h.roleOk.repower ((RolesKept.refl s).elsewhere (by simp [roleless])) (fun _ => wakes) loads locks
  · rw [modPower_power, settles] at on
    cases on
  · rw [lineEnd_modPower]
    exact h.powerOk.senses awake e

theorem RolesOk.identityToStages (h : RolesOk s) : RolesOk s.identityToStages :=
  h.still (RolesKept.refl s).identityToStages (skel_identityToStages s)

theorem RolesOk.raise {c : Cause} (h : RolesOk s) : RolesOk (s.raise c) := h.still (RolesKept.refl s).raise (skel_raise s c)

/-- LOADING ends, with a record that fits its field or none (R179, R188). -/
theorem RolesOk.finishLoading {o : LoadOutcome} {x : IdentityRecord} {b : Bool} (h : RolesOk s) (loading : s.loading = true)
    (free : s.power.held = false) (vehicle : x.vehicle < 2 ^ 32) : RolesOk (s.finishLoading o x b) := by
  have state : s.power.state = .loading := by simpa [State.loading] using loading
  refine RolesOk.identityToStages (RolesOk.raise (h.powered rfl (awake_of_loading loading) (fun _ => rfl) ?_ ?_ ?_ vehicle))
  · intro off
    rw [loading] at off
    cases off
  · rintro (held | reading)
    · rw [free] at held; cases held
    · cases reading
  · exact h.not_waking (by rw [state]; nofun)

theorem RolesOk.loadingFails {o : LoadOutcome} (h : RolesOk s) (loading : s.loading = true) (free : s.power.held = false) :
    RolesOk (s.loadingFails o) := h.finishLoading loading free (by decide)

theorem RolesOk.loadComplete {read : Option (List Byte)} (h : RolesOk s) (free : s.power.held = false) :
    RolesOk (s.loadComplete read) := by
  unfold State.loadComplete
  split
  · next reading =>
    split
    · exact h.loadingFails reading.1 free
    · split
      · exact h.finishLoading reading.1 free (num32_lt _ _)
      · exact h.loadingFails reading.1 free
  · exact h

theorem RolesOk.readTimeout (h : RolesOk s) (free : s.power.held = false) : RolesOk s.readTimeout :=
  h.expire fun d reading => (h.reach (d := d)).loadingFails (h.powerOk.reads (.inr (by rw [reading]; rfl))) free

theorem RolesOk.resetEnd {role1 role0 idsrc : Bool} (h : RolesOk s) : RolesOk (s.resetEnd role1 role0 idsrc) := by
  unfold State.resetEnd
  split
  · next held =>
    have loading := h.powerOk.reads (.inl held)
    have state : s.power.state = .loading := by simpa [State.loading] using loading
    simp only
    generalize htimer : (if idsrc = true then s.timerMs Config.identityReadMs else none) = timer
    have begins : RolesOk (s.modPower fun p =>
        { p with held := false, state := .loading, sourceFitted := idsrc, loadOutcome := none, readTimer := timer }) := by
      refine h.powered rfl (awake_of_loading loading) ?_ (fun _ locked => locked) (fun _ => rfl)
        (h.not_waking (by rw [state]; nofun)) h.powerOk.vehicle
      intro off
      rw [loading] at off
      cases off
    have strapped {f g : Port → Port} := begins.modPort (p := .portA) (g := f) |>.modPort (p := .portB) (g := g)
    split
    · exact strapped.startDebounce.startDebounce
    · refine RolesOk.loadingFails strapped.startDebounce.startDebounce ?_ ?_
      · rfl
      · rfl
  · exact h

/-! ## Stabling, waking, the lock and Node Reset -/

/-- The node becomes ACTIVE, and its Ends take up their senses (R24, R185). -/
theorem RolesOk.wakeSettled (h : RolesOk s) : RolesOk s.wakeSettled := by
  refine h.expire fun d settling => ?_
  have waking : s.power.state = .waking := h.powerOk.settles (by rw [settling]; rfl)
  have asleep : s.asleep = true := by simp [State.asleep, waking]
  have loading : s.loading = false := by simp [State.loading, waking]
  obtain ⟨free, idle⟩ := h.not_reading loading
  generalize hu : (s.reach d).modPower (fun p => { p with state := .active, wakeSettle := none }) = u
  have still : ((u.endActive .end1).endActive .end2).forget lineBlocks = u.forget lineBlocks := by simp [lineBlocks]
  have power := power_of_line still
  have woken : u.power = { s.power with state := .active, wakeSettle := none } := by rw [← hu]; rfl
  have kept : RolesKept s ((u.endActive .end1).endActive .end2) := by
    refine (RolesKept.refl s).elsewhere ((forget_mono still (by simp [lineBlocks, roleless])).trans ?_)
    rw [← hu]
    simp [roleless]
  have agrees (v : State) (e : EndId) :
      ((v.endActive e).lineEnd e).sense = .opened ↔ ((v.endActive e).lineEnd e).link = .opened := by
    cases sense : (v.lineEnd e).sense with
    | closed => rw [endActive_joining sense, lineEnd_enterJoining]; simp [sense]
    | opened => rw [endActive_opened sense, lineEnd_enterOpen]; simp [sense]
  have first : ((u.endActive .end1).endActive .end2).lineEnd .end1 = (u.endActive .end1).lineEnd .end1 :=
    lineEnd_endActive_other _ .end2
  have active : RolesOk ((u.endActive .end1).endActive .end2) := by
    refine (rolesOk_iff _).2 ⟨RoleOk.repower ?_ kept ?_ ?_ ?_, ?_, ?_, fun _ e => ?_, ?_⟩
    · refine h.roleOk.relink fun _ leads => ?_
      have awake := (h.roleOk.canHead h.powerOk leads).awake
      rw [asleep] at awake
      cases awake
    · intro; unfold State.asleep; rw [power, woken]
    · intro; unfold State.loading; rw [power, woken]; rfl
    · intro _ locked; rw [power, woken]; exact locked
    · rw [power, woken, free, idle]
      nofun
    · rw [power, woken]
      nofun
    · cases e
      · rw [first]; exact agrees u .end1
      · exact agrees _ .end2
    · rw [power, woken]
      exact h.powerOk.vehicle
  exact RolesOk.raise (active.still (RolesKept.refl _).recomputeTarget (skel_recomputeTarget _ _))

/-- An UNASSIGNED node that is ACTIVE falls asleep (R183). -/
theorem RolesOk.enterStabled (h : RolesOk s) (check : stableCheck s = none) : RolesOk s.enterStabled := by
  have passed : s.power.state = .active ∧ s.inaug.role = .unassigned := by
    unfold stableCheck at check
    by_contra fails
    rw [not_and_or] at fails
    rcases fails with other | role
    · simp [other, firstReason] at check
    · simp [role, firstReason] at check
  obtain ⟨active, role⟩ := passed
  have loading : s.loading = false := by simp [State.loading, active]
  obtain ⟨free, idle⟩ := h.not_reading loading
  have settled := h.not_waking (by rw [active]; nofun)
  have still : s.enterStabled.forget roleless = s.forget roleless := by simp [State.enterStabled, roleless]
  have kept : RolesKept s s.enterStabled := (RolesKept.refl s).elsewhere still
  have power : s.enterStabled.power = { s.power with state := .stabled, wakeCause := .none } := by
    have same : (((((s.endStable .end1).endStable .end2).stageStable).releaseLatches)).power = s.power :=
      sameBlock_of_forget (L := .stages :: lineBlocks) (by simp [lineBlocks]) .power (by simp [lineBlocks])
    unfold State.enterStabled
    rw [modPower_power, same]
  refine (rolesOk_iff _).2 ⟨?_, ?_, ?_, ?_, by rw [power]; exact h.powerOk.vehicle⟩
  · have inaug := kept.inaug
    have roles := h.roleOk
    cases roles with
    | unassigned _ away stopped silence rests =>
      exact .unassigned (by rw [inaug, role]) (away.of_headRole (by rw [inaug]))
        (by unfold State.CountStopped; rw [inaug]; exact stopped) (by rw [inaug, silence]) (rests.kept kept away.2)
    | counted _ counted => rw [counted] at role; cases role
    | claiming _ counted => rw [counted] at role; cases role
    | member _ member => rw [member] at role; cases role
    | heading _ member => rw [member] at role; cases role
  · rw [power, free, idle]
    nofun
  · rw [power, settled]
    nofun
  · intro awake
    rw [State.asleep, power] at awake
    cases awake

theorem RolesOk.wakeCommand {p : PortId} (h : RolesOk s) : RolesOk (s.live fun s => s.wakeWritten p) := by
  refine h.live fun _ => ?_
  unfold State.wakeWritten
  split
  · simp only
    split
    · exact (RolesOk.wakeBy h.modPort).modPort
    · exact RolesOk.modPort h.modPort
  · exact h

theorem RolesOk.repowered {g : Power → Power} (h : RolesOk s)
    (same : (g s.power).held = s.power.held ∧ (g s.power).state = s.power.state
      ∧ (g s.power).readTimer = s.power.readTimer ∧ (g s.power).wakeSettle = s.power.wakeSettle)
    (locks : s.loading = false → s.power.locked = true → (g s.power).locked = true)
    (vehicle : (g s.power).record.vehicle < 2 ^ 32) : RolesOk (s.modPower g) := by
  obtain ⟨held, state, reading, settle⟩ := same
  obtain ⟨reads, settles, senses, -⟩ := h.powerOk
  have links : (s.modPower g).links = s.links := funext fun e => by unfold State.links; rw [lineEnd_modPower]
  have sleep : (s.modPower g).asleep = s.asleep := by unfold State.asleep; rw [modPower_power, state]
  have load : (s.modPower g).loading = s.loading := by unfold State.loading; rw [modPower_power, state]
  refine (rolesOk_iff _).2 ⟨?_, ?_, ?_, fun awake e => ?_, vehicle⟩
  · rw [links]
    exact h.roleOk.repower ((RolesKept.refl s).elsewhere (by simp [roleless])) sleep.trans load.trans locks
  · rw [modPower_power, held, reading, load]; exact reads
  · rw [modPower_power, settle, state]; exact settles
  · rw [lineEnd_modPower]
    exact senses (by rwa [sleep] at awake) e

theorem RolesOk.lockIdentity (h : RolesOk s) : RolesOk s.lockIdentity :=
  RolesOk.still (h.repowered (g := fun p => { p with locked := true }) ⟨rfl, rfl, rfl, rfl⟩ (fun _ _ => rfl) h.powerOk.vehicle)
    (RolesKept.refl _).sourceChanged (skel_sourceChanged _)

theorem HeadRests.of_reset (cycle : s.cycle = .reset) (grants : s.grants = .reset) (track : s.track = .reset) : HeadRests s :=
  ⟨by rw [cycle]; rfl, by rw [cycle]; rfl, by rw [cycle]; rfl, by rw [cycle]; rfl, by rw [grants]; rfl, by rw [track]; rfl,
    by rw [track]; rfl⟩

/-- Node Reset leaves no role, and the power state as it was (R66, R186). -/
theorem RolesOk.nodeReset (h : RolesOk s) : RolesOk s.nodeReset := by
  have blocks : RolesOk s.resetBlocks := by
    obtain ⟨reads, settles, senses, vehicle⟩ := h.powerOk
    exact (rolesOk_iff _).2 ⟨.unassigned rfl ⟨rfl, rfl⟩ ⟨rfl, rfl, rfl⟩ rfl (.of_reset rfl rfl rfl), reads, settles,
      fun awake e => by cases e; exacts [senses awake .end1, senses awake .end2], vehicle⟩
  have reset : RolesOk s.resetBlocks.stageNodeReset :=
    blocks.still (RolesKept.refl _).stageNodeReset (skel_stageNodeReset _)
  have told {c : LeaveCause} {x : State} (hx : RolesOk x) (role : x.inaug.role = .unassigned) :
      RolesOk (x.modInaug fun i => { i with lastCause := some c }) := by
    refine hx.engine ?_ rfl
    have roles := hx.roleOk
    cases roles with
    | unassigned _ away stopped silence rests => exact .unassigned role away stopped silence rests.modInaug
    | counted _ counted => rw [counted] at role; cases role
    | claiming _ counted => rw [counted] at role; cases role
    | member _ member => rw [member] at role; cases role
    | heading _ member => rw [member] at role; cases role
  unfold State.nodeReset
  simp only
  split
  · refine RolesOk.raise (told reset ?_)
    rw [((RolesKept.refl s.resetBlocks).stageNodeReset).inaug]
    rfl
  · exact reset

/-! ## Written bytes -/

theorem RolesOk.clearCount {e : EndId} {c : EndCount} (h : RolesOk s) : RolesOk (s.modEnd e fun l => l.clearCount c) :=
  h.line (by cases e <;> simp [lineBlocks]) ((EndsAlike.refl s).modEnd (by cases c <;> exact ⟨rfl, .rfl⟩))

theorem RolesOk.goUnassigned {cause : LeaveCause} (h : RolesOk s) (away : s.NoHead) : RolesOk (s.goUnassigned cause) :=
  h.engine (h.roleOk.goUnassigned away) (skel_goUnassigned _ _)

theorem noHead_of_unlocked (h : RolesOk s) (unlocked : s.power.locked = false) : s.NoHead := by
  refine noHead_of_not fun leads => ?_
  have locked := (h.roleOk.canHead h.powerOk (by rw [Bool.or_eq_true] at leads; exact leads.symm)).locked
  rw [unlocked] at locked
  cases locked

theorem vehicle_setField_other {x : IdentityRecord} {offset n : Nat} (other : offset ≠ 4) :
    (x.setField offset n).vehicle = x.vehicle := by
  unfold IdentityRecord.setField
  rw [if_neg other]
  simp only [apply_ite IdentityRecord.vehicle, ite_self]

/-- A field in its coded range leaves a vehicle number that fits (R181, R188). -/
theorem vehicle_setField {x : IdentityRecord} {offset n : Nat} (hx : x.vehicle < 2 ^ 32) (fits : fieldInRange offset n = true) :
    (x.setField offset n).vehicle < 2 ^ 32 := by
  by_cases field : offset = 4
  · subst field
    unfold fieldInRange IdentityRecord.inRange at fits
    rw [Bool.and_eq_true, decide_eq_true_eq] at fits
    obtain ⟨⟨bound, -⟩, -⟩ := fits
    have number (y : IdentityRecord) : (y.setField 4 n).vehicle = n := rfl
    rw [number] at bound ⊢
    omega
  · rw [vehicle_setField_other field]
    exact hx

/-- A field written at a node that is not locked, so that it is no head (R53, R181). -/
theorem RolesOk.fieldTaken {offset n : Nat} (h : RolesOk s) (unlocked : s.power.locked = false) (fits : fieldInRange offset n = true) :
    RolesOk (s.fieldTaken offset n) := by
  have taken : RolesOk (s.modPower fun x => { x with record := x.record.setField offset n }) :=
    h.repowered ⟨rfl, rfl, rfl, rfl⟩ (fun _ locked => locked) (vehicle_setField h.powerOk.vehicle fits)
  have left : RolesOk ((s.modPower fun x => { x with record := x.record.setField offset n }).goUnassigned .identityChange) :=
    taken.goUnassigned (noHead_of_unlocked taken unlocked)
  unfold State.fieldTaken
  simp only
  split
  · split
    · exact left.identityToStages
    · exact taken.identityToStages
  · split
    · exact left
    · exact taken

/-- A byte of the identity that completes a field is judged (R181). -/
theorem RolesOk.judgeField {p : PortId} {offset : Nat} {v : Byte} (h : RolesOk s) : RolesOk (s.judgeField p offset v) := by
  have numbered : RolesOk { s with freeCount := s.freeCount + 32 } := by
    refine h.keep ((RolesKept.refl s).same rfl rfl rfl rfl) rfl ((EndsAlike.refl s).same fun e => by cases e <;> rfl)
  have judged (o : IdentityWrite) : RolesOk (({ s with freeCount := s.freeCount + 32 } : State).modPower fun x =>
      { x with lastIdentityWrite := o }) :=
    numbered.repowered ⟨rfl, rfl, rfl, rfl⟩ (fun _ locked => locked) numbered.powerOk.vehicle
  unfold State.judgeField
  simp only
  split
  · next done =>
    unfold State.fieldOutcome at done
    split at done
    · cases done
    · split at done
      · cases done
      · next unlocked =>
        split at done
        · cases done
        · next fits => exact (judged _).fieldTaken (by simpa using unlocked) (by simpa using fits)
  · exact judged _

theorem RolesOk.portAndMessages (h : RolesOk s)
    (f : t.forget [.messages, .portOf .portA, .portOf .portB] = s.forget [.messages, .portOf .portA, .portOf .portB]) :
    RolesOk t :=
  h.keep ((RolesKept.refl s).elsewhere (forget_mono f (by simp [roleless])))
    (sameBlock_of_forget f .power (by simp))
    ((EndsAlike.refl s).same fun e => sameBlock_of_forget f (.endOf e) (by simp))

/-! ## The gates of commands -/

theorem RolesOk.whileAwake {f : State → State} (h : RolesOk s) (hf : s.asleep = false → RolesOk (f s)) : RolesOk (s.awake f) := by
  unfold State.awake
  split
  · exact h
  · next g => exact hf (by simp_all)

theorem RolesOk.write {p : PortId} {a : Nat} {f : State → State} (h : RolesOk s)
    (hf : ∀ u : State, RolesOk u → RolesOk (f u)) : RolesOk (s.write p a f) := by
  refine h.live fun _ => ?_
  split
  · simp only
    split
    · exact h.modPort
    · exact hf _ h.modPort
  · exact h

theorem RolesOk.writeArea {p : PortId} {code offset : Nat} {f : State → State} (h : RolesOk s)
    (hf : ∀ u : State, RolesOk u → RolesOk (f u)) : RolesOk (s.writeArea p code offset f) := by
  unfold State.writeArea
  split
  · exact h.write hf
  · exact h

/-- A command acts outside LOADING, awake, and past its own check (R171). -/
theorem RolesOk.command {p : PortId} {need : Need} {check : State → Option Reason} {act : State → State}
    {data : State → Nat} (h : RolesOk s)
    (ha : ∀ u : State, RolesOk u → u.asleep = false → u.loading = false → check u = none → RolesOk (act u)) :
    RolesOk (s.command p need check act data) := by
  refine h.live fun _ => ?_
  split
  · simp only
    split
    · exact h.modPort
    · next awake =>
      split
      · exact RolesOk.modPort h.modPort
      · next admitted =>
        unfold State.refusal at admitted
        split at admitted
        · cases admitted
        · split at admitted
          · cases admitted
          · next loaded =>
            have written : RolesOk (s.wrote p opcodeAddress) := h.modPort
            exact (ha _ written (by simpa using awake) (by simpa using loaded) admitted).modPort
  · exact h

/-- A command whose action changes no role. -/
theorem RolesOk.stillCommand {p : PortId} {need : Need} {check : State → Option Reason} {act : State → State}
    {data : State → Nat} (h : RolesOk s) (kept : ∀ u : State, RolesKept u (act u))
    (same : ∀ u : State, (act u).skeleton = u.skeleton) : RolesOk (s.command p need check act data) :=
  h.command fun u hu _ _ _ => hu.still (kept u) (same u)

/-- A timer's expiry whose action changes no role. -/
theorem RolesOk.stillExpiry {x : Timer} {f : State → State} (h : RolesOk s) (kept : ∀ u : State, RolesKept u (f u))
    (same : ∀ u : State, (f u).skeleton = u.skeleton) : RolesOk (s.live fun s => s.expire x f) :=
  h.live fun _ => h.expire fun _ _ => h.reach.still (kept _) (same _)

/-- A timer's expiry whose action keeps the roles. -/
theorem RolesOk.engineExpiry {x : Timer} {f : State → State} (h : RolesOk s)
    (roles : ∀ d, x = some d → RoleOk (s.reach d).links (f (s.reach d)))
    (same : ∀ u : State, (f u).skeleton = u.skeleton) : RolesOk (s.live fun s => s.expire x f) :=
  h.live fun _ => h.expire fun d hd => h.reach.engine (roles d hd) (same _)

theorem RolesOk.writeFixed {p : PortId} {address : Nat} {v : Byte} (h : RolesOk s) : RolesOk (s.writeFixed p address v) := by
  unfold State.writeFixed
  split
  · exact h.modPort
  · split
    · exact h.modPort
    · split
      · split
        · exact h.modPort
        · exact h
      · split
        · split
          · exact h.modPort
          · exact h
        · split
          · exact h.modPort
          · exact h

theorem RolesOk.registerWrite {p : PortId} {address : Nat} {v : Byte} (h : RolesOk s) : RolesOk (s.registerWrite p address v) := by
  refine h.write fun u hu => ?_
  split
  · exact hu.writeFixed
  · unfold State.writeInArea State.writeIdentity
    simp only
    split
    · split
      · exact hu.clearCount
      · exact hu
    · split
      · unfold State.writeMessageWindow
        split
        · split
          · exact hu.still ((RolesKept.refl u).elsewhere (by simp [roleless])) rfl
          · exact hu
        · exact hu
      · split
        · split
          · exact hu.judgeField
          · split
            · exact hu.modPort
            · exact hu
        · exact hu

/-! ## Claim Cab and Release Cab -/

theorem RoleOk.claimCab (h : RoleOk s.links s) (can : CanHead s.links s) (away : s.NoHead) : RoleOk s.links s.claimCab := by
  unfold State.claimCab
  split
  · next e chosen => exact h.attemptFrom can (can.opens e (sense_of_claimHeadward chosen))
  · exact h.failClaim away

theorem claimCheck_passed (h : claimCheck s = none) : s.power.locked = true ∧ s.NoHead := by
  unfold claimCheck at h
  cases ready : s.ready && s.power.record.cabFitted with
  | false => rw [ready] at h; cases h
  | true =>
    cases leads : s.claiming || s.heading with
    | true => rw [ready, leads] at h; cases h
    | false =>
      rw [State.ready, Bool.and_eq_true, Bool.and_eq_true] at ready
      exact ⟨ready.1.1, noHead_of_not (by rw [leads]; nofun)⟩

theorem RoleOk.releaseCab {l : EndId → LinkState} (h : RoleOk l s) : RoleOk l s.releaseCab := by
  have gone {u : State} {cause : LeaveCause} (hu : RoleOk l u) : RoleOk l (u.goUnassigned cause).dropClaim :=
    (goneFrom_goUnassigned hu cause).dropClaim
  have roles := h
  unfold State.releaseCab
  cases h with
  | unassigned role away stopped silence rests =>
    rw [role]
    exact roles.dropClaim away
  | counted x role away timer silence rests awake =>
    rw [role]
    simp only [away.1]
    exact roles.dropClaim away
  | claiming x role head wait silence rests awake loaded stands =>
    rw [role]
    simp only [(claiming_iff s).2 head]
    exact gone roles.placeDissolve
  | member a role away stopped rests awake loaded fits =>
    rw [role]
    simp only [away.2]
    exact roles.dropClaim away
  | heading a role head stopped silence works awake loaded fits stands =>
    rw [role]
    simp only [(heading_iff s).2 head]
    exact gone roles.placeDissolve

/-! ## Transactions and reads -/

theorem RolesOk.transactionStart {p : PortId} {c : Option Byte} (h : RolesOk s) : RolesOk (s.transactionStart p c) := by
  unfold State.transactionStart
  split
  · exact h
  · exact h.modPort

theorem RolesOk.areaCapture {p : PortId} (h : RolesOk s) : RolesOk (s.areaCapture p) := by
  unfold State.areaCapture
  split
  · simp only
    split
    · exact RolesOk.modPort h.modPort
    · exact h
  · exact h

theorem RolesOk.stageRead {p : PortId} {stage plain offset : Nat} {f : State → State} (h : RolesOk s)
    (hf : ∀ u : State, RolesOk u → RolesOk (f u)) : RolesOk (s.stageRead p stage plain offset f) := by
  refine h.live fun _ => ?_
  split
  · exact hf s h
  · exact h

theorem RolesOk.stageLowRead {p : PortId} {n : Nat} (h : RolesOk s) : RolesOk (s.stageLowRead p n) := by
  unfold State.stageLowRead
  simp only
  split
  · exact h.modPort
  · exact RolesOk.modPort h.modPort

theorem RolesOk.stageHighRead {p : PortId} {n : Nat} (h : RolesOk s) : RolesOk (s.stageHighRead p n) := by
  unfold State.stageHighRead
  simp only
  split
  · exact h.modPort
  · split
    · split
      · exact RolesOk.modPort h.modPort
      · exact h.modPort
    · exact h.modPort

theorem RolesOk.stageTimerExpiry {n : Nat} (h : RolesOk s) : RolesOk (s.stageTimerExpiry n) := by
  unfold State.stageTimerExpiry
  split
  · exact h.expire fun _ _ => h.reach.still (RolesKept.refl _).stageExpired (skel_stageExpired _ _)
  · exact h

theorem RolesOk.serverStep (h : RolesOk s) : RolesOk (if s.power.state = .active then s.serverStep else s) := by
  split
  · exact h.portAndMessages (by simp)
  · exact h

theorem RolesOk.deadlineExpiry {n : Nat} (h : RolesOk s) : RolesOk (s.deadlineExpiry n) := by
  unfold State.deadlineExpiry
  split
  · exact h.expire fun d _ => (h.reach (d := d)).portAndMessages (by simp)
  · exact h

/-! ## Every command -/

/-- The port commands, those of the table of 10.3. -/
theorem portCommand_rolesOk (h : RolesOk s) (c : Instr) (hc : (commandNeed c).isSome = true) : Answers RolesOk (exec c s) := by
  cases c
  case claimCab p =>
    refine h.command fun u hu awake loaded check => ?_
    obtain ⟨locked, away⟩ := claimCheck_passed check
    have can : CanHead u.links u :=
      ⟨awake, loaded, locked, hu.powerOk.vehicle, fun e sense => (hu.powerOk.senses awake e).1 sense⟩
    exact hu.engine (hu.roleOk.claimCab can away) (skel_claimCab u)
  case releaseCab p => exact h.command fun u hu _ _ _ => hu.engine hu.roleOk.releaseCab (skel_releaseCab u)
  case setStandstill p =>
    exact h.stillCommand (fun u => (RolesKept.refl u).setStandstill) fun u => skel_setStandstill u _
  case issueOrder p => exact h.stillCommand (fun u => (RolesKept.refl u).issueFromOperands) fun u => skel_issueFromOperands u p
  case writeDoorStatus p =>
    exact h.stillCommand (fun u => (RolesKept.refl u).writeDoorStatus) fun u => skel_writeDoorStatus u _
  case localClose p => exact h.stillCommand (fun u => (RolesKept.refl u).localClose) fun u => skel_localClose u _
  case setLineTiming p => exact h.command fun u hu _ _ _ => hu.engine hu.roleOk.setLineTiming (skel_setLineTiming u _)
  case setDemand p => exact h.stillCommand (fun u => (RolesKept.refl u).setDemand) fun u => skel_setDemand u _
  case setSupplyBudget p => exact h.stillCommand (fun u => (RolesKept.refl u).setBudget) fun u => skel_setBudget u _
  case selectPosition p => exact h.command fun u hu _ _ _ => hu.modPort
  case take p => exact h.command fun u hu _ _ _ => hu.portAndMessages (by simp)
  case selectBuffer p => exact h.command fun u hu _ _ _ => hu.modPort
  case post p => exact h.command fun u hu _ _ _ => hu.portAndMessages (by simp)
  case fetch p => exact h.command fun u hu _ _ _ => hu.portAndMessages (by simp)
  case returnBuffer p => exact h.command fun u hu _ _ _ => hu.portAndMessages (by simp)
  case setQuotas p => exact h.command fun u hu _ _ _ => hu.portAndMessages (by simp)
  case nodeReset p => exact h.command fun u hu _ _ _ => hu.nodeReset
  case endReset p => exact h.command fun u hu _ _ _ => hu.endResetNamed
  case stable p => exact h.command fun u hu _ _ check => hu.enterStabled check
  case lockIdentity p => exact h.command fun u hu _ _ _ => hu.lockIdentity
  all_goals cases hc

theorem writeOpcode_rolesOk (h : RolesOk s) (p : PortId) (opcode : Nat) : Answers RolesOk (writeOpcode p opcode s) := by
  unfold writeOpcode
  split
  · exact portCommand_rolesOk h (.claimCab p) rfl
  · exact portCommand_rolesOk h (.releaseCab p) rfl
  · exact portCommand_rolesOk h (.setStandstill p) rfl
  · exact portCommand_rolesOk h (.issueOrder p) rfl
  · exact portCommand_rolesOk h (.writeDoorStatus p) rfl
  · exact portCommand_rolesOk h (.localClose p) rfl
  · exact portCommand_rolesOk h (.setLineTiming p) rfl
  · exact portCommand_rolesOk h (.setDemand p) rfl
  · exact portCommand_rolesOk h (.setSupplyBudget p) rfl
  · exact portCommand_rolesOk h (.selectPosition p) rfl
  · exact portCommand_rolesOk h (.take p) rfl
  · exact portCommand_rolesOk h (.selectBuffer p) rfl
  · exact portCommand_rolesOk h (.post p) rfl
  · exact portCommand_rolesOk h (.fetch p) rfl
  · exact portCommand_rolesOk h (.returnBuffer p) rfl
  · exact portCommand_rolesOk h (.setQuotas p) rfl
  · exact portCommand_rolesOk h (.nodeReset p) rfl
  · exact portCommand_rolesOk h (.endReset p) rfl
  · exact portCommand_rolesOk h (.stable p) rfl
  · exact h.wakeCommand
  · exact portCommand_rolesOk h (.lockIdentity p) rfl
  · exact h.write fun u hu => hu.modPort

/-- Every command keeps the roles and the power state in agreement. -/
theorem exec_rolesOk (h : RolesOk s) (c : Instr) : Answers RolesOk (exec c s) := by
  cases c
  case powerOnReset => exact rolesOk_hardReset s
  case resetPin => exact rolesOk_hardReset s
  case resetEnd => exact h.resetEnd
  case loadComplete => exact h.live h.loadComplete
  case identityReadTimeout => exact h.live h.readTimeout
  case rawSenseChange => exact h.rawChange
  case senseDebounceExpiry => exact h.live fun _ => h.debounceExpiry
  case copyStart => exact h.live fun _ => h.copyStart
  case lineIdleAbort => exact h.live fun _ => h.idleAbort
  case copyReceived => exact h.live fun _ => h.copyReceived
  case twinWindowExpiry => exact h.live fun _ => h.twinExpiry
  case linkIdleExpiry => exact h.live fun _ => h.linkIdleExpiry
  case keepaliveExpiry => exact h.whileAwake fun _ => h.keepaliveExpiry
  case arbiterTake => exact h.whileAwake fun _ => h.arbiterTake
  case transmitComplete => exact h.whileAwake fun _ => h.transmitComplete
  case callOriginate =>
    exact h.whileAwake fun _ => h.engine (h.roleOk.callOriginate h.powerOk) (skel_callOriginate s)
  case hopTimerExpiry =>
    exact h.engineExpiry (fun d _ => (h.reach (d := d)).roleOk.hopExpired h.reach.powerOk) skel_hopExpired
  case inaugurationTimerExpiry =>
    exact h.engineExpiry (fun d _ => (h.reach (d := d)).roleOk.inaugurationExpired h.reach.powerOk) skel_inaugurationExpired
  case commitWaitExpiry =>
    exact h.engineExpiry (fun d waits => (h.reach (d := d)).roleOk.commitWaited waits) fun u => by simp
  case silenceExpiry =>
    exact h.engineExpiry (fun d silent => (h.reach (d := d)).roleOk.silenceExpired silent) skel_silenceExpired
  case cycleTimeoutExpiry =>
    exact h.engineExpiry (fun d _ => (h.reach (d := d)).roleOk.cycleTimedOut h.reach.powerOk) skel_cycleTimedOut
  case periodTimerExpiry =>
    exact h.engineExpiry (fun d _ => (h.reach (d := d)).roleOk.stopCycleTimer
      (g := fun c => { c with periodTimer := none }) ⟨rfl, .inl rfl, .inr rfl, .inl rfl⟩) fun u => by simp
  case refreshTimerExpiry =>
    exact h.engineExpiry (fun d _ => (h.reach (d := d)).roleOk.stopCycleTimer
      (g := fun c => { c with refreshTimer := none }) ⟨rfl, .inl rfl, .inl rfl, .inr rfl⟩) fun u => by simp
  case closeTimerExpiry => exact h.stillExpiry (fun u => (RolesKept.refl u).modDoor.raise) fun u => by simp
  case attendanceTimerExpiry =>
    exact h.stillExpiry (fun u => (RolesKept.refl u).modDoor.sourceChanged.withdrawSide.withdrawSide.raise)
      fun u => by simp [State.bothSides]
  case proofLifetimeExpiry => exact h.stillExpiry (fun u => (RolesKept.refl u).unprove) skel_unprove
  case stageTimerExpiry stage => exact h.live fun _ => h.stageTimerExpiry
  case transmitServerStep => exact h.live fun _ => h.serverStep
  case storingEnd => exact h.live fun _ => h.portAndMessages (by simp)
  case deadlineExpiry => exact h.live fun _ => h.deadlineExpiry
  case wakeSettleExpiry => exact h.live fun _ => h.wakeSettled
  case transactionStart => exact h.live fun _ => h.transactionStart
  case transactionEnd => exact h.live fun _ => h.modPort
  case areaCapture => exact h.live fun _ => h.areaCapture
  case stageTimerLowRead => exact h.stageRead fun u hu => hu.stageLowRead
  case stageTimerHighRead => exact h.stageRead fun u hu => hu.stageHighRead
  case flagClear => exact h.write fun u hu => hu.modPort
  case enableWrite => exact h.write fun u hu => hu.modPort
  case countClearWrite => exact h.writeArea fun u hu => hu.clearCount
  case identityFieldWrite p offset v =>
    show RolesOk (if identityFieldEnds.contains offset = true then _ else s)
    split
    · exact h.writeArea fun u hu => hu.judgeField
    · exact h
  case registerWrite p address v =>
    show Answers RolesOk (if address = opcodeAddress then writeOpcode p v.toNat s else .next (s.registerWrite p address v))
    split
    · exact writeOpcode_rolesOk h p v.toNat
    · exact h.registerWrite
  case wakeCommand => exact h.wakeCommand
  all_goals exact portCommand_rolesOk h _ rfl

/-- Settles O4, by the roles of a node case by case under every operation. -/
theorem everyStepKeepsTheRoles : Obligations.EveryStepKeepsTheRoles := by
  intro s t h hs
  unfold step at hs
  split at hs
  · cases hs
    exact h.keep ((RolesKept.refl s).same rfl rfl rfl rfl) rfl ((EndsAlike.refl s).same fun e => by cases e <;> rfl)
  · next c rest _ =>
    have queue : RolesOk { s with pending := rest } :=
      h.keep ((RolesKept.refl s).same rfl rfl rfl rfl) rfl ((EndsAlike.refl s).same fun e => by cases e <;> rfl)
    have answers := exec_rolesOk queue c
    rw [hs] at answers
    exact answers

end Sys2Proof.Machine

/-! PROOF. The flagged TALLY at a node, and the Dissolve (R36, R47): O36, O38. -/

namespace Sys2Proof.Machine

variable {s t : State}

/-! ## A flagged TALLY at a node -/

theorem tallyAtNode_tooLong {r : CountRecord} {f : Frame} (flag : TallyFlag.ofByte (byteAt f.payload 6) = .tooLong) :
    s.tallyAtNode r f = ((s.place r.headward .inauguration f).modInaug fun i => { i with hopTimer := none }).setRecord
      { r with stage := .tallySent } := by
  unfold State.tallyAtNode
  rw [flag]

theorem tallyAtNode_contest {r : CountRecord} {f : Frame} (flag : TallyFlag.ofByte (byteAt f.payload 6) = .contest) :
    s.tallyAtNode r f = (s.place r.headward .inauguration f).goUnassigned .contest := by
  unfold State.tallyAtNode
  rw [flag]

/-- A COUNTED node that leaves touches no End (R65). -/
theorem lineEnd_goUnassigned_counted {r : CountRecord} (cause : LeaveCause) (hr : s.counted = some r) (d : EndId) :
    (s.goUnassigned cause).lineEnd d = s.lineEnd d :=
  sameBlock_of_forget (forget_goUnassigned_counted cause hr) (.endOf d) (by simp [countedLeaving])

theorem lineEnd_goUnassigned_member {a : ActiveConsist} (cause : LeaveCause) (ha : s.active = some a) (head : s.heading = false)
    (d : EndId) : (s.goUnassigned cause).lineEnd d = s.lineEnd d :=
  sameBlock_of_forget (forget_goUnassigned_member cause ha head) (.endOf d) (by simp [memberLeaving, countedLeaving])

theorem inSlot_of_lineEnd {e : EndId} {x : Source} {f : Frame} (h : t.lineEnd e = s.lineEnd e) (stands : InSlot s e x f) :
    InSlot t e x f := by
  unfold InSlot at stands ⊢
  rw [h]
  exact stands

/-- Settles O36: the TALLY goes on as it came; TOO_LONG ends the answer, CONTEST the count. -/
theorem aFlaggedTallyIsPassedOnUnchanged : Obligations.AFlaggedTallyIsPassedOnUnchanged := by
  intro s r f kind claim hr head attempt t
  have handed : t = s.tallyAtNode r f := (handOn_tally kind).trans (receiveTally_node claim hr head attempt)
  obtain ⟨inaug, -⟩ := place_rest s r.headward .inauguration f
  rw [handed]
  refine ⟨fun tooLong => ?_, fun contest => ?_⟩
  · rw [tallyAtNode_tooLong tooLong]
    have ends (d : EndId) : (((s.place r.headward .inauguration f).modInaug fun i => { i with hopTimer := none }).setRecord
        { r with stage := .tallySent }).lineEnd d = (s.place r.headward .inauguration f).lineEnd d := by
      rw [State.setRecord, lineEnd_modInaug, lineEnd_modInaug]
    refine ⟨?_, ?_, ends _, fun free => inSlot_of_lineEnd (ends _) (place_inSlot s _ _ f free)⟩
    · rw [State.setRecord, modInaug_inaug, modInaug_inaug, inaug]
    · rw [onlyChanges_iff_forget]
      simp
  · rw [tallyAtNode_contest contest]
    have counted := (counted_of_inaug inaug).trans hr
    have ends := lineEnd_goUnassigned_counted .contest counted
    refine ⟨?_, ?_, ends _, fun free => inSlot_of_lineEnd (ends _) (place_inSlot s _ _ f free)⟩
    · rw [inaug_goUnassigned_counted _ counted, inaug]
    · rw [onlyChanges_iff_forget, forget_mono (forget_goUnassigned_counted .contest counted) (by simp [countedLeaving])]
      simp

/-! ## A Dissolve -/

/-- The Dissolves a node takes (R47). -/
theorem takesDissolve_iff (s : State) (e : EndId) (head : Nat) : s.takesDissolve e head = true ↔
    s.claiming = false ∧ s.heading = false ∧ ((∃ r, s.counted = some r ∧ e = r.headward ∧ r.head = head)
      ∨ ∃ a, s.active = some a ∧ e = a.headward ∧ a.identity.head = head) := by
  unfold State.takesDissolve State.counted State.active
  cases s.inaug.role <;> simp [eq_comm (a := head), and_assoc]

/-- A Dissolve is a COMMIT of Length 0 (R47). -/
theorem handOn_dissolve {e : EndId} {f : Frame} (kind : f.kind = .commit) (zero : num8 f.payload 8 = 0) :
    s.handOn e f = s.receiveDissolve e f := by
  rw [handOn_commit kind]
  unfold State.receiveCommit
  exact if_pos zero

/-- What a node is left with that a Dissolve takes out of its count or consist, before the Dissolve goes on (R47, R65). -/
structure Dissolved (s u : State) : Prop where
  role : u.inaug.role = .unassigned
  cause : u.inaug.lastCause = some .dissolve
  hop : u.inaug.hopTimer = none
  wait : u.inaug.commitWait = none
  timer : u.inaug.inaugurationTimer = none
  silence : s.valid = true → u.inaug.silence = none
  raised : ∀ w, Gentle u w → RaisedAt .consistInvalidated w
  ends : ∀ d, u.lineEnd d = s.lineEnd d

theorem dissolved_counted {r : CountRecord} (hr : s.counted = some r) : Dissolved s (s.goUnassigned .dissolve) := by
  have inaug := inaug_goUnassigned_counted .dissolve hr
  refine ⟨by rw [inaug], by rw [inaug], by rw [inaug], by rw [inaug], by rw [inaug], fun valid => ?_,
    raised_goUnassigned_counted _ hr, lineEnd_goUnassigned_counted _ hr⟩
  rw [State.valid, State.active, role_of_counted hr] at valid
  cases valid

theorem dissolved_member {a : ActiveConsist} (ha : s.active = some a) (head : s.heading = false) :
    Dissolved s (s.goUnassigned .dissolve) := by
  have inaug := inaug_goUnassigned_member .dissolve ha head
  exact ⟨by rw [inaug], by rw [inaug], by rw [inaug], by rw [inaug], by rw [inaug], fun _ => by rw [inaug],
    raised_goUnassigned_member _ ha head, lineEnd_goUnassigned_member _ ha head⟩

/-- Settles O38: a Dissolve that is taken leads the node out first, and goes on in either case. -/
theorem aDissolveTakesItsNodesOut : Obligations.ADissolveTakesItsNodesOut := by
  intro s e f kind zero t taken
  have handed : t = s.receiveDissolve e f := handOn_dissolve kind zero
  have takes : s.takesDissolve e (num32 f.payload 0) = true ↔ taken := takesDissolve_iff s e _
  have passes (no : ¬taken) : t = s.place e.other .inauguration f := by
    rw [handed, State.receiveDissolve, if_neg (mt takes.1 no)]
  have leaves (yes : taken) : t = (s.goUnassigned .dissolve).place e.other .inauguration f := by
    rw [handed, State.receiveDissolve, if_pos (takes.2 yes)]
  have gone (yes : taken) : Dissolved s (s.goUnassigned .dissolve) := by
    obtain ⟨-, head, ⟨r, hr, -⟩ | ⟨a, ha, -⟩⟩ := yes
    · exact dissolved_counted hr
    · exact dissolved_member ha head
  refine ⟨fun yes => ?_, passes, fun free => ?_⟩
  · obtain ⟨role, cause, hop, wait, timer, silence, raised, ends⟩ := gone yes
    rw [leaves yes]
    rw [← (place_rest (s.goUnassigned .dissolve) e.other .inauguration f).1] at role cause hop wait timer silence
    refine ⟨role, cause, hop, wait, timer, silence, raised _ (Gentle.refl _).place, ?_, ?_, ?_⟩
    · have opposite := place_other (s.goUnassigned .dissolve) e.other .inauguration f
      rw [end_other_other, ends] at opposite
      exact opposite
    · exact lineEnd_place_congr _ _ _ ends _
    · rw [onlyChanges_iff_forget]
      simp [roleBlocks]
  · by_cases yes : taken
    · rw [leaves yes]
      exact place_inSlot _ _ _ _ (slotFree_of_lineEnd ((gone yes).ends _) free)
    · rw [passes yes]
      exact place_inSlot _ _ _ _ free

end Sys2Proof.Machine

/-! PROOF. Claim Cab and Release Cab at a port that admits them, and the attempt a claim begins (R25, R26, R27, R46):
O33, O34. -/

namespace Sys2Proof.Machine

variable {s t : State} {p : PortId} {need : Need} {check : State → Option Reason} {act : State → State}

/-! ## A port command whose action is an engine's -/

theorem raisedAt_answer {c : Cause} {x : CommandResult} {y : Option Reason} {n : Nat} (h : RaisedAt c s) :
    RaisedAt c (s.answer p x y n) := by
  intro q
  have queues : (s.answer p x y n).queues q = s.queues q := by cases p <;> cases q <;> rfl
  have read : (s.answer p x y n).flagByte q c.group = s.flagByte q c.group := by
    unfold State.flagByte
    rw [answer_flags, queues]
  have set := h q
  unfold State.flagSet at set ⊢
  rw [read]
  exact set

/-- A command of an engine that changes roles is answered DONE (R171). -/
theorem roleCommand (h : Admitted s p need) (passes : check (s.wrote p opcodeAddress) = none)
    (same : (act (s.wrote p opcodeAddress)).skeleton = (s.wrote p opcodeAddress).skeleton)
    (changes : (act (s.wrote p opcodeAddress)).forget roleBlocks = (s.wrote p opcodeAddress).forget roleBlocks) :
    s.plainCommand p need check act = (act (s.wrote p opcodeAddress)).answer p .done none 0
      ∧ Answered (s.port p) (((act (s.wrote p opcodeAddress)).answer p .done none 0).port p) .done none 0
      ∧ OnlyChanges roleBlocks s ((act (s.wrote p opcodeAddress)).answer p .done none 0) := by
  have done := command_done s p need check act (fun _ => 0) h passes
  have own := onlyRaises_of_skeleton same p
  unfold OnlyFlags at own
  rw [wrote_port] at own
  refine ⟨done, ?_, ?_⟩
  · simp only [Answered, State.answer, port_modPort, Port.answer]
    rw [own]
    exact ⟨rfl, rfl, rfl, rfl, rfl, rfl⟩
  · rw [onlyChanges_iff_forget, forget_answer _ _ _ _ _ _ (by cases p <;> simp [roleBlocks]), changes,
      forget_wrote _ _ _ _ (by cases p <;> simp [roleBlocks])]

/-- A command of an engine that changes a few blocks beside the flags is answered DONE (R171). -/
theorem engineDoneAt (bs : List Block) (h : Admitted s p need) (passes : check (s.wrote p opcodeAddress) = none)
    (same : (act (s.wrote p opcodeAddress)).skeleton = (s.wrote p opcodeAddress).skeleton)
    (changes : (act (s.wrote p opcodeAddress)).forget (.portOf .portA :: .portOf .portB :: bs)
      = (s.wrote p opcodeAddress).forget (.portOf .portA :: .portOf .portB :: bs)) :
    DoneAt p bs s (s.plainCommand p need check act) := by
  have raises := onlyRaises_of_skeleton same
  refine command_doneAt s p need check act bs h passes (raises p) ?_ changes
  have beside := raises p.other
  rw [wrote_port_other] at beside
  exact beside

/-! ## The attempt of a claim -/

/-- A recount changes no more of the inauguration than the role and what a member loses by it (R26, R29). -/
theorem recount_inaug (s : State) (x : CountRecord) : ∃ silence cause,
    (s.recount x).inaug = { s.inaug with role := .counted x, silence := silence, lastCause := cause } := by
  cases role : s.inaug.role with
  | unassigned =>
    have counts : s.recount x = (s.modInaug fun i => { i with role := .counted x }).roleChanged.reportRecount := by
      unfold State.recount; rw [role]
    rw [counts, reportRecount_inaug]
    exact ⟨_, _, rfl⟩
  | counted y =>
    have counts : s.recount x = (s.modInaug fun i => { i with role := .counted x }).reportRecount := by
      unfold State.recount; rw [role]
    rw [counts, reportRecount_inaug]
    exact ⟨_, _, rfl⟩
  | member a =>
    rw [recount_member (active_of_role role), leaveMember_inaug (next := .counted x) nofun]
    exact ⟨_, _, rfl⟩

/-- A recount at a node that is no head touches no End (R29, R65). -/
theorem lineEnd_recount (away : s.heading = false) (x : CountRecord) (d : EndId) :
    (s.recount x).lineEnd d = s.lineEnd d := by
  have tells (u : State) (none : u.active = none) : u.reportRecount.lineEnd d = u.lineEnd d :=
    sameBlock_of_forget (forget_reportRecount_away (.messages :: sideBlocks) none (by simp [sideBlocks]) (by simp)
      (by simp [sideBlocks])) (.endOf d) (by simp [sideBlocks])
  cases role : s.inaug.role with
  | unassigned =>
    have counts : s.recount x = (s.modInaug fun i => { i with role := .counted x }).roleChanged.reportRecount := by
      unfold State.recount; rw [role]
    rw [counts, tells _ rfl]
    cases d <;> rfl
  | counted y =>
    have counts : s.recount x = (s.modInaug fun i => { i with role := .counted x }).reportRecount := by
      unfold State.recount; rw [role]
    rw [counts, tells _ rfl, lineEnd_modInaug]
  | member a =>
    obtain ⟨-, -, -, -, ends⟩ := left_items (s := s) (next := .counted x) (cause := .countReception) nofun
    rw [recount_member (active_of_role role), leaveMember_member away, ends]

/-- The lone head a claim makes at the end of the train (R26, R27). -/
theorem lone_items {h : EndId} {n : Nat} (o : (s.lineEnd h.other).link = .opened) :
    let t := s.attemptFrom h n
    t.heading = true ∧ (t.active.map fun a => (a.position, a.length, a.headward)) = some (1, 1, h)
      ∧ t.inaug.attempt = n ∧ t.inaug.truncated = false ∧ t.inaug.generation = nextWrap 65535 s.inaug.generation
      ∧ t.inaug.inaugurationTimer = none ∧ RaisedAt .claimResult t ∧ RaisedAt .consistCommitted t := by
  simp only
  rw [attemptFrom_alone o]
  obtain ⟨silence, cause, recounted⟩ := recount_inaug s (s.claimRecord h n)
  generalize hu : ((s.recount (s.claimRecord h n)).modInaug fun i =>
    { i.stopTimers with headRole := .claiming, attempt := n }) = u
  have counting : u.inaug.attempt = n ∧ u.inaug.generation = s.inaug.generation := by
    rw [← hu, modInaug_inaug, recounted]
    exact ⟨rfl, rfl⟩
  obtain ⟨attempt, generation⟩ := counting
  obtain ⟨inaug, committed, result, -⟩ := commit_items u (s.claimRecord h n) 1 [] false
  obtain ⟨claimed, -⟩ := claimed_items u (s.claimRecord h n) 1 [] false
  rw [claimed] at inaug
  unfold State.loneHead State.heading State.active
  rw [inaug]
  exact ⟨by simp, rfl, attempt, rfl, by rw [generation], rfl, result, committed⟩

/-- The inauguration of an attempt that waits for its TALLY (R26). -/
theorem attempts_inaug (s : State) (h : EndId) (n : Nat) : ∃ silence cause, (s.attempts h n).inaug = { s.inaug with
    role := .counted (s.claimRecord h n), silence := silence, lastCause := cause, commitWait := none
    headRole := .claiming, attempt := n
    inaugurationTimer := some (s.now + s.cycle.timing.inaugurationTimeout * 1000)
    hopTimer := if (s.lineEnd h.other).link.stage = .awaitingHop then some (s.now + 100000) else none } := by
  obtain ⟨silence, cause, recounted⟩ := recount_inaug s (s.claimRecord h n)
  have now : (s.recount (s.claimRecord h n)).now = s.now := skeleton_now (skel_recount s _)
  have placed (u : State) (f : Frame) : (u.place h.other .inauguration f).now = u.now := skeleton_now (by simp)
  refine ⟨silence, cause, ?_⟩
  unfold State.attempts State.startHop
  simp only [modInaug_inaug, (place_rest _ _ _ _).1, recounted, timerMs_eq, placed, modInaug_now, now]
  rfl

/-- The claim that goes on, with its COUNT toward the tail (R26). -/
theorem count_items {h : EndId} {n : Nat} (o : (s.lineEnd h.other).link ≠ .opened) (away : s.heading = false) :
    let t := s.attemptFrom h n
    t.inaug.headRole = .claiming ∧ t.inaug.attempt = n
      ∧ t.inaug.role = .counted
          { head := s.power.record.vehicle, attempt := n, position := 1, headward := h
            timeout := s.cycle.timing.inaugurationTimeout
            stage := if (s.lineEnd h.other).link.usable then .awaitingTally else .awaitingHop
            noted := none }
      ∧ t.inaug.inaugurationTimer = some (s.now + s.cycle.timing.inaugurationTimeout * 1000)
      ∧ t.inaug.hopTimer = (if (s.lineEnd h.other).link.usable then none else some (s.now + 100000))
      ∧ t.inaug.generation = s.inaug.generation
      ∧ (SlotFree s h.other .inauguration → InSlot t h.other .inauguration (CountFrame.frame
          { head := s.power.record.vehicle, attempt := n, next := 2
            timeout := s.cycle.timing.inaugurationTimeout })) := by
  have stage : (s.lineEnd h.other).link.stage = if (s.lineEnd h.other).link.usable then .awaitingTally else .awaitingHop := by
    cases link : (s.lineEnd h.other).link with
    | opened => exact absurd link o
    | up | degraded | joining | down => rfl
  have hops : (if (s.lineEnd h.other).link.stage = .awaitingHop then some (s.now + 100000) else none)
      = if (s.lineEnd h.other).link.usable then none else some (s.now + 100000) := by
    rw [stage]
    cases (s.lineEnd h.other).link.usable <;> rfl
  have record : s.claimRecord h n =
      { head := s.power.record.vehicle, attempt := n, position := 1, headward := h
        timeout := s.cycle.timing.inaugurationTimeout
        stage := if (s.lineEnd h.other).link.usable then .awaitingTally else .awaitingHop
        noted := none } := by
    rw [← stage]
    rfl
  obtain ⟨silence, cause, inaug⟩ := attempts_inaug s h n
  obtain ⟨-, -, -, -, -, -, ends⟩ := attempts_items s h n
  simp only
  rw [attemptFrom_closed o, inaug, ← record]
  refine ⟨rfl, rfl, rfl, rfl, hops, rfl, fun free => inSlot_of_lineEnd (ends _) (place_inSlot _ _ _ _ ?_)⟩
  exact slotFree_of_lineEnd (lineEnd_recount away _ _) free

/-! ## Claim Cab -/

/-- The End a claim chooses (R25). -/
theorem claimHeadward_of_senses {h : EndId} (senses : h = .end1 ∧ s.end1.sense = .opened
    ∨ h = .end2 ∧ s.end1.sense = .closed ∧ s.end2.sense = .opened) : s.claimHeadward = some h := by
  unfold State.claimHeadward
  rcases senses with ⟨rfl, first⟩ | ⟨rfl, first, second⟩
  · rw [first]
  · rw [first, second]

theorem claimHeadward_of_closed (first : s.end1.sense = .closed) (second : s.end2.sense = .closed) :
    s.claimHeadward = none := by
  unfold State.claimHeadward
  rw [first, second]

theorem claimCheck_eq (s : State) : claimCheck s =
    if s.ready && s.power.record.cabFitted then (if s.claiming || s.heading then some .state else none)
    else some .notReady := by
  unfold claimCheck
  cases s.ready && s.power.record.cabFitted <;> cases s.claiming || s.heading <;> rfl

theorem claimCheck_wrote (s : State) (p : PortId) (n : Nat) : claimCheck (s.wrote p n) = claimCheck s := by
  cases p <;> rfl

theorem lineEnd_wrote (s : State) (p : PortId) (n : Nat) (e : EndId) : (s.wrote p n).lineEnd e = s.lineEnd e := by
  obtain ⟨-, -, -, -, ends⟩ := wrote_rest s p n
  exact ends e

theorem claimHeadward_wrote (s : State) (p : PortId) (n : Nat) : (s.wrote p n).claimHeadward = s.claimHeadward :=
  claimHeadward_congr fun d => by rw [lineEnd_wrote]

theorem claimCab_some {h : EndId} (chosen : s.claimHeadward = some h) : s.claimCab = s.attemptFrom h 1 := by
  unfold State.claimCab
  rw [chosen]

theorem claimCab_none (chosen : s.claimHeadward = none) : s.claimCab = s.failClaim .notAtEnd := by
  unfold State.claimCab
  rw [chosen]

/-- Settles O33: the checks of Claim Cab, and the attempt it begins with the End that senses the end of the train. -/
theorem claimCabBeginsAnAttempt : Obligations.ClaimCabBeginsAnAttempt := by
  intro s p h
  obtain ⟨-, cycleW, inaugW, powerW, endsW⟩ := wrote_rest s p opcodeAddress
  have nowW : (s.wrote p opcodeAddress).now = s.now := by cases p <;> rfl
  have checkW := claimCheck_wrote s p opcodeAddress
  have chosenW := claimHeadward_wrote s p opcodeAddress
  refine ⟨fun unready => ?_, fun ready cab => ⟨fun leads => ?_, fun claim head => ⟨fun first second => ?_, fun e senses => ?_⟩⟩⟩
  · refine ⟨_, rfl, command_refused s p _ _ _ _ h .notReady ?_⟩
    rw [checkW, claimCheck_eq, if_neg]
    rcases unready with off | off <;> simp [off]
  · refine ⟨_, rfl, command_refused s p _ _ _ _ h .state ?_⟩
    have held : (s.claiming || s.heading) = true := by simpa using leads
    rw [checkW, claimCheck_eq, ready, cab, held]
    rfl
  · have passes : claimCheck (s.wrote p opcodeAddress) = none := by
      rw [checkW, claimCheck_eq, ready, cab, claim, head]; rfl
    have fails : (s.wrote p opcodeAddress).claimCab = (s.wrote p opcodeAddress).failClaim .notAtEnd :=
      claimCab_none (chosenW.trans (claimHeadward_of_closed first second))
    have trackW : (s.wrote p opcodeAddress).track = s.track := by cases p <;> rfl
    have done := engineDoneAt (act := State.claimCab) [.inauguration, .tracking] h passes (skel_claimCab _)
      (by rw [fails]; simp)
    have runs := command_done s p (some .door) claimCheck State.claimCab (fun _ => 0) h passes
    refine ⟨_, rfl, ?_, ?_, ?_, done⟩
    · refine (congrArg State.inaug runs).trans ?_
      rw [answer_inaug, fails, failClaim_inaug, inaugW]
    · have raised : RaisedAt .claimResult (((s.wrote p opcodeAddress).claimCab).answer p .done none 0) :=
        raisedAt_answer (by rw [fails]; exact failClaim_raised _ _)
      rw [← runs] at raised
      exact raised
    · refine (congrArg State.track runs).trans ?_
      have answered : (((s.wrote p opcodeAddress).claimCab).answer p .done none 0).track
          = ((s.wrote p opcodeAddress).claimCab).track := by cases p <;> rfl
      rw [answered, fails, failClaim_track, trackW]
  · have passes : claimCheck (s.wrote p opcodeAddress) = none := by
      rw [checkW, claimCheck_eq, ready, cab, claim, head]; rfl
    have begins : (s.wrote p opcodeAddress).claimCab = (s.wrote p opcodeAddress).attemptFrom e 1 :=
      claimCab_some (chosenW.trans (claimHeadward_of_senses senses))
    have awayW : (s.wrote p opcodeAddress).heading = false := (heading_of_inaug inaugW).trans head
    obtain ⟨runs, answered, changes⟩ := roleCommand (act := State.claimCab) h passes (skel_claimCab _)
      (by simp [roleBlocks])
    have inaugT := answer_inaug ((s.wrote p opcodeAddress).claimCab) p .done none 0
    obtain ⟨-, -, endsT⟩ := answer_rest ((s.wrote p opcodeAddress).claimCab) p .done none 0
    rw [begins] at inaugT endsT
    refine ⟨_, congrArg Host.Outcome.next runs, answered, changes, fun o => ?_, fun o => ?_⟩
    · obtain ⟨heads, active, -, -, -, -, result, committed⟩ := lone_items (n := 1) (by rw [endsW]; exact o)
      rw [begins, heading_of_inaug inaugT, active_of_inaug inaugT]
      exact ⟨heads, active, raisedAt_answer result, raisedAt_answer committed⟩
    · obtain ⟨claims, attempt, role, timer, hop, generation, counts⟩ :=
        count_items (n := 1) (h := e) (by rw [endsW]; exact o) awayW
      rw [begins, inaugT]
      rw [powerW, cycleW, endsW] at role
      rw [nowW, cycleW] at timer
      rw [nowW, endsW] at hop
      rw [powerW, cycleW] at counts
      exact ⟨claims, attempt, role, timer, hop, by rw [generation, inaugW], fun free =>
        inSlot_of_lineEnd (endsT _) (counts (slotFree_of_lineEnd (endsW _) free))⟩

/-! ## Release Cab -/

theorem releaseCheck_eq (s : State) :
    releaseCheck s = if s.inaug.headRole = .noClaim then some .state else none := by
  unfold releaseCheck
  by_cases none : s.inaug.headRole = .noClaim <;> simp [none, firstReason]

theorem dropClaim_inaug (s : State) : s.dropClaim.inaug = { s.inaug with headRole := .noClaim } := rfl

/-- A member goes UNASSIGNED, a head with it (R65). -/
theorem goUnassigned_role {a : ActiveConsist} (cause : LeaveCause) (ha : s.active = some a) : s.goUnassigned cause =
    ((s.leaveMember a .unassigned cause).modInaug Inauguration.stopTimers).fallBack := by
  unfold State.goUnassigned
  rw [role_of_active ha]

/-- A member's inauguration after it has gone UNASSIGNED, a head's too (R65). -/
theorem inaug_goUnassigned_active {a : ActiveConsist} (cause : LeaveCause) (ha : s.active = some a) :
    (s.goUnassigned cause).inaug = { s.inaug with
      role := .unassigned, silence := none, lastCause := some cause
      inaugurationTimer := none, hopTimer := none, commitWait := none } := by
  rw [goUnassigned_role cause ha, fallBack_inaug, modInaug_inaug, leaveMember_inaug (next := .unassigned) nofun]
  rfl

/-- A head that has gone UNASSIGNED: its parts have stopped, and its own CALL and SETTLE are withdrawn (R65, R67, R117). -/
theorem headGone_items {a : ActiveConsist} (cause : LeaveCause) (ha : s.active = some a) (head : s.heading = true) :
    (s.goUnassigned cause).cycle.state = .none
      ∧ (s.goUnassigned cause).track = { s.track with proved := false, lifetime := none }
      ∧ ∀ d, (s.goUnassigned cause).lineEnd d = (s.lineEnd d).modSlot .cycle (·.withdraw (ownCycleFrame a.identity)) := by
  obtain ⟨track, cycle, -, inaug, ends⟩ := headLeaves_items (a := a) (next := .unassigned) (cause := cause) head nofun
  have none : ((s.leaveMember a .unassigned cause).modInaug Inauguration.stopTimers).active = none := by
    unfold State.active
    rw [modInaug_inaug, inaug]
    rfl
  have still := forget_fallBack_away [.stages] none (by simp)
  rw [goUnassigned_role cause ha]
  refine ⟨?_, ?_, fun d => ?_⟩
  · rw [show (State.fallBack _).cycle = (s.leaveMember a .unassigned cause).cycle from
      sameBlock_of_forget still .cycle (by simp), cycle]
  · exact (show (State.fallBack _).track = (s.leaveMember a .unassigned cause).track from
      sameBlock_of_forget still .tracking (by simp)).trans track
  · exact (show (State.fallBack _).lineEnd d = (s.leaveMember a .unassigned cause).lineEnd d from
      sameBlock_of_forget still (.endOf d) (by simp)).trans (ends d)

/-- A leaving of a member is told, a head's too (R65). -/
theorem raised_goUnassigned_active {a : ActiveConsist} (cause : LeaveCause) (ha : s.active = some a) :
    ∀ u, Gentle (s.goUnassigned cause) u → RaisedAt .consistInvalidated u := by
  intro u gentle
  have left : Gentle ((s.modInaug fun i =>
      { i with role := .unassigned, silence := none, lastCause := some cause }).toldLeaving) (s.goUnassigned cause) := by
    rw [goUnassigned_role cause ha]
    refine Gentle.fallBack (Gentle.modInaug ?_)
    cases head : s.heading with
    | true =>
      rw [leaveMember_head head]
      exact (Gentle.refl _).reportRecount.leaveHeading
    | false =>
      rw [leaveMember_member head]
      exact (Gentle.refl _).reportRecount
  exact Gentle.raised ⟨fun e he => gentle.ends e (left.ends e he), fun q => (left.flags q).trans (gentle.flags q)⟩

/-- A frame in the slot of an inauguration stays there while a head withdraws its own CALL and SETTLE (R67). -/
theorem inSlot_withdrawn {e : EndId} {f : Frame} {q : Frame → Bool}
    (h : t.lineEnd e = (s.lineEnd e).modSlot .cycle (·.withdraw q)) (stands : InSlot s e .inauguration f) :
    InSlot t e .inauguration f := by
  unfold InSlot at stands ⊢
  rw [h]
  exact stands

theorem releaseCab_head {a : ActiveConsist} (ha : s.active = some a) (head : s.heading = true) :
    s.releaseCab = ((s.placeDissolve a.tailward a.identity.generation).goUnassigned .dissolve).dropClaim := by
  unfold State.releaseCab
  rw [role_of_active ha]
  exact if_pos head

theorem releaseCab_claim {x : CountRecord} (hx : s.counted = some x) (claim : s.claiming = true) :
    s.releaseCab = ((s.placeDissolve x.tailward 0).goUnassigned .dissolve).dropClaim := by
  unfold State.releaseCab
  rw [role_of_counted hx]
  exact if_pos claim

/-- A head that releases its claim dissolves its consist (R46). -/
theorem releaseCab_head_items {a : ActiveConsist} (ha : s.active = some a) (head : s.heading = true) :
    s.releaseCab.inaug = { s.inaug with
        role := .unassigned, silence := none, lastCause := some .dissolve, headRole := .noClaim
        inaugurationTimer := none, hopTimer := none, commitWait := none }
      ∧ RaisedAt .consistInvalidated s.releaseCab
      ∧ (SlotFree s a.tailward .inauguration → InSlot s.releaseCab a.tailward .inauguration
          (dissolveFrame { head := s.power.record.vehicle, generation := a.identity.generation })) := by
  have inaug : (s.placeDissolve a.tailward a.identity.generation).inaug = s.inaug := (place_rest _ _ _ _).1
  have active : (s.placeDissolve a.tailward a.identity.generation).active = some a := (active_of_inaug inaug).trans ha
  obtain ⟨-, -, ends⟩ := headGone_items .dissolve active ((heading_of_inaug inaug).trans head)
  rw [releaseCab_head ha head]
  refine ⟨?_, raised_goUnassigned_active _ active _ (Gentle.refl _).dropClaim, fun free => ?_⟩
  · rw [dropClaim_inaug, inaug_goUnassigned_active .dissolve active, inaug]
  · exact inSlot_withdrawn (ends a.tailward) (place_inSlot s _ _ _ free)

/-- A claiming node that releases its claim dissolves its count (R46). -/
theorem releaseCab_claim_items {x : CountRecord} (hx : s.counted = some x) (claim : s.claiming = true) :
    s.releaseCab.inaug = { s.inaug with
        role := .unassigned, lastCause := some .dissolve, headRole := .noClaim
        inaugurationTimer := none, hopTimer := none, commitWait := none }
      ∧ (SlotFree s x.tailward .inauguration → InSlot s.releaseCab x.tailward .inauguration
          (dissolveFrame { head := s.power.record.vehicle, generation := 0 })) := by
  have inaug : (s.placeDissolve x.tailward 0).inaug = s.inaug := (place_rest _ _ _ _).1
  have counted : (s.placeDissolve x.tailward 0).counted = some x := (counted_of_inaug inaug).trans hx
  rw [releaseCab_claim hx claim]
  refine ⟨?_, fun free => ?_⟩
  · rw [dropClaim_inaug, inaug_goUnassigned_counted .dissolve counted, inaug]
  · exact inSlot_of_lineEnd (lineEnd_goUnassigned_counted .dissolve counted x.tailward) (place_inSlot s _ _ _ free)

theorem releaseCab_failed {why : ClaimFailure} (failed : s.inaug.headRole = .claimFailed why) : s.releaseCab = s.dropClaim := by
  have claim : s.claiming = false := by simp [State.claiming, failed]
  have head : s.heading = false := by simp [State.heading, failed]
  unfold State.releaseCab
  rw [claim, head]
  split <;> rfl

/-- Settles O34: the Dissolve of a head and of a claim, and the claim that has failed. -/
theorem releaseCabGivesTheClaimUp : Obligations.ReleaseCabGivesTheClaimUp := by
  intro s p h
  obtain ⟨-, -, inaugW, powerW, -⟩ := wrote_rest s p opcodeAddress
  have endsW := lineEnd_wrote s p opcodeAddress
  have checkW : releaseCheck (s.wrote p opcodeAddress) = if s.inaug.headRole = .noClaim then some .state else none := by
    rw [releaseCheck_eq, inaugW]
  have inaugT := answer_inaug ((s.wrote p opcodeAddress).releaseCab) p .done none 0
  obtain ⟨-, -, endsT⟩ := answer_rest ((s.wrote p opcodeAddress).releaseCab) p .done none 0
  have command (passes : releaseCheck (s.wrote p opcodeAddress) = none) :=
    roleCommand (act := State.releaseCab) h passes (skel_releaseCab _) (by simp [roleBlocks])
  refine ⟨fun none => ?_, fun a head ha => ?_, fun x claim hx => ?_, fun why failed => ?_⟩
  · exact ⟨_, rfl, command_refused s p _ _ _ _ h .state (by rw [checkW, if_pos none])⟩
  · obtain ⟨runs, answered, changes⟩ := command (by rw [checkW, (heading_iff s).1 head]; rfl)
    obtain ⟨inaug, raised, dissolves⟩ :=
      releaseCab_head_items ((active_of_inaug inaugW).trans ha) ((heading_of_inaug inaugW).trans head)
    rw [powerW] at dissolves
    rw [inaug, inaugW] at inaugT
    refine ⟨_, congrArg Host.Outcome.next runs, answered, changes, ?_⟩
    rw [inaugT]
    exact ⟨rfl, rfl, rfl, rfl, raisedAt_answer raised, fun free =>
      inSlot_of_lineEnd (endsT _) (dissolves (slotFree_of_lineEnd (endsW _) free))⟩
  · obtain ⟨runs, answered, changes⟩ := command (by rw [checkW, (claiming_iff s).1 claim]; rfl)
    have claimW : (s.wrote p opcodeAddress).claiming = true := by
      unfold State.claiming at claim ⊢
      rw [inaugW]
      exact claim
    obtain ⟨inaug, dissolves⟩ := releaseCab_claim_items ((counted_of_inaug inaugW).trans hx) claimW
    rw [powerW] at dissolves
    rw [inaug, inaugW] at inaugT
    refine ⟨_, congrArg Host.Outcome.next runs, answered, changes, ?_⟩
    rw [inaugT]
    exact ⟨rfl, rfl, rfl, rfl, rfl, fun free =>
      inSlot_of_lineEnd (endsT _) (dissolves (slotFree_of_lineEnd (endsW _) free))⟩
  · have passes : releaseCheck (s.wrote p opcodeAddress) = none := by rw [checkW, failed]; rfl
    have releases := releaseCab_failed (s := s.wrote p opcodeAddress) (by rw [inaugW]; exact failed)
    have done := engineDoneAt (act := State.releaseCab) [.inauguration, .tracking] h passes (skel_releaseCab _)
      (by rw [releases]; simp)
    obtain ⟨runs, -⟩ := command passes
    have trackT : (((s.wrote p opcodeAddress).releaseCab).answer p .done none 0).track = { s.track with outstanding := none } := by
      rw [releases]
      cases p <;> rfl
    refine ⟨_, rfl, ?_, (congrArg State.track runs).trans trackT, done⟩
    refine (congrArg State.inaug runs).trans ?_
    rw [inaugT, releases, dropClaim_inaug, inaugW]

end Sys2Proof.Machine

/-! PROOF. The Cycle Timeout at the head (R76, R77, R80): O43. -/

namespace Sys2Proof.Machine

variable {s t : State}

/-! ## A node without a proof -/

/-- The train is not proved closed, and no lifetime runs (R116, R117). -/
def State.Unproved (s : State) : Prop := s.track.proved = false ∧ s.track.lifetime = none

theorem State.Unproved.of_track (h : s.Unproved) (same : t.track = s.track) : t.Unproved := by
  unfold State.Unproved
  rw [same]
  exact h

theorem unproved_leaveMember {a : ActiveConsist} {next : NodeRole} {cause : LeaveCause} (h : s.Unproved)
    (away : ∀ b, next ≠ .member b) : (s.leaveMember a next cause).Unproved := by
  cases head : s.heading with
  | true =>
    obtain ⟨track, -⟩ := headLeaves_items (a := a) (cause := cause) head away
    unfold State.Unproved
    rw [track]
    exact ⟨rfl, rfl⟩
  | false =>
    obtain ⟨track, -⟩ := left_items (s := s) (cause := cause) away
    rw [leaveMember_member head]
    exact h.of_track track

theorem unproved_recount (h : s.Unproved) (x : CountRecord) : (s.recount x).Unproved := by
  have tells (u : State) (none : u.active = none) : u.reportRecount.track = u.track :=
    sameBlock_of_forget (forget_reportRecount_away (.messages :: sideBlocks) none (by simp [sideBlocks]) (by simp)
      (by simp [sideBlocks])) .tracking (by simp [sideBlocks])
  cases role : s.inaug.role with
  | unassigned =>
    have counts : s.recount x = (s.modInaug fun i => { i with role := .counted x }).roleChanged.reportRecount := by
      unfold State.recount; rw [role]
    rw [counts]
    exact h.of_track (tells _ rfl)
  | counted y =>
    have counts : s.recount x = (s.modInaug fun i => { i with role := .counted x }).reportRecount := by
      unfold State.recount; rw [role]
    rw [counts]
    exact h.of_track (tells _ rfl)
  | member a =>
    rw [recount_member (active_of_role role)]
    exact unproved_leaveMember h nofun

theorem unproved_goUnassigned (h : s.Unproved) (cause : LeaveCause) : (s.goUnassigned cause).Unproved := by
  cases role : s.inaug.role with
  | unassigned =>
    have stays : s.goUnassigned cause = s := by unfold State.goUnassigned; rw [role]
    rw [stays]
    exact h
  | counted x =>
    exact h.of_track (sameBlock_of_forget (forget_goUnassigned_counted cause (counted_of_role role)) .tracking
      (by simp [countedLeaving]))
  | member a =>
    cases head : s.heading with
    | true =>
      obtain ⟨-, track, -⟩ := headGone_items cause (active_of_role role) head
      unfold State.Unproved
      rw [track]
      exact ⟨rfl, rfl⟩
    | false =>
      exact h.of_track (sameBlock_of_forget (forget_goUnassigned_member cause (active_of_role role) head) .tracking
        (by simp [memberLeaving, countedLeaving]))

theorem unproved_commit (s : State) (x : CountRecord) (length : Nat) (others : List RosterEntry) (truncated : Bool) :
    (s.commit x length others truncated).Unproved := by
  obtain ⟨-, -, -, -, -, -, track, -⟩ := commit_items s x length others truncated
  obtain ⟨-, -, -, claimed⟩ := claimed_items s x length others truncated
  unfold State.Unproved
  rw [track, claimed]
  exact ⟨rfl, rfl⟩

/-- A head that begins again, or an attempt that fails, proves nothing (R40, R49, R117). -/
theorem unproved_reinaugurate (h : s.Unproved) : s.reinaugurate.Unproved := by
  have numbered : (s.modInaug fun i => { i with attempt := 1 }).Unproved := h
  unfold State.reinaugurate State.beginAttempt
  simp only
  split
  · split
    · next e _ =>
      have counts := unproved_recount numbered ((s.modInaug fun i => { i with attempt := 1 }).claimRecord e 1)
      by_cases o : ((s.modInaug fun i => { i with attempt := 1 }).lineEnd e.other).link = .opened
      · rw [attemptFrom_alone o]
        exact unproved_commit _ _ _ _ _
      · obtain ⟨track, -⟩ := attempts_items (s.modInaug fun i => { i with attempt := 1 }) e 1
        rw [attemptFrom_closed o]
        exact counts.of_track track
    · have gone := unproved_goUnassigned numbered .claimEnded
      unfold State.Unproved
      rw [failClaim_track]
      exact gone
  · exact h

/-! ## The Cycle Timeout -/

/-- The head whose CALL has not come back: the proof is gone and the failure is counted (R76, R77). -/
def State.unanswered (s : State) : State := (s.modCycle fun c => { c with cycleTimeout := none }).unprove.countFailure .timeout

theorem unanswered_items (s : State) :
    s.unanswered.cycle = { s.cycle with
        cycleTimeout := none, failures := min 3 (s.cycle.failures + 1), lastFailure := some .timeout }
      ∧ s.unanswered.Unproved
      ∧ s.unanswered.forget [.cycle, .tracking, .portOf .portA, .portOf .portB]
        = s.forget [.cycle, .tracking, .portOf .portA, .portOf .portB] := by
  generalize hx : s.modCycle (fun c => { c with cycleTimeout := none }) = x
  have still : x.unprove.forget [.tracking, .portOf .portA, .portOf .portB]
      = x.forget [.tracking, .portOf .portA, .portOf .portB] := by simp
  obtain ⟨cycle, counted⟩ := countFailure_items x.unprove .timeout
  have unanswered : s.unanswered = x.unprove.countFailure .timeout := by rw [← hx]; rfl
  rw [unanswered]
  refine ⟨?_, ?_, ?_⟩
  · rw [cycle, show x.unprove.cycle = x.cycle from sameBlock_of_forget still .cycle (by simp), ← hx]
    rfl
  · unfold State.Unproved
    rw [show (x.unprove.countFailure .timeout).track = x.unprove.track from
      sameBlock_of_forget counted .tracking (by simp), track_unprove]
    exact ⟨rfl, rfl⟩
  · rw [← hx]
    simp

theorem cycleTimedOut_out (out : s.cycle.state = .callOut) : s.cycleTimedOut =
    if 2 ≤ s.cycle.failures then s.unanswered.reinaugurate
    else s.unanswered.modCycle fun c => { c with state := .idleContinuous } := by
  have failures : (s.modCycle fun c => { c with cycleTimeout := none }).unprove.cycle.failures = s.cycle.failures := by
    have still : (s.modCycle fun c => { c with cycleTimeout := none }).unprove.forget [.tracking, .portOf .portA, .portOf .portB]
      = (s.modCycle fun c => { c with cycleTimeout := none }).forget [.tracking, .portOf .portA, .portOf .portB] := by simp
    rw [show (s.modCycle fun c => { c with cycleTimeout := none }).unprove.cycle = _ from
      sameBlock_of_forget still .cycle (by simp)]
    rfl
  have ends := failureEnds_iff (s.modCycle fun c => { c with cycleTimeout := none }).unprove .timeout
  rw [failures] at ends
  have state : (s.modCycle fun c => { c with cycleTimeout := none }).cycle.state = .callOut := out
  unfold State.cycleTimedOut
  simp only [state]
  by_cases many : 2 ≤ s.cycle.failures
  · rw [if_pos many]
    exact (if_pos trivial).trans (if_pos (ends.2 (.inr many)))
  · rw [if_neg many]
    exact (if_pos trivial).trans (if_neg fun ended => by
      rcases ends.1 ended with other | reached
      · cases other
      · exact many reached)

theorem cycleTimedOut_ends (out : s.cycle.state = .callOut) (many : 2 ≤ s.cycle.failures) :
    s.cycleTimedOut = s.unanswered.reinaugurate := (cycleTimedOut_out out).trans (if_pos many)

theorem cycleTimedOut_stays (out : s.cycle.state = .callOut) (few : ¬2 ≤ s.cycle.failures) :
    s.cycleTimedOut = s.unanswered.modCycle fun c => { c with state := .idleContinuous } :=
  (cycleTimedOut_out out).trans (if_neg few)

theorem exec_cycleTimeoutExpiry {d : Nat} (free : s.power.held = false) (hd : s.cycle.cycleTimeout = some d) :
    exec .cycleTimeoutExpiry s = .next (s.reach d).cycleTimedOut := by
  show Host.Outcome.next (s.live fun s => s.cycleTimeoutExpiry) = _
  rw [live_of_free _ _ free, cycleTimeoutExpiry_eq, hd, expire_some]

theorem lineEnd_unanswered (s : State) (e : EndId) : s.unanswered.lineEnd e = s.lineEnd e :=
  sameBlock_of_forget (unanswered_items s).2.2 (.endOf e) (by simp)

theorem unanswered_inaug (s : State) : s.unanswered.inaug = s.inaug :=
  sameBlock_of_forget (unanswered_items s).2.2 .inauguration (by simp)

/-- A head that waits again is due for its next CALL by the pace of its period (R77, R80). -/
theorem callDue_unanswered (a : ActiveConsist) (head : s.heading = true) :
    (s.unanswered.modCycle fun c => { c with state := .idleContinuous }).callDue a
      = (s.cycle.periodTimer.isNone && !s.settleWaits a) := by
  have heads : (s.unanswered.modCycle fun c => { c with state := .idleContinuous }).heading = true :=
    (heading_of_inaug (t := s.unanswered.modCycle _) (unanswered_inaug s)).trans head
  have waits : (s.unanswered.modCycle fun c => { c with state := .idleContinuous }).settleWaits a = s.settleWaits a := by
    unfold State.settleWaits
    rw [lineEnd_modCycle, lineEnd_unanswered]
  unfold State.callDue
  rw [heads, waits, modCycle_cycle, (unanswered_items s).1]
  rfl

/-- A head that begins again toward an End that is not OPEN counts the train (R26, R49). -/
theorem reinaugurate_inaug {h : EndId} (head : s.heading = true) (chosen : s.claimHeadward = some h)
    (o : (s.lineEnd h.other).link ≠ .opened) :
    s.reinaugurate.updateInProgress = true ∧ s.reinaugurate.inaug.generation = s.inaug.generation := by
  rw [reinaugurate_head head]
  unfold State.beginAttempt
  generalize hx : s.modInaug (fun i => { i with attempt := 1 }) = x
  have chosenX : x.claimHeadward = some h := by rw [← hx]; exact chosen
  have generation : x.inaug.generation = s.inaug.generation := by rw [← hx]; rfl
  have apart : (x.lineEnd h.other).link ≠ .opened := by rw [← hx, lineEnd_modInaug]; exact o
  obtain ⟨silence, cause, inaug⟩ := attempts_inaug x h 1
  simp only [chosenX]
  rw [attemptFrom_closed apart]
  unfold State.updateInProgress State.counted
  rw [inaug]
  exact ⟨rfl, generation⟩

/-- Settles O43: the timeout counts a failure; the third one in a row ends the consist. -/
theorem aCycleTimeoutFailsTheCycle : Obligations.ACycleTimeoutFailsTheCycle := by
  refine ⟨fun s d free hd out => ?_, fun s d a h free hd out many head ha chosen o => ?_, fun length short => ?_,
    fun x range => ?_⟩
  · refine ⟨_, exec_cycleTimeoutExpiry free hd, ?_⟩
    have raises : OnlyRaises s (s.reach d).cycleTimedOut := fun p => by
      have flags := onlyRaises_of_skeleton (skel_cycleTimedOut (s.reach d)) p
      cases p <;> exact flags
    have now : (s.reach d).cycleTimedOut.now = max s.now d := skeleton_now (skel_cycleTimedOut (s.reach d))
    have counts : Gentle ((((s.reach d).modCycle fun c => { c with cycleTimeout := none }).unprove.modCycle fun k =>
        { k with failures := min 3 (k.failures + 1), lastFailure := some .timeout }).raise .cycleFailure)
        (s.reach d).unanswered := .refl _
    obtain ⟨cycle, unproved, still⟩ := unanswered_items (s.reach d)
    by_cases many : 2 ≤ s.cycle.failures
    · have runs := cycleTimedOut_ends (s := s.reach d) out many
      obtain ⟨proved, lifetime⟩ := unproved_reinaugurate unproved
      rw [runs] at now raises ⊢
      exact ⟨now, proved, lifetime, counts.reinaugurate.raised, fun few => by omega⟩
    · have runs := cycleTimedOut_stays (s := s.reach d) out many
      rw [runs] at now raises ⊢
      refine ⟨now, unproved.1, unproved.2, counts.modCycle.raised, fun few => ?_⟩
      rw [modCycle_cycle, cycle]
      have counted : min 3 (s.cycle.failures + 1) = s.cycle.failures + 1 := by omega
      refine ⟨counted, rfl, rfl, rfl, rfl, raises, fun a _ head => callDue_unanswered a head, ?_⟩
      rw [onlyChanges_iff_forget, forget_modCycle _ _ _ (by simp), forget_mono still (by simp)]
      simp
  · refine ⟨_, exec_cycleTimeoutExpiry free hd, ?_⟩
    rw [cycleTimedOut_ends (s := s.reach d) out many]
    obtain ⟨cycle, -, still⟩ := unanswered_items (s.reach d)
    have inaug := unanswered_inaug (s.reach d)
    have ends (e : EndId) : (s.reach d).unanswered.lineEnd e = s.lineEnd e :=
      (lineEnd_unanswered _ e).trans (by simp)
    have chosenU : (s.reach d).unanswered.claimHeadward = some h :=
      (claimHeadward_congr (s := s) fun e => by rw [ends]).trans chosen
    obtain ⟨claiming, attempt, cause, state, failures, last, -⟩ := reinaugurate_attempts
      ((active_of_inaug inaug).trans ha) ((heading_of_inaug inaug).trans head) chosenU (by rw [ends]; exact o)
    refine ⟨claiming, attempt, ?_, state, ?_, ?_, ?_⟩
    · exact (reinaugurate_inaug ((heading_of_inaug inaug).trans head) chosenU (by rw [ends]; exact o)).1
    · rw [failures, cycle]; rfl
    · rw [last, cycle]
    · rw [onlyChanges_iff_forget, forget_reinaugurate _ _ (by simp [roleBlocks]) (by simp [roleBlocks])
        (by simp [roleBlocks]) (by simp [roleBlocks]) (by simp [roleBlocks]) (by simp [roleBlocks]) (by simp [roleBlocks])
        (by simp [roleBlocks]) (by simp [roleBlocks]), forget_mono still (by simp [roleBlocks])]
      simp
  · unfold cycleTimeoutMs
    omega
  · unfold LineTiming.inRange at range
    rw [decide_eq_true_eq] at range
    exact range.1

end Sys2Proof.Machine

/-! PROOF. A consist that ends at a node, and the reports at a member and at a head (R20, R21, R45, R48, R49, R63, R64):
O40. -/

namespace Sys2Proof.Machine

variable {s t : State}

/-! ## What a recount and a leaving of MEMBER tell -/

/-- The Door Unit and the Message Unit have been told: no side is RELEASED and no message in flight (R29, R95, R163). -/
def State.Told (s : State) : Prop := s.msg.inFlight = [] ∧ ∀ i, s.sideState i ≠ .released

theorem State.Told.of_blocks (h : s.Told) (msg : t.msg = s.msg) (sides : ∀ i, t.sideState i = s.sideState i) : t.Told := by
  obtain ⟨flight, released⟩ := h
  exact ⟨by rw [msg]; exact flight, fun i => by rw [sides]; exact released i⟩

theorem sideState_of_door (h : t.door = s.door) (i : SideId) : t.sideState i = s.sideState i := by
  unfold State.sideState
  rw [h]

theorem told_of_reportRecount (none : s.active = none) : s.reportRecount.Told := by
  refine ⟨rfl, fun i => ?_⟩
  have door : s.reportRecount.door = s.doorReport.door :=
    sameBlock_of_forget (L := [.messages]) (by simp [State.reportRecount]) .door (by simp)
  rw [sideState_of_door door]
  exact sideState_doorReport none i

theorem sideState_leaveHeading (s : State) (x : Identity) (i : SideId) : (s.leaveHeading x).sideState i = s.sideState i := by
  have still : (((s.modCycle Cycle.stop).withdrawOwn x .end1).withdrawOwn x .end2).forget [.cycle, .endOf .end1, .endOf .end2]
      = s.forget [.cycle, .endOf .end1, .endOf .end2] := by simp
  have door : (((s.modCycle Cycle.stop).withdrawOwn x .end1).withdrawOwn x .end2).door = s.door :=
    sameBlock_of_forget still .door (by simp)
  unfold State.leaveHeading State.grantLeavesHeading State.doorLeavesHeading State.sideState
  rw [modGrants_door, unprove_door, modDoor_door, door]
  cases i <;> rfl

theorem told_of_leaveMember {a : ActiveConsist} {next : NodeRole} {cause : LeaveCause} (away : ∀ b, next ≠ .member b) :
    (s.leaveMember a next cause).Told := by
  have none : ((s.modInaug fun i => { i with role := next, silence := none, lastCause := some cause }).toldLeaving).active
      = none := by
    rw [active_of_inaug (toldLeaving_inaug _)]
    exact active_none_of_role away
  have left : (s.left next cause).Told := told_of_reportRecount none
  cases head : s.heading with
  | true =>
    rw [leaveMember_head head]
    refine left.of_blocks ?_ (sideState_leaveHeading _ _)
    exact sameBlock_of_forget (L := [.cycle, .door, .tracking, .grants, .endOf .end1, .endOf .end2, .portOf .portA
      , .portOf .portB]) (by simp) .messages (by simp)
  | false =>
    rw [leaveMember_member head]
    exact left

theorem told_goUnassigned_active {a : ActiveConsist} (cause : LeaveCause) (ha : s.active = some a) :
    (s.goUnassigned cause).Told := by
  have told : (s.leaveMember a .unassigned cause).Told := told_of_leaveMember (next := .unassigned) nofun
  have still : (State.fallBack ((s.leaveMember a .unassigned cause).modInaug Inauguration.stopTimers)).forget
      [.stages, .cycle, .endOf .end1, .endOf .end2, .inauguration]
        = (s.leaveMember a .unassigned cause).forget [.stages, .cycle, .endOf .end1, .endOf .end2, .inauguration] := by simp
  rw [goUnassigned_role cause ha]
  exact told.of_blocks (sameBlock_of_forget still .messages (by simp))
    (sideState_of_door (sameBlock_of_forget still .door (by simp)))

/-- A leaving for a count is told (R29, R65). -/
theorem raised_leaveMember {a : ActiveConsist} {next : NodeRole} {cause : LeaveCause} :
    ∀ u, Gentle (s.leaveMember a next cause) u → RaisedAt .consistInvalidated u := by
  intro u gentle
  have left : Gentle (((s.modInaug fun i => { i with role := next, silence := none, lastCause := some cause }).roleChanged).raise
      .consistInvalidated) (s.leaveMember a next cause) := by
    cases head : s.heading with
    | true =>
      rw [leaveMember_head head]
      exact (Gentle.refl _).reportRecount.leaveHeading
    | false =>
      rw [leaveMember_member head]
      exact (Gentle.refl _).reportRecount
  exact Gentle.raised ⟨fun e he => gentle.ends e (left.ends e he), fun q => (left.flags q).trans (gentle.flags q)⟩

/-! ## The timers -/

theorem exec_commitWaitExpiry {d : Nat} (free : s.power.held = false) (hd : s.inaug.commitWait = some d) :
    exec .commitWaitExpiry s =
      .next (((s.reach d).modInaug fun i => { i with commitWait := none }).goUnassigned .commitWaitExpiry) := by
  show Host.Outcome.next (s.live fun s => s.commitWaitExpiry) = _
  rw [live_of_free _ _ free]
  unfold State.commitWaitExpiry
  rw [hd, expire_some]

theorem exec_silenceExpiry {a : ActiveConsist} {d : Nat} (free : s.power.held = false) (hd : s.inaug.silence = some d)
    (ha : s.active = some a) : exec .silenceExpiry s =
      .next (((s.reach d).modInaug fun i => { i with silence := none }).leaveWithAlert a.headward .silenceExpiry) := by
  have active : ((s.reach d).modInaug fun i => { i with silence := none }).active = some a := ha
  show Host.Outcome.next (s.live fun s => s.silenceExpiry) = _
  rw [live_of_free _ _ free, silenceExpiry_eq, hd, expire_some]
  unfold State.silenceExpired
  simp only [active]

/-- A COUNTED node whose COMMIT does not come leaves without an alert (R45). -/
theorem commitWait_items {r : CountRecord} {d : Nat} (hr : s.counted = some r) :
    let t := ((s.reach d).modInaug fun i => { i with commitWait := none }).goUnassigned .commitWaitExpiry
    t.now = max s.now d
      ∧ t.inaug = { s.inaug with
          role := .unassigned, inaugurationTimer := none, hopTimer := none, commitWait := none
          lastCause := some .commitWaitExpiry }
      ∧ RaisedAt .consistInvalidated t
      ∧ OnlyChanges [.clock, .inauguration, .cycle, .grants, .stages, .portOf .portA, .portOf .portB] s t := by
  have counted : ((s.reach d).modInaug fun i => { i with commitWait := none }).counted = some r := hr
  refine ⟨skeleton_now (skel_goUnassigned _ _), ?_, raised_goUnassigned_counted _ counted _ (.refl _), ?_⟩
  · rw [inaug_goUnassigned_counted _ counted]
    rfl
  · rw [onlyChanges_iff_forget, forget_mono (forget_goUnassigned_counted .commitWaitExpiry counted) (by simp [countedLeaving])]
    simp

/-- A member that hears nothing of its head leaves, and alerts it (R63, R65, R95, R136). -/
theorem silence_items {a : ActiveConsist} {d : Nat} (ha : s.active = some a) :
    let t := ((s.reach d).modInaug fun i => { i with silence := none }).leaveWithAlert a.headward .silenceExpiry
    t.now = max s.now d ∧ t.inaug.role = .unassigned ∧ t.inaug.lastCause = some .silenceExpiry
      ∧ t.inaug.silence = none ∧ RaisedAt .consistInvalidated t ∧ (∀ i, t.sideState i ≠ .released)
      ∧ t.stage.fallback = true ∧ OnlyChanges (.clock :: roleBlocks) s t
      ∧ (s.heading = false → SlotFree s a.headward .wake → s.usable a.headward = true →
          (s.lineEnd a.headward).throughQueue = [] →
          InSlot t a.headward .wake { kind := .wake, payload := [2] }) := by
  generalize hx : (s.reach d).modInaug (fun i => { i with silence := none }) = x
  have active : x.active = some a := by rw [← hx]; exact ha
  have heading : x.heading = s.heading := by rw [← hx]; rfl
  have now : x.now = max s.now d := by rw [← hx]; rfl
  have ends (e : EndId) : x.lineEnd e = s.lineEnd e := by rw [← hx, lineEnd_modInaug, lineEnd_reach]
  have still : x.forget [.clock, .inauguration] = s.forget [.clock, .inauguration] := by rw [← hx]; simp
  obtain ⟨door, stage⟩ := topologyAlert_rest (x.goUnassigned .silenceExpiry) a.headward
  obtain ⟨-, released⟩ := told_goUnassigned_active .silenceExpiry active
  simp only
  unfold State.leaveWithAlert
  rw [topologyAlert_inaug, inaug_goUnassigned_active _ active, stage]
  refine ⟨?_, rfl, rfl, rfl, raised_goUnassigned_active _ active _ (Gentle.refl _).topologyAlert, fun i => ?_, ?_, ?_,
    fun head free usable queue => ?_⟩
  · rw [skeleton_now (skel_topologyAlert _ _), skeleton_now (skel_goUnassigned _ _), now]
  · rw [sideState_of_door door]
    exact released i
  · exact fallback_goUnassigned _ (by rw [role_of_active active]; nofun)
  · rw [onlyChanges_iff_forget]
    refine Eq.trans ?_ (forget_mono still (by simp [roleBlocks]))
    simp [roleBlocks]
  · have gone (e : EndId) : (x.goUnassigned .silenceExpiry).lineEnd e = s.lineEnd e :=
      (lineEnd_goUnassigned_member _ active (heading.trans head) e).trans (ends e)
    refine inSlot_topologyAlert ?_ ?_ (slotFree_of_lineEnd (gone _) free)
    · unfold State.usable
      rw [gone]
      exact usable
    · rw [gone]
      exact queue

/-! ## Reports at a member -/

theorem reportEnd_same {e : EndId} {old : LinkState} (h : (s.lineEnd e).link = old) : s.reportEnd e old = s := by
  unfold State.reportEnd
  exact if_pos h

theorem reportEnd_change {e : EndId} {old : LinkState} (h : (s.lineEnd e).link ≠ old) : s.reportEnd e old =
    (s.discardOffer e).reportInauguration { place := e, old := old, new := (s.lineEnd e).link } := by
  unfold State.reportEnd
  exact if_neg h

theorem forget_discardOffer_messages (s : State) (e : EndId) : (s.discardOffer e).forget [.messages] = s.forget [.messages] := by
  simp

/-- An End that is not usable is not OPEN alone, nor any other state that was usable. -/
theorem changed_of_lost {e : EndId} {old : LinkState} (was : old.usable = true) (now : s.usable e = false) :
    (s.lineEnd e).link ≠ old := by
  intro same
  unfold State.usable at now
  rw [same, was] at now
  cases now

theorem lost_of_usable {e : EndId} {old : LinkState} (was : old.usable = true) (now : s.usable e = false) :
    ({ place := e, old := old, new := (s.lineEnd e).link } : EndChange).lost = true := by
  unfold State.usable at now
  unfold EndChange.lost
  rw [was, now]
  rfl

/-- A member that loses its head-ward End leaves (R20, R64). -/
theorem member_loses_headward {a : ActiveConsist} {old : LinkState} (ha : s.active = some a) (head : s.heading = false)
    (was : old.usable = true) (now : s.usable a.headward = false) :
    s.reportEnd a.headward old = (s.discardOffer a.headward).goUnassigned .headWardLoss := by
  have inaug := discardOffer_inaug s a.headward
  rw [reportEnd_change (changed_of_lost was now), reportInauguration_member ((active_of_inaug inaug).trans ha)
    ((heading_of_inaug inaug).trans head)]
  unfold State.reportMember
  rw [lost_of_usable was now]
  exact (if_pos rfl).trans (if_pos rfl)

theorem matters_iff (c : EndChange) : c.matters = true ↔
    c.old.usable ≠ c.new.usable ∨ c.old ≠ .opened ∧ c.new = .opened := by
  unfold EndChange.matters EndChange.gained EndChange.lost EndChange.opened
  cases c.old.usable <;> cases c.new.usable <;> simp

/-- A member over a change of its tail-ward End (R20, R21). -/
theorem member_tailward {a : ActiveConsist} {old : LinkState} (ha : s.active = some a) (head : s.heading = false)
    (changes : (s.lineEnd a.headward.other).link ≠ old) : s.reportEnd a.headward.other old =
      if ({ place := a.headward.other, old := old, new := (s.lineEnd a.headward.other).link } : EndChange).matters then
        (s.discardOffer a.headward.other).topologyAlert a.headward else s.discardOffer a.headward.other := by
  have inaug := discardOffer_inaug s a.headward.other
  rw [reportEnd_change changes, reportInauguration_member ((active_of_inaug inaug).trans ha)
    ((heading_of_inaug inaug).trans head)]
  exact if_neg (end_other_ne a.headward)

/-- The alert of a member goes out on a usable head-ward End, and nowhere else (R21). -/
theorem topologyAlert_none {e : EndId} (h : s.usable e = false) : s.topologyAlert e = s := by
  unfold State.topologyAlert
  rw [h]
  rfl

/-! ## Reports at a head -/

theorem head_displaced {a : ActiveConsist} {old : LinkState} (ha : s.active = some a) (head : s.heading = true)
    (was : old = .opened) (now : (s.lineEnd a.headward).link ≠ .opened) :
    s.reportEnd a.headward old = (s.discardOffer a.headward).displace a := by
  have inaug := discardOffer_inaug s a.headward
  rw [reportEnd_change (by rw [was]; exact now), reportInauguration_head ((active_of_inaug inaug).trans ha)
    ((heading_of_inaug inaug).trans head)]
  refine (if_pos rfl).trans (if_pos ?_)
  unfold EndChange.leftOpen
  exact decide_eq_true ⟨was, now⟩

/-- What a displaced head is left with (R48, R65, R67, R115, R117). -/
theorem displace_items {a : ActiveConsist} (ha : s.active = some a) (head : s.heading = true) :
    let t := s.displace a
    t.inaug.role = .unassigned ∧ t.inaug.headRole = .claimFailed .displaced ∧ t.inaug.lastCause = some .dissolve
      ∧ t.cycle.state = .none ∧ t.track.outstanding = none ∧ t.track.proved = false
      ∧ RaisedAt .claimResult t ∧ RaisedAt .consistInvalidated t
      ∧ (SlotFree s a.headward.other .inauguration → InSlot t a.headward.other .inauguration
          (dissolveFrame { head := s.power.record.vehicle, generation := a.identity.generation })) := by
  have inaug : (s.placeDissolve a.tailward a.identity.generation).inaug = s.inaug := (place_rest _ _ _ _).1
  have active : (s.placeDissolve a.tailward a.identity.generation).active = some a := (active_of_inaug inaug).trans ha
  obtain ⟨state, track, ends⟩ := headGone_items .dissolve active ((heading_of_inaug inaug).trans head)
  have fails (u : State) : (u.failClaim .displaced).cycle = u.cycle :=
    sameBlock_of_forget (L := [.inauguration, .tracking, .portOf .portA, .portOf .portB]) (by simp) .cycle (by simp)
  simp only
  unfold State.displace
  rw [failClaim_inaug, failClaim_track, fails, inaug_goUnassigned_active _ active, track]
  refine ⟨rfl, rfl, rfl, state, rfl, rfl, failClaim_raised _ _,
    raised_goUnassigned_active _ active _ (Gentle.refl _).failClaim, fun free => ?_⟩
  refine inSlot_of_lineEnd (failClaim_lineEnd _ _ _) (inSlot_withdrawn (ends _) (place_inSlot s _ _ _ free))

theorem head_tailward {a : ActiveConsist} {old : LinkState} (ha : s.active = some a) (head : s.heading = true)
    (changes : old.usable ≠ (s.lineEnd a.headward.other).link.usable) :
    s.reportEnd a.headward.other old = (s.discardOffer a.headward.other).reinaugurate := by
  have inaug := discardOffer_inaug s a.headward.other
  have differs : (s.lineEnd a.headward.other).link ≠ old := fun same => changes (by rw [same])
  rw [reportEnd_change differs, reportInauguration_head ((active_of_inaug inaug).trans ha)
    ((heading_of_inaug inaug).trans head)]
  refine (if_neg (end_other_ne a.headward)).trans (if_pos ?_)
  unfold EndChange.gained EndChange.lost
  revert changes
  cases old.usable <;> cases (s.lineEnd a.headward.other).link.usable <;> simp

theorem head_tailward_quiet {a : ActiveConsist} {old : LinkState} (ha : s.active = some a) (head : s.heading = true)
    (same : old.usable = (s.lineEnd a.headward.other).link.usable) :
    OnlyChanges [.messages] s (s.reportEnd a.headward.other old) := by
  rw [onlyChanges_iff_forget]
  by_cases stays : (s.lineEnd a.headward.other).link = old
  · rw [reportEnd_same stays]
  · have inaug := discardOffer_inaug s a.headward.other
    rw [reportEnd_change stays, reportInauguration_head ((active_of_inaug inaug).trans ha)
      ((heading_of_inaug inaug).trans head)]
    have quiet : ((s.discardOffer a.headward.other).reportHeading a
        { place := a.headward.other, old := old, new := (s.lineEnd a.headward.other).link }) = s.discardOffer a.headward.other := by
      refine (if_neg (end_other_ne a.headward)).trans (if_neg ?_)
      unfold EndChange.gained EndChange.lost
      rw [same]
      cases (s.lineEnd a.headward.other).link.usable <;> simp
    rw [quiet]
    exact forget_discardOffer_messages _ _

/-- A head that begins again tells of the consist it has left (R65). -/
theorem raised_reinaugurate {a : ActiveConsist} {h : EndId} (ha : s.active = some a) (head : s.heading = true)
    (chosen : s.claimHeadward = some h) (o : (s.lineEnd h.other).link ≠ .opened) :
    RaisedAt .consistInvalidated s.reinaugurate := by
  rw [reinaugurate_head head]
  unfold State.beginAttempt
  generalize hx : s.modInaug (fun i => { i with attempt := 1 }) = x
  have active : x.active = some a := by rw [← hx]; exact ha
  have chosenX : x.claimHeadward = some h := by rw [← hx]; exact chosen
  have apart : (x.lineEnd h.other).link ≠ .opened := by rw [← hx, lineEnd_modInaug]; exact o
  simp only [chosenX]
  rw [attemptFrom_closed apart]
  unfold State.attempts
  simp only
  rw [recount_member active]
  exact raised_leaveMember _ (Gentle.refl _).modInaug.place.startHop.modInaug

/-- Settles O40: the timers that end a consist, and the reports of the Ends at a member and at a head. -/
theorem commitWaitAndSilenceEndInUnassigned : Obligations.CommitWaitAndSilenceEndInUnassigned := by
  refine ⟨fun s d free => ⟨fun r hd hr => ⟨_, exec_commitWaitExpiry free hd, commitWait_items hr⟩,
    fun a hd ha => ⟨_, exec_silenceExpiry free hd ha, silence_items ha⟩⟩,
    fun s a old ha head => ⟨fun was now => ?_, ?_⟩, fun s a old ha head => ⟨fun was now => ?_, ?_⟩⟩
  · have inaug := discardOffer_inaug s a.headward
    have active := (active_of_inaug inaug).trans ha
    have heading := (heading_of_inaug inaug).trans head
    obtain ⟨flight, released⟩ := told_goUnassigned_active .headWardLoss active
    simp only
    rw [member_loses_headward ha head was now]
    refine ⟨?_, raised_goUnassigned_member _ active heading _ (.refl _), released,
      fallback_goUnassigned _ (by rw [role_of_active active]; nofun), flight, ?_⟩
    · rw [inaug_goUnassigned_member _ active heading, inaug]
    · rw [onlyChanges_iff_forget, forget_mono (forget_goUnassigned_member .headWardLoss active heading)
        (by simp [memberLeaving, countedLeaving])]
      simp
  · have discards := forget_discardOffer_messages s a.headward.other
    have ends := lineEnd_discardOffer s a.headward.other
    have matters := matters_iff { place := a.headward.other, old := old, new := (s.lineEnd a.headward.other).link }
    by_cases stays : (s.lineEnd a.headward.other).link = old
    · simp only
      rw [reportEnd_same stays, stays]
      refine ⟨(onlyChanges_iff_forget _ _ _).2 rfl, fun changed => ?_, fun _ => (onlyChanges_iff_forget _ _ _).2 rfl⟩
      rcases changed with other | ⟨closed, opened⟩
      · exact absurd rfl other
      · exact absurd opened closed
    · simp only
      rw [member_tailward ha head stays]
      refine ⟨?_, fun changed usable free queue => ?_, fun quiet => ?_⟩
      · rw [onlyChanges_iff_forget]
        split
        · rw [State.topologyAlert]
          split
          · rw [forget_produceWake _ _ _ _ (by simp)]
            exact forget_mono discards (by simp)
          · exact forget_mono discards (by simp)
        · exact forget_mono discards (by simp)
      · rw [if_pos (matters.2 changed)]
        refine inSlot_topologyAlert ?_ ?_ (slotFree_of_lineEnd (ends _) free)
        · unfold State.usable
          rw [ends]
          exact usable
        · rw [ends]
          exact queue
      · rw [onlyChanges_iff_forget]
        rcases quiet with unchanged | unusable
        · rw [if_neg (mt matters.1 unchanged)]
          exact discards
        · rw [topologyAlert_none (by unfold State.usable; rw [ends]; exact unusable), ite_self]
          exact discards
  · have inaug := discardOffer_inaug s a.headward
    have power : (s.discardOffer a.headward).power = s.power :=
      sameBlock_of_forget (forget_discardOffer_messages s a.headward) .power (by simp)
    obtain ⟨role, headRole, cause, state, order, proved, result, invalid, dissolves⟩ :=
      displace_items ((active_of_inaug inaug).trans ha) ((heading_of_inaug inaug).trans head)
    rw [power] at dissolves
    simp only
    rw [head_displaced ha head was now]
    refine ⟨role, headRole, cause, state, order, proved, result, invalid, ?_, fun free =>
      dissolves (slotFree_of_lineEnd (lineEnd_discardOffer _ _ _) free)⟩
    rw [onlyChanges_iff_forget]
    simp [State.displace, roleBlocks]
  · refine ⟨fun changes chosen apart => ?_, fun same => head_tailward_quiet ha head same⟩
    have inaug := discardOffer_inaug s a.headward.other
    have discards := forget_discardOffer_messages s a.headward.other
    have ends := lineEnd_discardOffer s a.headward.other
    have active := (active_of_inaug inaug).trans ha
    have heading := (heading_of_inaug inaug).trans head
    have chosenD : (s.discardOffer a.headward.other).claimHeadward = some a.headward :=
      (claimHeadward_congr fun d => by rw [ends]).trans chosen
    have closed : ((s.discardOffer a.headward.other).lineEnd a.headward.other).link ≠ .opened := by rw [ends]; exact apart
    obtain ⟨claiming, attempt, cause, state, -, -, -, order, -⟩ := reinaugurate_attempts active heading chosenD closed
    obtain ⟨-, generation⟩ := reinaugurate_inaug heading chosenD closed
    obtain ⟨proved, -⟩ := reinaugurate_stops active heading
    rw [head_tailward ha head changes]
    refine ⟨claiming, attempt, by rw [generation, inaug], cause, state, proved, ?_,
      raised_reinaugurate active heading chosenD closed, ?_⟩
    · rw [order, show (s.discardOffer a.headward.other).track = s.track from
        sameBlock_of_forget discards .tracking (by simp)]
    · rw [onlyChanges_iff_forget]
      simp [roleBlocks]

end Sys2Proof.Machine

/-! SUPPORT. The timers of a count and of a claim (R26, R27, R31, R32, R41). -/

namespace Sys2Proof.Machine

variable {s t : State}

/-! ## What a node sends of itself -/

/-- A node's Roster Entry is read from its power state (R33). -/
theorem rosterEntry_of_power (h : t.power = s.power) (n : Nat) (e : EndId) : t.rosterEntry n e = s.rosterEntry n e := by
  unfold State.rosterEntry State.loading State.ready
  rw [h]

/-- The tail of a count answers on its head-ward End (R31, R32). -/
theorem tailTally_items (s : State) (r : CountRecord) (flag : TallyFlag) :
    let t := s.tailTally r flag
    t.inaug = { s.inaug with
        role := .counted { r with stage := .tallySent, noted := some r.position }, hopTimer := none }
      ∧ (SlotFree s r.headward .inauguration → InSlot t r.headward .inauguration
          (tallyFrame r.head r.attempt r.position flag.byte (s.rosterEntry r.position r.headward).bytes))
      ∧ t.forget [.inauguration, .endOf r.headward] = s.forget [.inauguration, .endOf r.headward] := by
  unfold State.tailTally State.setRecord
  refine ⟨?_, fun free => ?_, ?_⟩
  · rw [modInaug_inaug, modInaug_inaug, (place_rest _ _ _ _).1]
  · exact inSlot_of_lineEnd (by rw [lineEnd_modInaug, lineEnd_modInaug]) (place_inSlot _ _ _ _ free)
  · simp

/-- What a lone head has of its commit (R27, R40). -/
theorem loneHead_items (s : State) (r : CountRecord) (truncated : Bool) :
    let t := s.loneHead r truncated
    t.heading = true ∧ t.inaug.truncated = truncated ∧ t.inaug.inaugurationTimer = none
      ∧ t.inaug.generation = nextWrap 65535 s.inaug.generation ∧ t.active.map (·.length) = some 1
      ∧ RaisedAt .claimResult t := by
  obtain ⟨inaug, -, result, -⟩ := commit_items s r 1 [] truncated
  obtain ⟨claimed, -⟩ := claimed_items s r 1 [] truncated
  rw [claimed] at inaug
  simp only
  unfold State.loneHead State.heading State.active
  rw [inaug]
  exact ⟨decide_eq_true rfl, rfl, rfl, rfl, rfl, result⟩

/-! ## The Hop Timer -/

theorem exec_hopTimerExpiry {d : Nat} (free : s.power.held = false) (hd : s.inaug.hopTimer = some d) :
    exec .hopTimerExpiry s = .next (s.reach d).hopExpired := by
  show Host.Outcome.next (s.live fun s => s.hopExpiry) = _
  rw [live_of_free _ _ free, hopExpiry_eq, hd, expire_some]

theorem hopExpired_counted {r : CountRecord} (hr : s.counted = some r) (claim : s.claiming = false) :
    s.hopExpired = (s.modInaug fun i => { i with hopTimer := none }).tailTally r .truncated := by
  have counted : (s.modInaug fun i => { i with hopTimer := none }).counted = some r := hr
  unfold State.hopExpired
  simp only [counted]
  exact if_neg (by rw [show (s.modInaug fun i => { i with hopTimer := none }).claiming = s.claiming from rfl, claim]; decide)

theorem hopExpired_claiming {r : CountRecord} (hr : s.counted = some r) (claim : s.claiming = true) :
    s.hopExpired = (s.modInaug fun i => { i with hopTimer := none }).loneHead r true := by
  have counted : (s.modInaug fun i => { i with hopTimer := none }).counted = some r := hr
  unfold State.hopExpired
  simp only [counted]
  exact if_pos claim

theorem hopTimer_counted {r : CountRecord} {d : Nat} (hr : s.counted = some r) (claim : s.claiming = false) :
    let t := (s.reach d).hopExpired
    t.inaug = { s.inaug with
        role := .counted { r with stage := .tallySent, noted := some r.position }, hopTimer := none }
      ∧ (SlotFree s r.headward .inauguration → InSlot t r.headward .inauguration
          (tallyFrame r.head r.attempt r.position 1 (s.rosterEntry r.position r.headward).bytes))
      ∧ OnlyChanges [.clock, .inauguration, .endOf r.headward] s t := by
  obtain ⟨inaug, answers, still⟩ :=
    tailTally_items ((s.reach d).modInaug fun i => { i with hopTimer := none }) r .truncated
  simp only
  rw [hopExpired_counted (s := s.reach d) hr claim]
  refine ⟨inaug, fun free => answers (slotFree_of_lineEnd ?_ free), ?_⟩
  · rw [lineEnd_modInaug, lineEnd_reach]
  · rw [onlyChanges_iff_forget, forget_mono still (by simp)]
    simp

theorem hopTimer_claiming {r : CountRecord} {d : Nat} (hr : s.counted = some r) (claim : s.claiming = true) :
    let t := (s.reach d).hopExpired
    t.heading = true ∧ t.inaug.truncated = true ∧ t.inaug.inaugurationTimer = none
      ∧ t.inaug.generation = nextWrap 65535 s.inaug.generation
      ∧ t.active.map (·.length) = some 1 ∧ RaisedAt .claimResult t
      ∧ OnlyChanges (.clock :: roleBlocks) s t := by
  obtain ⟨heads, truncated, timer, generation, length, result⟩ :=
    loneHead_items ((s.reach d).modInaug fun i => { i with hopTimer := none }) r true
  simp only
  rw [hopExpired_claiming (s := s.reach d) hr claim]
  refine ⟨heads, truncated, timer, generation, length, result, ?_⟩
  rw [onlyChanges_iff_forget]
  simp [roleBlocks]

/-! ## The Inauguration Timer -/

theorem exec_inaugurationTimerExpiry {d : Nat} (free : s.power.held = false) (hd : s.inaug.inaugurationTimer = some d) :
    exec .inaugurationTimerExpiry s = .next (s.reach d).inaugurationExpired := by
  show Host.Outcome.next (s.live fun s => s.inaugurationExpiry) = _
  rw [live_of_free _ _ free, inaugurationExpiry_eq, hd, expire_some]

theorem inaugurationExpired_repeats (claim : s.claiming = true) (few : s.inaug.attempt < 3) : s.inaugurationExpired =
    (s.modInaug fun i => { i with inaugurationTimer := none }).beginAttempt (s.inaug.attempt + 1) := by
  unfold State.inaugurationExpired
  exact (if_pos claim).trans (if_pos few)

theorem inaugurationExpired_fails (claim : s.claiming = true) (many : 3 ≤ s.inaug.attempt) : s.inaugurationExpired =
    ((s.modInaug fun i => { i with inaugurationTimer := none }).goUnassigned .claimEnded).failClaim .timeout := by
  unfold State.inaugurationExpired
  exact (if_pos claim).trans (if_neg (by show ¬s.inaug.attempt < 3; omega))

theorem beginAttempt_some {h : EndId} {n : Nat} (chosen : s.claimHeadward = some h) :
    s.beginAttempt n = (s.modInaug fun i => { i with attempt := n }).attemptFrom h n := by
  have same : (s.modInaug fun i => { i with attempt := n }).claimHeadward = some h := chosen
  unfold State.beginAttempt
  simp only [same]

theorem beginAttempt_none {n : Nat} (chosen : s.claimHeadward = none) : s.beginAttempt n =
    ((s.modInaug fun i => { i with attempt := n }).goUnassigned .claimEnded).failClaim .notAtEnd := by
  have same : (s.modInaug fun i => { i with attempt := n }).claimHeadward = none := chosen
  unfold State.beginAttempt
  simp only [same]

theorem counted_of_updateInProgress (h : s.updateInProgress = true) : ∃ r, s.counted = some r := by
  unfold State.updateInProgress at h
  exact Option.isSome_iff_exists.1 h

theorem heading_of_claiming (claim : s.claiming = true) : s.heading = false := by
  unfold State.heading
  rw [(claiming_iff s).1 claim]
  rfl

/-- The End and the position of an attempt (R26, R27). -/
theorem attempt_place {h : EndId} {n : Nat} :
    (s.attemptFrom h n).headward = some h ∧ (s.attemptFrom h n).ownPosition = some 1
      ∧ (s.attemptFrom h n).inaug.attempt = n := by
  by_cases o : (s.lineEnd h.other).link = .opened
  · obtain ⟨-, active, attempt, -⟩ := lone_items (n := n) o
    obtain ⟨a, ha, placed⟩ := Option.map_eq_some_iff.1 active
    obtain ⟨position, -, headward⟩ : a.position = 1 ∧ a.length = 1 ∧ a.headward = h := by simpa using placed
    unfold State.headward State.ownPosition
    rw [role_of_active ha]
    exact ⟨congrArg some headward, congrArg some position, attempt⟩
  · obtain ⟨silence, cause, inaug⟩ := attempts_inaug s h n
    unfold State.headward State.ownPosition
    rw [attemptFrom_closed o, inaug]
    exact ⟨rfl, rfl, rfl⟩

/-- Between two closed Ends the next attempt is none (R41). -/
theorem inaugurationTimer_notAtEnd {r : CountRecord} {d : Nat} (hr : s.counted = some r) (claim : s.claiming = true)
    (few : s.inaug.attempt < 3) (chosen : s.claimHeadward = none) :
    let t := (s.reach d).inaugurationExpired
    t.inaug = { s.inaug with
        attempt := s.inaug.attempt + 1
        role := .unassigned, headRole := .claimFailed .notAtEnd, lastCause := some .claimEnded
        inaugurationTimer := none, hopTimer := none, commitWait := none }
      ∧ t.track.outstanding = none ∧ RaisedAt .claimResult t
      ∧ OnlyChanges [.clock, .inauguration, .cycle, .tracking, .grants, .stages, .portOf .portA, .portOf .portB] s t := by
  generalize hx : (((s.reach d).modInaug fun i => { i with inaugurationTimer := none }).modInaug fun i =>
    { i with attempt := s.inaug.attempt + 1 }) = x
  have runs : (s.reach d).inaugurationExpired = (x.goUnassigned .claimEnded).failClaim .notAtEnd := by
    rw [inaugurationExpired_repeats (s := s.reach d) claim few, beginAttempt_none (by exact chosen), ← hx]
    rfl
  have counted : x.counted = some r := by rw [← hx]; exact hr
  obtain ⟨inaug, raised, track, -⟩ := claim_ends .claimEnded .notAtEnd counted
  simp only
  rw [runs, inaug, track]
  refine ⟨by rw [← hx]; rfl, rfl, raised, ?_⟩
  rw [onlyChanges_iff_forget, forget_failClaim _ _ _ (by simp) (by simp) (by simp),
    forget_mono (forget_goUnassigned_counted .claimEnded counted) (by simp [countedLeaving]), ← hx]
  simp

theorem inaugurationTimer_timeout {r : CountRecord} {d : Nat} (hr : s.counted = some r) (claim : s.claiming = true)
    (many : 3 ≤ s.inaug.attempt) :
    let t := (s.reach d).inaugurationExpired
    t.inaug.headRole = .claimFailed .timeout ∧ t.inaug.role = .unassigned ∧ t.inaug.attempt = s.inaug.attempt
      ∧ t.inaug.inaugurationTimer = none ∧ t.inaug.hopTimer = none ∧ t.track.outstanding = none
      ∧ RaisedAt .claimResult t
      ∧ OnlyChanges [.clock, .inauguration, .cycle, .tracking, .grants, .stages, .portOf .portA, .portOf .portB] s t := by
  generalize hx : (s.reach d).modInaug (fun i => { i with inaugurationTimer := none }) = x
  have runs : (s.reach d).inaugurationExpired = (x.goUnassigned .claimEnded).failClaim .timeout := by
    rw [inaugurationExpired_fails (s := s.reach d) claim many, ← hx]
  have counted : x.counted = some r := by rw [← hx]; exact hr
  obtain ⟨inaug, raised, track, -⟩ := claim_ends .claimEnded .timeout counted
  simp only
  rw [runs, inaug, track]
  refine ⟨rfl, rfl, by rw [← hx]; rfl, rfl, rfl, rfl, raised, ?_⟩
  rw [onlyChanges_iff_forget, forget_failClaim _ _ _ (by simp) (by simp) (by simp),
    forget_mono (forget_goUnassigned_counted .claimEnded counted) (by simp [countedLeaving]), ← hx]
  simp

/-- The next attempt, toward the End that senses the end of the train (R26, R27, R41). -/
theorem inaugurationTimer_repeats {h : EndId} {d : Nat} (claim : s.claiming = true) (few : s.inaug.attempt < 3)
    (chosen : s.claimHeadward = some h) :
    let t := (s.reach d).inaugurationExpired
    t.inaug.attempt = s.inaug.attempt + 1
      ∧ t.headward = some h ∧ t.ownPosition = some 1 ∧ OnlyChanges (.clock :: roleBlocks) s t
      ∧ ((s.lineEnd h.other).link = .opened → t.heading = true ∧ t.inaug.truncated = false
          ∧ t.active.map (·.length) = some 1 ∧ t.inaug.generation = nextWrap 65535 s.inaug.generation
          ∧ t.inaug.inaugurationTimer = none ∧ RaisedAt .claimResult t ∧ RaisedAt .consistCommitted t)
      ∧ ((s.lineEnd h.other).link ≠ .opened → t.inaug.headRole = .claiming
          ∧ t.inaug.inaugurationTimer = some (max s.now d + s.cycle.timing.inaugurationTimeout * 1000)
          ∧ t.inaug.hopTimer = (if (s.lineEnd h.other).link.usable then none else some (max s.now d + 100000))
          ∧ t.inaug.generation = s.inaug.generation
          ∧ (SlotFree s h.other .inauguration → InSlot t h.other .inauguration (CountFrame.frame
              { head := s.power.record.vehicle, attempt := s.inaug.attempt + 1, next := 2
                timeout := s.cycle.timing.inaugurationTimeout }))) := by
  generalize hx : (((s.reach d).modInaug fun i => { i with inaugurationTimer := none }).modInaug fun i =>
    { i with attempt := s.inaug.attempt + 1 }) = x
  have runs : (s.reach d).inaugurationExpired = x.attemptFrom h (s.inaug.attempt + 1) := by
    rw [inaugurationExpired_repeats (s := s.reach d) claim few, beginAttempt_some (by exact chosen), ← hx]
    rfl
  have ends (e : EndId) : x.lineEnd e = s.lineEnd e := by
    rw [← hx, lineEnd_modInaug, lineEnd_modInaug, lineEnd_reach]
  have generationX : x.inaug.generation = s.inaug.generation := by rw [← hx]; rfl
  have away : x.heading = false := by rw [← hx]; exact heading_of_claiming claim
  have cycle : x.cycle = s.cycle := by rw [← hx]; rfl
  have power : x.power = s.power := by rw [← hx]; rfl
  have now : x.now = max s.now d := by rw [← hx]; rfl
  obtain ⟨headward, position, attempt⟩ := attempt_place (s := x) (h := h) (n := s.inaug.attempt + 1)
  simp only
  rw [runs]
  refine ⟨attempt, headward, position, ?_, fun o => ?_, fun o => ?_⟩
  · rw [onlyChanges_iff_forget, ← hx]
    simp [roleBlocks]
  · obtain ⟨heads, active, -, truncated, generation, timer, result, committed⟩ :=
      lone_items (s := x) (n := s.inaug.attempt + 1) (by rw [ends]; exact o)
    obtain ⟨a, ha, placed⟩ := Option.map_eq_some_iff.1 active
    obtain ⟨-, length, -⟩ : a.position = 1 ∧ a.length = 1 ∧ a.headward = h := by simpa using placed
    rw [ha, generation, generationX]
    exact ⟨heads, truncated, congrArg some length, rfl, timer, result, committed⟩
  · obtain ⟨claims, -, -, timer, hop, generation, counts⟩ :=
      count_items (s := x) (n := s.inaug.attempt + 1) (h := h) (by rw [ends]; exact o) away
    rw [cycle, now] at timer
    rw [ends, now] at hop
    rw [power, cycle] at counts
    exact ⟨claims, timer, hop, by rw [generation, generationX], fun free => counts (slotFree_of_lineEnd (ends _) free)⟩

end Sys2Proof.Machine

/-! PROOF. The timers of a count and of a claim, and the reports of the Ends at them (R20, R21, R26, R27, R31, R32, R41, R42,
R64): O39. -/

namespace Sys2Proof.Machine

variable {s t : State}

/-! ## Changes of an End -/

theorem gained_iff (c : EndChange) : c.gained = true ↔ c.old.usable = false ∧ c.new.usable = true := by
  simp [EndChange.gained]

theorem lost_iff (c : EndChange) : c.lost = true ↔ c.old.usable = true ∧ c.new.usable = false := by
  simp [EndChange.lost]

theorem opened_iff (c : EndChange) : c.opened = true ↔ c.old ≠ .opened ∧ c.new = .opened := by
  simp [EndChange.opened]

theorem matters_iff_events (c : EndChange) : c.matters = true ↔ (c.old.usable = false ∧ c.new.usable = true)
    ∨ (c.old.usable = true ∧ c.new.usable = false) ∨ c.old ≠ .opened ∧ c.new = .opened := by
  rw [← gained_iff, ← lost_iff, ← opened_iff]
  unfold EndChange.matters
  rw [Bool.or_eq_true, Bool.or_eq_true, or_assoc]

/-- An OPEN End is not usable, and has not become so (R2, R20). -/
theorem gained_of_opened {c : EndChange} (h : c.old ≠ .opened ∧ c.new = .opened) : c.gained = false := by
  unfold EndChange.gained
  rw [h.2]
  exact Bool.and_false _

/-- A link state that stays is no event (R20). -/
theorem matters_of_same {c : EndChange} (h : c.new = c.old) : c.matters = false := by
  rw [← Bool.not_eq_true, matters_iff_events, h]
  rintro (⟨off, on⟩ | ⟨on, off⟩ | ⟨no, yes⟩)
  · rw [off] at on; cases on
  · rw [off] at on; cases on
  · exact no yes

theorem quiet_parts {c : EndChange} (h : c.matters = false) : c.gained = false ∧ c.lost = false ∧ c.opened = false := by
  unfold EndChange.matters at h
  simpa [and_assoc] using h

/-- The change of an End whose link state was `old`. -/
def State.changeFrom (s : State) (e : EndId) (old : LinkState) : EndChange :=
  { place := e, old := old, new := (s.lineEnd e).link }

theorem changeFrom_rest (s : State) (e : EndId) (old : LinkState) :
    (s.changeFrom e old).place = e ∧ (s.changeFrom e old).old = old
      ∧ (s.changeFrom e old).new = (s.lineEnd e).link := ⟨rfl, rfl, rfl⟩

/-! ## Reports at a COUNTED node -/

theorem reportInauguration_counted {r : CountRecord} {c : EndChange} (hr : s.counted = some r) (claim : s.claiming = false) :
    s.reportInauguration c = s.reportCounted r c := by
  unfold State.reportInauguration
  rw [role_of_counted hr]
  exact if_neg (by rw [claim]; decide)

theorem reportInauguration_claiming {r : CountRecord} {c : EndChange} (hr : s.counted = some r) (claim : s.claiming = true) :
    s.reportInauguration c = s.reportClaiming r c := by
  unfold State.reportInauguration
  rw [role_of_counted hr]
  exact if_pos claim

theorem claiming_of_inaug (h : t.inaug = s.inaug) : t.claiming = s.claiming := by
  unfold State.claiming
  rw [h]

theorem tailChange_quiet {r : CountRecord} {c : EndChange} (h : c.matters = false) : s.tailChange r c = s := by
  obtain ⟨gained, lost, opened⟩ := quiet_parts h
  unfold State.tailChange
  rw [gained, lost, opened]
  cases r.stage <;> rfl

theorem tailChange_gained {r : CountRecord} {c : EndChange} (stage : r.stage = .awaitingHop) (h : c.gained = true) :
    s.tailChange r c = (s.modInaug fun i => { i with hopTimer := none }).setRecord { r with stage := .awaitingTally } := by
  unfold State.tailChange
  rw [stage]
  exact if_pos h

theorem tailChange_opened {r : CountRecord} {c : EndChange} (stage : r.stage = .awaitingHop)
    (h : c.old ≠ .opened ∧ c.new = .opened) : s.tailChange r c = s.tailTally r .plain := by
  unfold State.tailChange
  rw [stage]
  exact (if_neg (by rw [gained_of_opened h]; decide)).trans (if_pos ((opened_iff c).2 h))

theorem tailChange_lost {r : CountRecord} {c : EndChange} (stage : r.stage = .awaitingTally) (h : c.lost = true) :
    s.tailChange r c = s.tailTally r (if c.opened then .plain else .truncated) := by
  unfold State.tailChange
  rw [stage]
  exact if_pos h

/-- The TALLY of a tail that loses its neighbour is truncated unless the train ends there (R32). -/
theorem lostFlag_byte {e : EndId} {old : LinkState} (was : old.usable = true) :
    (if (s.changeFrom e old).opened then TallyFlag.plain else .truncated).byte
      = if (s.lineEnd e).link = .opened then 0 else 1 := by
  have other : old ≠ .opened := by
    rintro rfl
    cases was
  have event := opened_iff (s.changeFrom e old)
  by_cases o : (s.lineEnd e).link = .opened
  · rw [if_pos (event.2 ⟨other, o⟩), if_pos o]
    rfl
  · rw [if_neg (mt event.1 fun both => o both.2), if_neg o]
    rfl

theorem tailChange_sent {r : CountRecord} {c : EndChange} (stage : r.stage = .tallySent) : s.tailChange r c = s := by
  unfold State.tailChange
  rw [stage]

/-- A count's answer touches its head-ward End in the slot of the inauguration alone (R31, R32). -/
theorem lineEnd_tailChange (s : State) (r : CountRecord) (c : EndChange) (d : EndId) :
    (s.tailChange r c).lineEnd d = s.lineEnd d
      ∨ ∃ f, (s.tailChange r c).lineEnd d = (s.place r.headward .inauguration f).lineEnd d := by
  have answers (flag : TallyFlag) :
      ∃ f, (s.tailTally r flag).lineEnd d = (s.place r.headward .inauguration f).lineEnd d := by
    unfold State.tailTally State.setRecord
    simp only [lineEnd_modInaug]
    exact ⟨_, rfl⟩
  unfold State.tailChange
  cases r.stage with
  | awaitingHop =>
    simp only
    split
    · exact .inl (by rw [State.setRecord, lineEnd_modInaug, lineEnd_modInaug])
    · split
      · exact .inr (answers _)
      · exact .inl rfl
  | awaitingTally =>
    simp only
    split
    · exact .inr (answers _)
    · exact .inl rfl
  | tallySent => exact .inl rfl

/-- After a count's answer its head-ward End takes a WAKE as before (R12, R21). -/
theorem tailChange_alerts {r : CountRecord} {c : EndChange} (usable : s.usable r.headward = true)
    (free : SlotFree s r.headward .wake) (queue : (s.lineEnd r.headward).throughQueue = []) :
    InSlot ((s.tailChange r c).topologyAlert r.headward) r.headward .wake { kind := .wake, payload := [2] } := by
  unfold State.usable at usable
  rcases lineEnd_tailChange s r c r.headward with same | ⟨f, placed⟩
  · exact inSlot_topologyAlert (by unfold State.usable; rw [same]; exact usable) (by rw [same]; exact queue)
      (slotFree_of_lineEnd same free)
  · exact inSlot_topologyAlert (by unfold State.usable; rw [placed, link_place]; exact usable)
      (by rw [placed, queue_place]; exact queue)
      (slotFree_of_lineEnd placed (slotFree_place (by decide) free))

theorem inSlot_of_alert {e d : EndId} {f : Frame} (h : InSlot s d .inauguration f) :
    InSlot (s.topologyAlert e) d .inauguration f := by
  unfold InSlot at h ⊢
  rw [slots_topologyAlert _ _ (by decide)]
  exact h

/-- A COUNTED node over a change at its tail-ward End (R20, R21). -/
theorem counted_tailward {r : CountRecord} {old : LinkState} (hr : s.counted = some r) (claim : s.claiming = false)
    (changes : (s.lineEnd r.headward.other).link ≠ old) : s.reportEnd r.headward.other old =
      if (s.changeFrom r.headward.other old).matters then
        ((s.discardOffer r.headward.other).tailChange r (s.changeFrom r.headward.other old)).topologyAlert r.headward
      else (s.discardOffer r.headward.other).tailChange r (s.changeFrom r.headward.other old) := by
  have inaug := discardOffer_inaug s r.headward.other
  rw [reportEnd_change changes, reportInauguration_counted ((counted_of_inaug inaug).trans hr)
    ((claiming_of_inaug inaug).trans claim)]
  exact if_neg (end_other_ne r.headward)

/-- An alert changes no block but the End it goes out on (R21). -/
theorem forget_alert (L : List Block) (e : EndId) (he : Block.endOf e ∈ L) : (s.topologyAlert e).forget L = s.forget L := by
  unfold State.topologyAlert
  split
  · exact forget_produceWake _ _ _ _ he
  · rfl

/-- A count's answer changes the count and its head-ward End (R31, R32). -/
theorem forget_answer_tail (L : List Block) (r : CountRecord) (c : EndChange) (hi : Block.inauguration ∈ L)
    (he : Block.endOf r.headward ∈ L) : (s.tailChange r c).forget L = s.forget L := by
  have answers (flag : TallyFlag) : (s.tailTally r flag).forget L = s.forget L :=
    forget_mono (tailTally_items s r flag).2.2 (by simp [hi, he])
  unfold State.tailChange
  cases r.stage with
  | awaitingHop =>
    simp only
    split
    · simp [hi]
    · split
      · exact answers _
      · rfl
  | awaitingTally =>
    simp only
    split
    · exact answers _
    · rfl
  | tallySent => rfl

/-- The report of a tail-ward End does to a count what its change makes the node answer (R31, R32). -/
theorem countedTail_items {r : CountRecord} {old : LinkState} (hr : s.counted = some r) (claim : s.claiming = false) :
    let c := s.changeFrom r.headward.other old
    let u := (s.discardOffer r.headward.other).tailChange r c
    let t := s.reportEnd r.headward.other old
    t.inaug = u.inaug ∧ (∀ d, (t.lineEnd d).slots.inauguration = (u.lineEnd d).slots.inauguration)
      ∧ (c.matters = true → t = u.topologyAlert r.headward)
      ∧ (c.matters = false → OnlyChanges [.messages] s t)
      ∧ OnlyChanges [.inauguration, .endOf r.headward, .messages] s t := by
  have discards := forget_discardOffer_messages s r.headward.other
  simp only [onlyChanges_iff_forget]
  by_cases stays : (s.lineEnd r.headward.other).link = old
  · have still : (s.changeFrom r.headward.other old).matters = false := matters_of_same stays
    rw [reportEnd_same stays, tailChange_quiet still, discardOffer_inaug]
    refine ⟨rfl, fun d => by rw [lineEnd_discardOffer], fun yes => ?_, fun _ => rfl, rfl⟩
    rw [still] at yes
    cases yes
  · rw [counted_tailward hr claim stays]
    cases event : (s.changeFrom r.headward.other old).matters with
    | false =>
      rw [tailChange_quiet event]
      exact ⟨rfl, fun _ => rfl, nofun, fun _ => discards, forget_mono discards (by simp)⟩
    | true =>
      refine ⟨topologyAlert_inaug _ _, slots_topologyAlert _ _ (y := .inauguration) (by decide), fun _ => rfl, nofun, ?_⟩
      refine (forget_alert _ _ (by simp)).trans ((forget_answer_tail _ _ _ (by simp) (by simp)).trans ?_)
      exact forget_mono discards (by simp)

theorem inSlot_of_slots {e : EndId} {f : Frame}
    (h : (t.lineEnd e).slots.inauguration = (s.lineEnd e).slots.inauguration) (stands : InSlot s e .inauguration f) :
    InSlot t e .inauguration f := by
  unfold InSlot at stands ⊢
  exact (congrArg SourceSlot.slot h).trans stands

/-- The tail of a count answers a change of its tail-ward End (R31, R32). -/
theorem countedTail_answers {r : CountRecord} {old : LinkState} {flag : TallyFlag} (hr : s.counted = some r)
    (claim : s.claiming = false) (answers : (s.discardOffer r.headward.other).tailChange r
      (s.changeFrom r.headward.other old) = (s.discardOffer r.headward.other).tailTally r flag) :
    let t := s.reportEnd r.headward.other old
    t.inaug = { s.inaug with
        role := .counted { r with stage := .tallySent, noted := some r.position }, hopTimer := none }
      ∧ (SlotFree s r.headward .inauguration → InSlot t r.headward .inauguration
          (tallyFrame r.head r.attempt r.position flag.byte (s.rosterEntry r.position r.headward).bytes)) := by
  obtain ⟨inaug, slots, -⟩ := countedTail_items hr claim (old := old)
  obtain ⟨inaugT, places, -⟩ := tailTally_items (s.discardOffer r.headward.other) r flag
  have power : (s.discardOffer r.headward.other).power = s.power :=
    sameBlock_of_forget (forget_discardOffer_messages s r.headward.other) .power (by simp)
  rw [rosterEntry_of_power power] at places
  rw [answers] at inaug slots
  simp only
  rw [inaug, inaugT, discardOffer_inaug]
  exact ⟨rfl, fun free => inSlot_of_slots (slots _) (places (slotFree_of_lineEnd (lineEnd_discardOffer _ _ _) free))⟩

/-- A COUNTED node that loses its head-ward End leaves its count (R20, R64). -/
theorem counted_loses_headward {r : CountRecord} {old : LinkState} (hr : s.counted = some r) (claim : s.claiming = false)
    (was : old.usable = true) (now : s.usable r.headward = false) :
    s.reportEnd r.headward old = (s.discardOffer r.headward).goUnassigned .headWardLoss := by
  have inaug := discardOffer_inaug s r.headward
  rw [reportEnd_change (changed_of_lost was now), reportInauguration_counted ((counted_of_inaug inaug).trans hr)
    ((claiming_of_inaug inaug).trans claim)]
  unfold State.reportCounted
  rw [lost_of_usable was now]
  exact (if_pos rfl).trans (if_pos rfl)

theorem countedLoss_items {r : CountRecord} {old : LinkState} (hr : s.counted = some r) (claim : s.claiming = false)
    (was : old.usable = true) (now : s.usable r.headward = false) :
    let t := s.reportEnd r.headward old
    t.inaug = { s.inaug with
        role := .unassigned, inaugurationTimer := none, hopTimer := none, commitWait := none
        lastCause := some .headWardLoss }
      ∧ RaisedAt .consistInvalidated t
      ∧ OnlyChanges [.inauguration, .cycle, .grants, .stages, .messages, .portOf .portA, .portOf .portB] s t := by
  have inaug := discardOffer_inaug s r.headward
  have counted := (counted_of_inaug inaug).trans hr
  simp only
  rw [counted_loses_headward hr claim was now, inaug_goUnassigned_counted _ counted, inaug]
  refine ⟨rfl, raised_goUnassigned_counted _ counted _ (.refl _), ?_⟩
  rw [onlyChanges_iff_forget, forget_mono (forget_goUnassigned_counted .headWardLoss counted) (by simp [countedLeaving]),
    forget_mono (forget_discardOffer_messages s r.headward) (by simp)]

/-! ## Reports at a claiming node -/

theorem claiming_tailward {r : CountRecord} {old : LinkState} (hr : s.counted = some r) (claim : s.claiming = true)
    (changes : (s.lineEnd r.headward.other).link ≠ old) : s.reportEnd r.headward.other old =
      if s.inaug.hopTimer.isSome then
        if (s.changeFrom r.headward.other old).gained then
          ((s.discardOffer r.headward.other).modInaug fun i => { i with hopTimer := none }).setRecord
            { r with stage := .awaitingTally }
        else if (s.changeFrom r.headward.other old).opened then (s.discardOffer r.headward.other).loneHead r false
        else s.discardOffer r.headward.other
      else if (s.changeFrom r.headward.other old).matters then (s.discardOffer r.headward.other).beginAttempt 1
      else s.discardOffer r.headward.other := by
  have inaug := discardOffer_inaug s r.headward.other
  rw [reportEnd_change changes, reportInauguration_claiming ((counted_of_inaug inaug).trans hr)
    ((claiming_of_inaug inaug).trans claim), ← inaug]
  exact if_neg (end_other_ne r.headward)

theorem changes_of_matters {e : EndId} {old : LinkState} (h : (s.changeFrom e old).matters = true) :
    (s.lineEnd e).link ≠ old := by
  intro same
  rw [matters_of_same same] at h
  cases h

theorem matters_of_gained {c : EndChange} (h : c.gained = true) : c.matters = true := by
  unfold EndChange.matters
  rw [h]
  rfl

theorem matters_of_opened {c : EndChange} (h : c.opened = true) : c.matters = true := by
  unfold EndChange.matters
  rw [h]
  exact Bool.or_true _

/-- A claiming node that waits for its neighbour sees it (R31). -/
theorem claimHop_gained {r : CountRecord} {old : LinkState} (hr : s.counted = some r) (claim : s.claiming = true)
    (hop : s.inaug.hopTimer.isSome = true) (gained : (s.changeFrom r.headward.other old).gained = true) :
    (s.reportEnd r.headward.other old).inaug
        = { s.inaug with role := .counted { r with stage := .awaitingTally }, hopTimer := none }
      ∧ OnlyChanges [.inauguration, .messages] s (s.reportEnd r.headward.other old) := by
  rw [claiming_tailward hr claim (changes_of_matters (matters_of_gained gained)), if_pos hop, if_pos gained,
    State.setRecord, modInaug_inaug, modInaug_inaug, discardOffer_inaug]
  refine ⟨rfl, ?_⟩
  rw [onlyChanges_iff_forget]
  simp

theorem claimHop_opened {r : CountRecord} {old : LinkState} (hr : s.counted = some r) (claim : s.claiming = true)
    (hop : s.inaug.hopTimer.isSome = true)
    (opened : old ≠ .opened ∧ (s.lineEnd r.headward.other).link = .opened) :
    s.reportEnd r.headward.other old = (s.discardOffer r.headward.other).loneHead r false := by
  have event := (opened_iff (s.changeFrom r.headward.other old)).2 opened
  have silent : (s.changeFrom r.headward.other old).gained = false := gained_of_opened opened
  rw [claiming_tailward hr claim (changes_of_matters (matters_of_opened event)), if_pos hop,
    if_neg (by rw [silent]; decide), if_pos event]

theorem claimAgain {r : CountRecord} {old : LinkState} (hr : s.counted = some r) (claim : s.claiming = true)
    (noHop : ¬s.inaug.hopTimer.isSome = true) (event : (s.changeFrom r.headward.other old).matters = true) :
    s.reportEnd r.headward.other old = (s.discardOffer r.headward.other).beginAttempt 1 := by
  rw [claiming_tailward hr claim (changes_of_matters event), if_neg noHop, if_pos event]

theorem claimTail_quiet {r : CountRecord} {old : LinkState} (hr : s.counted = some r) (claim : s.claiming = true)
    (quiet : (s.changeFrom r.headward.other old).matters = false) :
    OnlyChanges [.messages] s (s.reportEnd r.headward.other old) := by
  obtain ⟨gained, -, opened⟩ := quiet_parts quiet
  rw [onlyChanges_iff_forget]
  by_cases stays : (s.lineEnd r.headward.other).link = old
  · rw [reportEnd_same stays]
  · rw [claiming_tailward hr claim stays, gained, opened, quiet]
    simp

/-- A claiming node whose head-ward End is the end of the train no more (R42). -/
theorem claiming_displaced {r : CountRecord} {old : LinkState} (hr : s.counted = some r) (claim : s.claiming = true)
    (was : old = .opened) (now : (s.lineEnd r.headward).link ≠ .opened) : s.reportEnd r.headward old =
      (((s.discardOffer r.headward).placeDissolve r.headward.other 0).goUnassigned .claimEnded).failClaim .notAtEnd := by
  have inaug := discardOffer_inaug s r.headward
  rw [reportEnd_change (by rw [was]; exact now), reportInauguration_claiming ((counted_of_inaug inaug).trans hr)
    ((claiming_of_inaug inaug).trans claim)]
  refine (if_pos rfl).trans (if_pos ?_)
  unfold EndChange.leftOpen
  exact decide_eq_true ⟨was, now⟩

theorem claimDisplaced_items {r : CountRecord} {old : LinkState} (hr : s.counted = some r) (claim : s.claiming = true)
    (was : old = .opened) (now : (s.lineEnd r.headward).link ≠ .opened) :
    let t := s.reportEnd r.headward old
    t.inaug = { s.inaug with
        role := .unassigned, headRole := .claimFailed .notAtEnd, lastCause := some .claimEnded
        inaugurationTimer := none, hopTimer := none, commitWait := none }
      ∧ RaisedAt .claimResult t ∧ t.track = { s.track with outstanding := none }
      ∧ (SlotFree s r.headward.other .inauguration → InSlot t r.headward.other .inauguration
          (dissolveFrame { head := s.power.record.vehicle, generation := 0 })) := by
  have discards := forget_discardOffer_messages s r.headward
  have power : (s.discardOffer r.headward).power = s.power := sameBlock_of_forget discards .power (by simp)
  have order : (s.discardOffer r.headward).track = s.track := sameBlock_of_forget discards .tracking (by simp)
  obtain ⟨inaugP, -, trackP, -⟩ := place_rest (s.discardOffer r.headward) r.headward.other .inauguration
    (dissolveFrame { head := (s.discardOffer r.headward).vehicle, generation := 0 })
  have counted : ((s.discardOffer r.headward).placeDissolve r.headward.other 0).counted = some r :=
    (counted_of_inaug (inaugP.trans (discardOffer_inaug _ _))).trans hr
  obtain ⟨inaug, raised, track, ends⟩ := claim_ends .claimEnded .notAtEnd counted
  simp only
  rw [claiming_displaced hr claim was now, inaug, track, State.placeDissolve, inaugP, trackP, discardOffer_inaug, order]
  refine ⟨rfl, raised, rfl, fun free => inSlot_of_lineEnd (ends _) ?_⟩
  rw [← power]
  exact place_inSlot _ _ _ _ (slotFree_of_lineEnd (lineEnd_discardOffer _ _ _) free)

/-! ## The events of a recount -/

theorem consistFlags_raise {c : Cause} (h : c.group ≠ .consist) (q : PortId) :
    ((s.raise c).port q).flags.get .consist = (s.port q).flags.get .consist := by
  have raised (p : Port) : (p.raise c).flags.get .consist = p.flags.get .consist := by
    unfold Port.raise
    rw [groupBytes_get_set, if_neg (Ne.symm h)]
  cases q <;> exact raised _

theorem flagSet_of_consist {c : Cause} (h : c.group = .consist) (q : PortId)
    (same : (t.port q).flags.get .consist = (s.port q).flags.get .consist) : t.flagSet q c = s.flagSet q c := by
  unfold State.flagSet State.flagByte
  rw [h, same]

theorem consistFlags_withdrawSide (i : SideId) (none : s.active = none) (q : PortId) :
    ((s.withdrawSide i).port q).flags.get .consist = (s.port q).flags.get .consist := by
  unfold State.withdrawSide State.fromReleased
  rw [setSide_away none]
  split
  · split
    · rfl
    · rw [consistFlags_raise (by decide)]
      cases q <;> rfl
  · rfl

/-- The report of a recount raises no event of the consist (R29, R163). -/
theorem consistFlags_reportRecount (none : s.active = none) (q : PortId) :
    (s.reportRecount.port q).flags.get .consist = (s.port q).flags.get .consist := by
  have told : s.reportRecount.port q = s.doorReport.port q :=
    sameBlock_of_forget (L := [.messages]) (by simp [State.reportRecount]) (.portOf q) (by simp)
  have door : s.doorReport.port q = ((s.withdrawSide .side1).withdrawSide .side2).port q := by
    rw [doorReport_away none]
    cases q <;> rfl
  rw [told, door, consistFlags_withdrawSide _ (active_withdrawSide .side1 none), consistFlags_withdrawSide _ none]

/-- A COUNTED node that begins an attempt toward an End that is not OPEN shows no Claim Result (R26, R29). -/
theorem claimResult_attempts {r : CountRecord} {h : EndId} {n : Nat} (hr : s.counted = some r) (q : PortId) :
    (s.attempts h n).flagSet q .claimResult = s.flagSet q .claimResult := by
  have counts : s.recount (s.claimRecord h n)
      = (s.modInaug fun i => { i with role := .counted (s.claimRecord h n) }).reportRecount := by
    unfold State.recount
    rw [role_of_counted hr]
  have goes : (s.attempts h n).port q = (s.recount (s.claimRecord h n)).port q :=
    sameBlock_of_forget (L := [.inauguration, .endOf h.other]) (by simp [State.attempts]) (.portOf q) (by simp)
  refine flagSet_of_consist rfl q ?_
  rw [goes, counts, consistFlags_reportRecount rfl]
  cases q <;> rfl

/-! ## The claim begun again -/

/-- A claiming node begins its claim again with the same head-ward End (R26, R27, R42). -/
theorem claimAgain_items {r : CountRecord} {old : LinkState} (hr : s.counted = some r) (claim : s.claiming = true)
    (noHop : ¬s.inaug.hopTimer.isSome = true) (event : (s.changeFrom r.headward.other old).matters = true)
    (chosen : s.claimHeadward = some r.headward) :
    let e := r.headward.other
    let t := s.reportEnd e old
    t.inaug.attempt = 1 ∧ t.headward = some r.headward ∧ t.ownPosition = some 1
      ∧ ((s.lineEnd e).link = .opened → t.heading = true ∧ t.active.map (·.length) = some 1)
      ∧ ((s.lineEnd e).link ≠ .opened → t.claiming = true ∧ t.inaug.generation = s.inaug.generation
        ∧ t.inaug.inaugurationTimer = some (s.now + s.cycle.timing.inaugurationTimeout * 1000)
        ∧ (∀ q, t.flagSet q .claimResult = s.flagSet q .claimResult)
        ∧ (SlotFree s e .inauguration → InSlot t e .inauguration (CountFrame.frame
            { head := s.power.record.vehicle, attempt := 1, next := 2
              timeout := s.cycle.timing.inaugurationTimeout }))) := by
  have discards := forget_discardOffer_messages s r.headward.other
  have inaugD := discardOffer_inaug s r.headward.other
  generalize hx : (s.discardOffer r.headward.other).modInaug (fun i => { i with attempt := 1 }) = x
  have still : x.forget [.messages, .inauguration] = s.forget [.messages, .inauguration] := by
    rw [← hx]
    simp
  have ends (e : EndId) : x.lineEnd e = s.lineEnd e := sameBlock_of_forget still (.endOf e) (by simp)
  have cycle : x.cycle = s.cycle := sameBlock_of_forget still .cycle (by simp)
  have power : x.power = s.power := sameBlock_of_forget still .power (by simp)
  have now : x.now = s.now := sameBlock_of_forget still .clock (by simp)
  have ports (q : PortId) : x.port q = s.port q := sameBlock_of_forget still (.portOf q) (by simp)
  have counted : x.counted = some r := by rw [← hx]; exact (counted_of_inaug inaugD).trans hr
  have generationX : x.inaug.generation = s.inaug.generation := by rw [← hx, modInaug_inaug, inaugD]
  have away : x.heading = false := by
    rw [← hx]
    exact (heading_of_inaug inaugD).trans (heading_of_claiming claim)
  have runs : s.reportEnd r.headward.other old = x.attemptFrom r.headward 1 := by
    rw [claimAgain hr claim noHop event, beginAttempt_some
      ((claimHeadward_congr fun d => by rw [lineEnd_discardOffer]).trans chosen), hx]
  obtain ⟨headward, position, attempt⟩ := attempt_place (s := x) (h := r.headward) (n := 1)
  simp only
  rw [runs]
  refine ⟨attempt, headward, position, fun o => ?_, fun o => ?_⟩
  · obtain ⟨heads, active, -⟩ := lone_items (s := x) (n := 1) (by rw [ends]; exact o)
    obtain ⟨a, ha, placed⟩ := Option.map_eq_some_iff.1 active
    obtain ⟨-, length, -⟩ : a.position = 1 ∧ a.length = 1 ∧ a.headward = r.headward := by simpa using placed
    rw [ha]
    exact ⟨heads, congrArg some length⟩
  · have closed : (x.lineEnd r.headward.other).link ≠ .opened := by rw [ends]; exact o
    obtain ⟨claims, -, -, timer, -, generation, counts⟩ := count_items (s := x) (n := 1) closed away
    rw [cycle, now] at timer
    rw [power, cycle] at counts
    refine ⟨decide_eq_true claims, by rw [generation, generationX], timer, fun q => ?_,
      fun free => counts (slotFree_of_lineEnd (ends _) free)⟩
    rw [attemptFrom_closed closed, claimResult_attempts counted]
    exact flagSet_of_consist rfl q (by rw [ports])

/-- Settles O39: the two timers of a count and a claim, and the reports at a COUNTED node that claims or does not. -/
theorem claimTimersTruncateRepeatAndFail : Obligations.ClaimTimersTruncateRepeatAndFail := by
  refine ⟨fun s d free => ⟨fun hd => ⟨fun r hr claim => ⟨_, exec_hopTimerExpiry free hd, hopTimer_counted hr claim⟩,
    fun r hr claim => ⟨_, exec_hopTimerExpiry free hd, hopTimer_claiming hr claim⟩⟩, fun hd claim => ⟨fun few =>
    ⟨fun first second counting => ?_, fun h senses => ?_⟩, fun many counting => ?_⟩⟩, fun s r old hr claim =>
    ⟨countedLoss_items hr claim, ?_⟩, fun s r old hr claim => ⟨claimDisplaced_items hr claim, ?_⟩⟩
  · obtain ⟨r, hr⟩ := counted_of_updateInProgress counting
    exact ⟨_, exec_inaugurationTimerExpiry free hd,
      inaugurationTimer_notAtEnd hr claim few (claimHeadward_of_closed first second)⟩
  · exact ⟨_, exec_inaugurationTimerExpiry free hd, inaugurationTimer_repeats claim few (claimHeadward_of_senses senses)⟩
  · obtain ⟨r, hr⟩ := counted_of_updateInProgress counting
    exact ⟨_, exec_inaugurationTimerExpiry free hd, inaugurationTimer_timeout hr claim many⟩
  · obtain ⟨inaug, slots, alerts, quiet, changes⟩ := countedTail_items hr claim (old := old)
    have events := matters_iff_events (s.changeFrom r.headward.other old)
    refine ⟨fun stage gained => ?_, fun stage opened => ?_, fun stage lost => ?_, fun stage => ?_,
      fun event usable free queue => ?_, fun none => ?_, changes⟩
    · rw [inaug, tailChange_gained stage ((gained_iff _).2 gained), State.setRecord, modInaug_inaug, modInaug_inaug,
        discardOffer_inaug]
    · exact countedTail_answers hr claim (tailChange_opened stage opened)
    · have answers := countedTail_answers hr claim (tailChange_lost (s := s.discardOffer r.headward.other) stage
        ((lost_iff (s.changeFrom r.headward.other old)).2 lost))
      rw [lostFlag_byte lost.1] at answers
      exact answers
    · have sent := tailChange_sent (s := s.discardOffer r.headward.other)
        (c := s.changeFrom r.headward.other old) stage
      rw [inaug, slots, sent, lineEnd_discardOffer, discardOffer_inaug]
      exact ⟨rfl, rfl⟩
    · rw [alerts (events.2 event)]
      have ends := lineEnd_discardOffer s r.headward.other r.headward
      refine tailChange_alerts ?_ (slotFree_of_lineEnd ends free) (by rw [ends]; exact queue)
      unfold State.usable at usable ⊢
      rw [ends]
      exact usable
    · exact quiet (Bool.eq_false_iff.2 (mt events.1 none))
  · have events := matters_iff_events (s.changeFrom r.headward.other old)
    refine ⟨fun hop gained => claimHop_gained hr claim hop ((gained_iff _).2 gained), fun hop opened => ?_,
      fun noHop event chosen => claimAgain_items hr claim noHop (events.2 event) chosen,
      fun none => claimTail_quiet hr claim (Bool.eq_false_iff.2 (mt events.1 none)), ?_⟩
    · obtain ⟨heads, truncated, -, generation, length, result⟩ :=
        loneHead_items (s.discardOffer r.headward.other) r false
      rw [claimHop_opened hr claim hop opened]
      exact ⟨heads, truncated, length, by rw [generation, discardOffer_inaug], result⟩
    · rw [onlyChanges_iff_forget]
      simp [roleBlocks]

end Sys2Proof.Machine

/-! PROOF. A COUNT at a node and at a head (R28, R29, R30, R37, R38): O35. -/

namespace Sys2Proof.Machine

variable {s t : State}

/-! ## Dispatch -/

theorem handOn_count {e : EndId} {f : Frame} (h : f.kind = .count) : s.handOn e f = s.receiveCount e f.payload := by
  unfold State.handOn
  rw [h]

theorem receiveCount_invalid {e : EndId} {p : List Byte} (h : (CountFrame.ofPayload p).valid = false) :
    s.receiveCount e p = s := if_pos h

theorem receiveCount_head {e : EndId} {p : List Byte} (h : (CountFrame.ofPayload p).valid = true)
    (leads : s.claiming = true ∨ s.heading = true) : s.receiveCount e p = s.headContest e (CountFrame.ofPayload p) := by
  unfold State.receiveCount
  exact (if_neg (by rw [h]; decide)).trans (if_pos (by simpa using leads))

/-- A node that is no head compares the COUNT with the count it is in (R28, R37). -/
theorem receiveCount_away {e : EndId} {p : List Byte} (h : (CountFrame.ofPayload p).valid = true)
    (claim : s.claiming = false) (head : s.heading = false) : s.receiveCount e p =
      match s.counted with
      | some r => if r.head ≠ (CountFrame.ofPayload p).head ∧ e = r.tailward then s.contest r e (CountFrame.ofPayload p)
          else s.takeCount e (CountFrame.ofPayload p)
      | none => s.takeCount e (CountFrame.ofPayload p) := by
  unfold State.receiveCount
  exact (if_neg (by rw [h]; decide)).trans (if_neg (by rw [claim, head]; decide))

theorem receiveCount_takes {e : EndId} {p : List Byte} (h : (CountFrame.ofPayload p).valid = true)
    (claim : s.claiming = false) (head : s.heading = false)
    (fits : ∀ r, s.counted = some r → r.head = (CountFrame.ofPayload p).head ∨ e ≠ r.headward.other) :
    s.receiveCount e p = s.takeCount e (CountFrame.ofPayload p) := by
  rw [receiveCount_away h claim head]
  cases counted : s.counted with
  | none => rfl
  | some r =>
    refine if_neg fun ⟨other, tail⟩ => ?_
    rcases fits r counted with same | apart
    · exact other same
    · exact apart tail

theorem receiveCount_contest {r : CountRecord} {e : EndId} {p : List Byte} (h : (CountFrame.ofPayload p).valid = true)
    (claim : s.claiming = false) (head : s.heading = false) (hr : s.counted = some r)
    (other : r.head ≠ (CountFrame.ofPayload p).head) (tail : e = r.headward.other) :
    s.receiveCount e p = s.contest r e (CountFrame.ofPayload p) := by
  rw [receiveCount_away h claim head, hr]
  exact if_pos ⟨other, tail⟩

/-! ## The recount of a COUNT -/

/-- A recount is told to the Door Unit and the Message Unit (R29, R95, R163). -/
theorem told_of_recount (s : State) (x : CountRecord) : (s.recount x).Told := by
  cases role : s.inaug.role with
  | unassigned =>
    have counts : s.recount x = (s.modInaug fun i => { i with role := .counted x }).roleChanged.reportRecount := by
      unfold State.recount; rw [role]
    rw [counts]
    exact told_of_reportRecount rfl
  | counted y =>
    have counts : s.recount x = (s.modInaug fun i => { i with role := .counted x }).reportRecount := by
      unfold State.recount; rw [role]
    rw [counts]
    exact told_of_reportRecount rfl
  | member a =>
    rw [recount_member (active_of_role role)]
    exact told_of_leaveMember (next := .counted x) nofun

/-- The node that has taken a COUNT, before it answers (R29). -/
def State.taken (s : State) (e : EndId) (c : CountFrame) : State :=
  (s.recount (s.countRecord e c)).modInaug fun i => { i.stopTimers with commitWait := s.timerMs (2 * c.timeout) }

theorem takeCount_eq (s : State) (e : EndId) (c : CountFrame) :
    s.takeCount e c = (s.taken e c).answerCount (s.countRecord e c) := rfl

theorem taken_items (s : State) (e : EndId) (c : CountFrame) : (∃ silence cause, (s.taken e c).inaug = { s.inaug with
        role := .counted (s.countRecord e c), silence := silence, lastCause := cause
        inaugurationTimer := none, hopTimer := none, commitWait := some (s.now + 2 * c.timeout * 1000) })
      ∧ (s.taken e c).now = s.now ∧ (s.taken e c).power = s.power ∧ (s.taken e c).stage = s.stage
      ∧ (s.taken e c).Told := by
  obtain ⟨silence, cause, recounted⟩ := recount_inaug s (s.countRecord e c)
  have still : (s.recount (s.countRecord e c)).forget roleBlocks = s.forget roleBlocks := by simp [roleBlocks]
  have away : (s.recount (s.countRecord e c)).forget (roleBlocks.erase .stages) = s.forget (roleBlocks.erase .stages) := by
    simp [roleBlocks]
  refine ⟨⟨silence, cause, ?_⟩, sameBlock_of_forget still .clock (by simp [roleBlocks]),
    sameBlock_of_forget still .power (by simp [roleBlocks]), sameBlock_of_forget away .stages (by decide),
    (told_of_recount s _).of_blocks rfl fun _ => rfl⟩
  unfold State.taken
  rw [modInaug_inaug, recounted, timerMs_eq]
  rfl

theorem lineEnd_taken (head : s.heading = false) (e : EndId) (c : CountFrame) (d : EndId) :
    (s.taken e c).lineEnd d = s.lineEnd d := by
  unfold State.taken
  rw [lineEnd_modInaug, lineEnd_recount head]

/-- A member that takes a COUNT has left its consist (R29, R65). -/
theorem taken_leaves (valid : s.valid = true) (e : EndId) (c : CountFrame) :
    (s.taken e c).inaug.lastCause = some .countReception
      ∧ ∀ u, Gentle (s.taken e c) u → RaisedAt .consistInvalidated u := by
  unfold State.valid at valid
  obtain ⟨a, ha⟩ := Option.isSome_iff_exists.1 valid
  have leaves : Gentle (s.leaveMember a (.counted (s.countRecord e c)) .countReception) (s.taken e c) := by
    unfold State.taken
    rw [recount_member ha]
    exact (Gentle.refl _).modInaug
  refine ⟨?_, fun u gentle => raised_leaveMember u
    ⟨fun d hd => gentle.ends d (leaves.ends d hd), fun q => (leaves.flags q).trans (gentle.flags q)⟩⟩
  unfold State.taken
  rw [recount_member ha, modInaug_inaug, leaveMember_inaug (next := .counted _) nofun]
  rfl

/-! ## The answer to a COUNT -/

theorem answerCount_last {r : CountRecord} (h : r.position = 33) :
    s.answerCount r = s.place r.headward .inauguration (flaggedTally r.head r.attempt .tooLong) := if_pos h

theorem answerCount_tail {r : CountRecord} (h : r.position ≠ 33) (o : (s.lineEnd r.headward.other).link = .opened) :
    s.answerCount r = s.tailTally r .plain :=
  (if_neg h).trans (if_pos (decide_eq_true o))

theorem answerCount_on {r : CountRecord} (h : r.position ≠ 33) (o : (s.lineEnd r.headward.other).link ≠ .opened) :
    s.answerCount r = (s.place r.headward.other .inauguration r.countFrame).startHop r.stage :=
  (if_neg h).trans (if_neg (by unfold State.isOpen; rw [decide_eq_true_eq]; exact o))

theorem stage_eq (l : LinkState) : l.stage =
    if l = .opened then .tallySent else if l.usable then .awaitingTally else .awaitingHop := by cases l <;> rfl

/-- The count of a node that has taken and answered a COUNT (R29, R30, R31). -/
def State.countAnswered (s : State) (e : EndId) (c : CountFrame) : CountRecord :=
  { s.countRecord e c with
    noted := if c.next ≠ 33 ∧ (s.lineEnd e.other).link = .opened then some c.next else none }

theorem countRecord_stage (s : State) (e : EndId) (c : CountFrame) : (s.countRecord e c).stage =
    if c.next = 33 ∨ (s.lineEnd e.other).link = .opened then .tallySent
    else if (s.lineEnd e.other).link.usable then .awaitingTally else .awaitingHop := by
  unfold State.countRecord
  rw [stage_eq]
  by_cases last : c.next = 33 <;> simp [last]

/-- The three answers to a COUNT (R30). -/
theorem takeCount_last {e : EndId} {c : CountFrame} (h : c.next = 33) : s.takeCount e c =
    (s.taken e c).place e .inauguration (tallyFrame c.head c.attempt 0 2 []) := answerCount_last h

theorem takeCount_tail {e : EndId} {c : CountFrame} (head : s.heading = false) (h : c.next ≠ 33)
    (o : (s.lineEnd e.other).link = .opened) : s.takeCount e c = (s.taken e c).tailTally (s.countRecord e c) .plain :=
  answerCount_tail h ((congrArg LineEnd.link (lineEnd_taken head e c e.other)).trans o)

theorem takeCount_on {e : EndId} {c : CountFrame} (head : s.heading = false) (h : c.next ≠ 33)
    (o : (s.lineEnd e.other).link ≠ .opened) : s.takeCount e c =
      ((s.taken e c).place e.other .inauguration (CountFrame.frame
        { head := c.head, attempt := c.attempt, next := c.next + 1, timeout := c.timeout })).startHop
          (s.countRecord e c).stage :=
  answerCount_on h fun opened => o ((congrArg LineEnd.link (lineEnd_taken head e c e.other)).symm.trans opened)

/-- The inauguration of a node that has taken and answered a COUNT (R29, R30). -/
theorem takeCount_inaug (head : s.heading = false) (e : EndId) (c : CountFrame) :
    (s.takeCount e c).inaug = { (s.taken e c).inaug with
      role := .counted (s.countAnswered e c)
      hopTimer := if (s.countRecord e c).stage = .awaitingHop then some (s.now + 100000) else none } := by
  obtain ⟨⟨silence, cause, inaug⟩, now, -⟩ := taken_items s e c
  have stage := countRecord_stage s e c
  have quiet (sent : (s.countRecord e c).stage = .tallySent) :
      (if (s.countRecord e c).stage = .awaitingHop then some (s.now + 100000) else none) = (none : Timer) :=
    if_neg (by rw [sent]; decide)
  unfold State.countAnswered
  by_cases last : c.next = 33
  · have noted : ¬(c.next ≠ 33 ∧ (s.lineEnd e.other).link = .opened) := fun both => both.1 last
    rw [if_pos (.inl last)] at stage
    rw [takeCount_last last, (place_rest _ _ _ _).1, quiet stage, inaug, if_neg noted]
    rfl
  · by_cases o : (s.lineEnd e.other).link = .opened
    · have noted : c.next ≠ 33 ∧ (s.lineEnd e.other).link = .opened := ⟨last, o⟩
      rw [if_pos (.inr o)] at stage
      obtain ⟨answered, -⟩ := tailTally_items (s.taken e c) (s.countRecord e c) .plain
      rw [takeCount_tail head last o, quiet stage, answered, if_pos noted, ← stage]
      rfl
    · have noted : ¬(c.next ≠ 33 ∧ (s.lineEnd e.other).link = .opened) := fun both => o both.2
      rw [takeCount_on head last o, State.startHop, modInaug_inaug, (place_rest _ _ _ _).1, timerMs_eq,
        (place_rest _ _ _ _).2.2.2.2.2.2, now, inaug, if_neg noted]
      rfl

/-- The frames of the answer (R30, R31). -/
theorem takeCount_frames (head : s.heading = false) (e : EndId) (c : CountFrame) :
    let t := s.takeCount e c
    (c.next = 33 → SlotFree s e .inauguration → InSlot t e .inauguration (tallyFrame c.head c.attempt 0 2 []))
      ∧ (c.next = 33 → (t.lineEnd e.other).slots.inauguration = (s.lineEnd e.other).slots.inauguration)
      ∧ (c.next ≠ 33 → (s.lineEnd e.other).link = .opened → SlotFree s e .inauguration → InSlot t e .inauguration
          (tallyFrame c.head c.attempt c.next 0 (s.rosterEntry c.next e).bytes))
      ∧ (c.next ≠ 33 → SlotFree s e.other .inauguration → InSlot t e.other .inauguration (CountFrame.frame
          { head := c.head, attempt := c.attempt, next := c.next + 1, timeout := c.timeout })) := by
  have ends := lineEnd_taken head e c
  obtain ⟨-, -, power, -⟩ := taken_items s e c
  refine ⟨fun last free => ?_, fun last => ?_, fun more o free => ?_, fun more free => ?_⟩
  · rw [takeCount_last last]
    exact place_inSlot _ _ _ _ (slotFree_of_lineEnd (ends _) free)
  · rw [takeCount_last last, place_other, ends]
  · obtain ⟨-, answers, -⟩ := tailTally_items (s.taken e c) (s.countRecord e c) .plain
    rw [rosterEntry_of_power power] at answers
    rw [takeCount_tail head more o]
    exact answers (slotFree_of_lineEnd (ends _) free)
  · rw [takeCount_on head more free.1]
    exact inSlot_of_lineEnd (by rw [State.startHop, lineEnd_modInaug])
      (place_inSlot _ _ _ _ (slotFree_of_lineEnd (ends _) free))

/-- What the answer to a COUNT leaves alone (R30). -/
theorem takeCount_rest (s : State) (e : EndId) (c : CountFrame) :
    (s.takeCount e c).Told ∧ (s.takeCount e c).stage = s.stage ∧ (s.takeCount e c).power = s.power := by
  obtain ⟨-, -, power, stage, told⟩ := taken_items s e c
  have still : (s.takeCount e c).forget [.inauguration, .endOf .end1, .endOf .end2]
      = (s.taken e c).forget [.inauguration, .endOf .end1, .endOf .end2] := by
    rw [takeCount_eq]
    simp
  exact ⟨told.of_blocks (sameBlock_of_forget still .messages (by simp))
      (sideState_of_door (sameBlock_of_forget still .door (by simp))),
    (sameBlock_of_forget still .stages (by simp)).trans stage, (sameBlock_of_forget still .power (by simp)).trans power⟩

/-! ## A contest -/

/-- A node that goes UNASSIGNED, whatever it was (R65). -/
theorem goUnassigned_gone (s : State) (cause : LeaveCause) :
    (s.goUnassigned cause).inaug.role = .unassigned
      ∧ (s.goUnassigned cause).inaug.generation = s.inaug.generation
      ∧ (s.inaug.role ≠ .unassigned → (s.goUnassigned cause).inaug.lastCause = some cause
          ∧ (∀ u, Gentle (s.goUnassigned cause) u → RaisedAt .consistInvalidated u)
          ∧ (s.goUnassigned cause).inaug.inaugurationTimer = none ∧ (s.goUnassigned cause).inaug.hopTimer = none) := by
  cases role : s.inaug.role with
  | unassigned =>
    have stays : s.goUnassigned cause = s := by unfold State.goUnassigned; rw [role]
    rw [stays]
    exact ⟨role, rfl, fun other => absurd rfl other⟩
  | counted x =>
    have hx := counted_of_role role
    rw [inaug_goUnassigned_counted cause hx]
    exact ⟨rfl, rfl, fun _ => ⟨rfl, raised_goUnassigned_counted cause hx, rfl, rfl⟩⟩
  | member a =>
    have ha := active_of_role role
    rw [inaug_goUnassigned_active cause ha]
    exact ⟨rfl, rfl, fun _ => ⟨rfl, raised_goUnassigned_active cause ha, rfl, rfl⟩⟩

/-- A frame of the inauguration stays in its slot when the node goes UNASSIGNED (R65, R67). -/
theorem inSlot_goUnassigned {e : EndId} {f : Frame} (cause : LeaveCause) (stands : InSlot s e .inauguration f) :
    InSlot (s.goUnassigned cause) e .inauguration f := by
  cases role : s.inaug.role with
  | unassigned =>
    have stays : s.goUnassigned cause = s := by unfold State.goUnassigned; rw [role]
    rw [stays]
    exact stands
  | counted x => exact inSlot_of_lineEnd (lineEnd_goUnassigned_counted cause (counted_of_role role) e) stands
  | member a =>
    have ha := active_of_role role
    cases head : s.heading with
    | true =>
      obtain ⟨-, -, ends⟩ := headGone_items cause ha head
      exact inSlot_withdrawn (ends e) stands
    | false => exact inSlot_of_lineEnd (lineEnd_goUnassigned_member cause ha head e) stands

/-- Two frames placed at opposite Ends stand in both slots. -/
theorem place_both (s : State) (e : EndId) (x : Source) (f g : Frame) :
    (SlotFree s e x → InSlot ((s.place e x f).place e.other x g) e x f)
      ∧ (SlotFree s e.other x → InSlot ((s.place e x f).place e.other x g) e.other x g) := by
  refine ⟨fun free => inSlot_of_lineEnd ?_ (place_inSlot s e x f free),
    fun free => place_inSlot _ _ _ _ (slotFree_of_lineEnd (place_other _ _ _ _) free)⟩
  have opposite := place_other (s.place e x f) e.other x g
  rw [end_other_other] at opposite
  exact opposite

/-- A contest at a COUNTED node: both counts are told, and the node leaves its own (R37). -/
theorem contest_items {r : CountRecord} {c : CountFrame} (hr : s.counted = some r) :
    let t := s.contest r r.headward.other c
    t.inaug = { s.inaug with
        role := .unassigned, inaugurationTimer := none, hopTimer := none, commitWait := none
        lastCause := some .contest }
      ∧ RaisedAt .consistInvalidated t
      ∧ (SlotFree s r.headward .inauguration →
          InSlot t r.headward .inauguration (tallyFrame r.head r.attempt 0 4 []))
      ∧ (SlotFree s r.headward.other .inauguration →
          InSlot t r.headward.other .inauguration (tallyFrame c.head c.attempt 0 4 []))
      ∧ OnlyChanges [.inauguration, .endOf .end1, .endOf .end2, .cycle, .grants, .stages, .portOf .portA, .portOf .portB]
          s t := by
  obtain ⟨near, far⟩ := place_both s r.headward .inauguration (tallyFrame r.head r.attempt 0 4 [])
    (tallyFrame c.head c.attempt 0 4 [])
  generalize hx : (s.place r.headward .inauguration (tallyFrame r.head r.attempt 0 4 [])).place r.headward.other
    .inauguration (tallyFrame c.head c.attempt 0 4 []) = x at near far
  have inaug : x.inaug = s.inaug := by rw [← hx, (place_rest _ _ _ _).1, (place_rest _ _ _ _).1]
  have counted : x.counted = some r := (counted_of_inaug inaug).trans hr
  have runs : s.contest r r.headward.other c = x.goUnassigned .contest := by rw [← hx]; rfl
  simp only
  rw [runs, inaug_goUnassigned_counted _ counted, inaug]
  refine ⟨rfl, raised_goUnassigned_counted _ counted _ (.refl _), fun free => inSlot_goUnassigned _ (near free),
    fun free => inSlot_goUnassigned _ (far free), ?_⟩
  rw [onlyChanges_iff_forget, forget_mono (forget_goUnassigned_counted .contest counted) (by simp [countedLeaving]), ← hx]
  simp

/-- A contest at a head: both counts are told, and the claim ends (R38). -/
theorem headContest_items (s : State) (e : EndId) (c : CountFrame) :
    let t := s.headContest e c
    t.inaug.headRole = .claimFailed .contest ∧ RaisedAt .claimResult t ∧ t.track.outstanding = none
      ∧ t.inaug.role = .unassigned ∧ t.inaug.generation = s.inaug.generation
      ∧ (s.inaug.role ≠ .unassigned → t.inaug.lastCause = some .contest ∧ RaisedAt .consistInvalidated t
          ∧ t.inaug.inaugurationTimer = none ∧ t.inaug.hopTimer = none)
      ∧ (SlotFree s e .inauguration → InSlot t e .inauguration (tallyFrame c.head c.attempt 0 4 []))
      ∧ (SlotFree s e.other .inauguration → InSlot t e.other .inauguration
          (tallyFrame s.power.record.vehicle s.inaug.attempt 0 4 []))
      ∧ OnlyChanges roleBlocks s t := by
  obtain ⟨near, far⟩ := place_both s e .inauguration (tallyFrame c.head c.attempt 0 4 [])
    (tallyFrame s.power.record.vehicle s.inaug.attempt 0 4 [])
  generalize hx : (s.place e .inauguration (tallyFrame c.head c.attempt 0 4 [])).place e.other .inauguration
    (tallyFrame s.power.record.vehicle s.inaug.attempt 0 4 []) = x at near far
  have inaug : x.inaug = s.inaug := by rw [← hx, (place_rest _ _ _ _).1, (place_rest _ _ _ _).1]
  have runs : s.headContest e c = (x.goUnassigned .contest).failClaim .contest := by rw [← hx]; rfl
  obtain ⟨role, generation, left⟩ := goUnassigned_gone x .contest
  rw [inaug] at generation left
  simp only
  rw [runs, failClaim_inaug, failClaim_track]
  refine ⟨rfl, failClaim_raised _ _, rfl, role, generation, fun other => ?_,
    fun free => inSlot_of_lineEnd (failClaim_lineEnd _ _ _) (inSlot_goUnassigned _ (near free)),
    fun free => inSlot_of_lineEnd (failClaim_lineEnd _ _ _) (inSlot_goUnassigned _ (far free)), ?_⟩
  · obtain ⟨cause, raised, timer, hop⟩ := left other
    exact ⟨cause, raised _ (Gentle.refl _).failClaim, timer, hop⟩
  · rw [onlyChanges_iff_forget, ← hx]
    simp [roleBlocks]

/-- Settles O35: the COUNT that is taken, the contest at a COUNTED node, and the contest at a head. -/
theorem aCountIsTakenAndAnswered : Obligations.ACountIsTakenAndAnswered := by
  intro s e f kind c t tail
  have handed : t = s.receiveCount e f.payload := handOn_count kind
  refine ⟨fun invalid => handed.trans (receiveCount_invalid invalid), fun valid claim head fits => ?_,
    fun valid claim head r hr other arrival => ?_, fun valid leads => ?_⟩
  · have takes : t = s.takeCount e c := handed.trans (receiveCount_takes valid claim head fits)
    obtain ⟨⟨silence, cause, taken⟩, -⟩ := taken_items s e c
    have inaug := takeCount_inaug head e c
    obtain ⟨last, still, answers, goes⟩ := takeCount_frames head e c
    obtain ⟨⟨flight, released⟩, stage, power⟩ := takeCount_rest s e c
    have counted : t.counted = some (s.countAnswered e c) := by
      rw [takes]
      exact counted_of_role (by rw [inaug])
    have gentle : Gentle (s.taken e c) (s.takeCount e c) := (Gentle.refl _).answerCount
    refine ⟨by rw [State.updateInProgress, counted]; rfl, fun r hr => ?_, ?_, fun member => ?_, ?_, ?_, ?_, ?_, ?_⟩
    · obtain rfl : s.countAnswered e c = r := Option.some.inj (counted.symm.trans hr)
      rw [takes, rosterEntry_of_power power, inaug]
      exact ⟨rfl, rfl, rfl, rfl, rfl, countRecord_stage s e c, rfl, rfl, last, still, answers, goes⟩
    · rw [takes, inaug, taken]
    · obtain ⟨left, raised⟩ := taken_leaves member e c
      rw [takes, inaug]
      exact ⟨raised _ gentle, left⟩
    · rw [takes]
      exact released
    · rw [takes]
      exact flight
    · rw [takes, stage]
    · rw [takes, stage]
    · rw [takes, onlyChanges_iff_forget]
      simp [roleBlocks]
  · subst arrival
    rw [handed, receiveCount_contest valid claim head hr other rfl]
    exact contest_items hr
  · rw [handed, receiveCount_head valid leads]
    exact headContest_items s e c

end Sys2Proof.Machine

/-! PROOF. Select Position and Select Buffer (R58, R150): O25. -/

namespace Sys2Proof.Machine

variable {s : State} {p : PortId} {need : Need} {check : State → Option Reason} {act : State → State}

/-! ## A port command that sets its own port -/

/-- A command whose action sets fields of its own port is answered DONE, and leaves every other block alone (R171). -/
theorem ownPortCommand (g : Port → Port) (h : Admitted s p need) (passes : check (s.wrote p opcodeAddress) = none)
    (sets : act (s.wrote p opcodeAddress) = (s.wrote p opcodeAddress).modPort p g) :
    (s.plainCommand p need check act).port p
        = (g { (s.port p).reached opcodeAddress with shiftOut := 0xFF }).answer .done none 0
      ∧ OnlyChanges [.portOf p] s (s.plainCommand p need check act) := by
  have runs : s.plainCommand p need check act = ((s.wrote p opcodeAddress).modPort p g).answer p .done none 0 :=
    (command_done s p need check act (fun _ => 0) h passes).trans (by rw [sets])
  rw [runs]
  refine ⟨?_, ?_⟩
  · rw [State.answer, port_modPort_same, port_modPort_same, wrote_port]
  · rw [onlyChanges_iff_forget]
    simp

/-! ## The checks -/

/-- The first of a list of checks decides before the rest (R171). -/
theorem firstReason_cons (c : Prop) [Decidable c] (r : Reason) (rest : List (Bool × Reason)) :
    firstReason ((decide c, r) :: rest) = if c then some r else firstReason rest := by
  by_cases met : c
  · rw [decide_eq_true met, if_pos met]; rfl
  · rw [decide_eq_false met, if_neg met]; rfl

/-- Select Position takes 1 to 32 (R58). -/
theorem positionCheck_eq (s : State) (p : PortId) :
    positionCheck p s = if 1 ≤ s.operandNum p 1 ∧ s.operandNum p 1 ≤ 32 then none else some .range := by
  rw [positionCheck, firstReason_cons, ite_not]
  rfl

/-- Select Buffer takes a buffer number first, and then a buffer that the port holds (R150). -/
theorem selectBufferCheck_eq (s : State) (p : PortId) :
    selectBufferCheck p s = if 95 < s.operandNum p 1 then some .range
      else if s.bufferState (s.operandNum p 1) = .held p then none else some .notHeld := by
  rw [selectBufferCheck, firstReason_cons, firstReason_cons, ite_not]
  rfl

theorem bufferState_wrote (s : State) (p : PortId) (a n : Nat) : (s.wrote p a).bufferState n = s.bufferState n := by
  cases p <;> rfl

/-! ## The selections -/

/-- Settles O25: the position and the buffer that are taken, and the operands that are refused. -/
theorem selectionsNameAPositionAndAHeldBuffer : Obligations.SelectionsNameAPositionAndAHeldBuffer := by
  intro s p h
  have position := positionCheck_eq (s.wrote p opcodeAddress) p
  have buffer := selectBufferCheck_eq (s.wrote p opcodeAddress) p
  rw [wrote_operandNum] at position buffer
  rw [bufferState_wrote] at buffer
  refine ⟨fun fits => ?_, fun beyond => ?_, fun names held => ?_, fun beyond => ?_, fun names other => ?_⟩
  · obtain ⟨own, rest⟩ := ownPortCommand (check := positionCheck p)
      (act := fun s => s.modPort p fun t => { t with selectedPosition := s.operandNum p 1 })
      (fun t => { t with selectedPosition := s.operandNum p 1 }) h (position.trans (if_pos fits))
      (by rw [wrote_operandNum])
    refine ⟨_, rfl, ?_, rest⟩
    rw [own]
    rfl
  · exact ⟨_, rfl, command_refused s p _ _ _ _ h .range (position.trans (if_neg beyond))⟩
  · obtain ⟨own, rest⟩ := ownPortCommand (check := selectBufferCheck p)
      (act := fun s => s.select p (some (s.operandNum p 1)))
      (fun t => { t with selectedBuffer := some (s.operandNum p 1) }) h
      (buffer.trans ((if_neg (Nat.not_lt.2 names)).trans (if_pos held)))
      (by rw [wrote_operandNum, State.select])
    refine ⟨_, rfl, ?_, rest⟩
    rw [own]
    rfl
  · exact ⟨_, rfl, command_refused s p _ _ _ _ h .range (buffer.trans (if_pos beyond))⟩
  · exact ⟨_, rfl, command_refused s p _ _ _ _ h .notHeld
      (buffer.trans ((if_neg (Nat.not_lt.2 names)).trans (if_neg other)))⟩

end Sys2Proof.Machine

/-! PROOF. Set Line Timing (R61, R81, R84): O45. -/

namespace Sys2Proof.Machine

variable {s : State} {p : PortId} {v : LineTiming}

/-! ## A CALL asked for -/

theorem requestCall_inaug (s : State) : s.requestCall.inaug = s.inaug := by
  unfold State.requestCall
  split <;> rfl

/-- A CALL is asked for at a head alone (R81). -/
theorem requestCall_cycle (s : State) :
    s.requestCall.cycle = { s.cycle with callRequested := s.cycle.callRequested || s.heading } := by
  unfold State.requestCall
  cases head : s.heading with
  | true => rw [Bool.or_true]; rfl
  | false => rw [Bool.or_false]; rfl

/-! ## The settings in force -/

/-- A node with its Line Timing set and, at a head, the Line Silence in force, before a CALL is asked for (R61, R84). -/
def State.timed (s : State) (v : LineTiming) : State :=
  match s.active with
  | some a => if s.heading then (s.modCycle fun c => { c with timing := v }).setLineSilence a v.lineSilence
    else s.modCycle fun c => { c with timing := v }
  | none => s.modCycle fun c => { c with timing := v }

/-- Setting Continuous Only asks for a CALL (R81). -/
theorem setLineTiming_eq (s : State) (v : LineTiming) : s.setLineTiming v =
    if v.continuousOnly && !s.cycle.timing.continuousOnly then (s.timed v).requestCall else s.timed v := rfl

theorem timed_cycle (s : State) (v : LineTiming) : (s.timed v).cycle = { s.cycle with timing := v } := by
  unfold State.timed
  split
  · split <;> rfl
  · rfl

theorem timed_heading (s : State) (v : LineTiming) : (s.timed v).heading = s.heading := by
  unfold State.timed
  split
  · split <;> rfl
  · rfl

theorem timed_inaug_away (away : s.heading = false) (v : LineTiming) : (s.timed v).inaug = s.inaug := by
  unfold State.timed
  rw [away]
  split <;> rfl

/-- At a head the Line Silence is in force at once (R61). -/
theorem timed_active_head (head : s.heading = true) (v : LineTiming) :
    (s.timed v).active = s.active.map fun a => { a with lineSilence := v.lineSilence } := by
  unfold State.timed
  rw [head]
  cases ha : s.active with
  | some a => rfl
  | none => exact ha

theorem setLineTiming_inaug (s : State) (v : LineTiming) : (s.setLineTiming v).inaug = (s.timed v).inaug := by
  rw [setLineTiming_eq]
  split
  · exact requestCall_inaug _
  · rfl

theorem setLineTiming_cycle (s : State) (v : LineTiming) : (s.setLineTiming v).cycle =
    { s.cycle with
      timing := v
      callRequested := s.cycle.callRequested || (s.heading && v.continuousOnly && !s.cycle.timing.continuousOnly) } := by
  rw [setLineTiming_eq, Bool.and_assoc]
  cases v.continuousOnly && !s.cycle.timing.continuousOnly with
  | true => rw [if_pos rfl, requestCall_cycle, timed_cycle, timed_heading, Bool.and_true]
  | false => rw [if_neg Bool.false_ne_true, timed_cycle, Bool.and_false, Bool.or_false]

theorem setLineTiming_port (s : State) (v : LineTiming) (q : PortId) : (s.setLineTiming v).port q = s.port q :=
  sameBlock_of_forget (L := [.cycle, .inauguration]) (by simp) (.portOf q) (by simp)

/-! ## The command -/

theorem timingOperands_wrote (s : State) (p : PortId) (a : Nat) : timingOperands (s.wrote p a) p = timingOperands s p := by
  cases p <;> rfl

/-- What Set Line Timing does at a port whose operands keep the ranges and limits (R84, R171). -/
theorem setLineTiming_command (h : Admitted s p (some .door)) (fits : (timingOperands s p).inRange = true) :
    exec (.setLineTiming p) s =
        .next (((s.wrote p opcodeAddress).setLineTiming (timingOperands s p)).answer p .done none 0)
      ∧ DoneAt p [.cycle, .inauguration] s
          (((s.wrote p opcodeAddress).setLineTiming (timingOperands s p)).answer p .done none 0) := by
  have check : firstReason [(!(timingOperands (s.wrote p opcodeAddress) p).inRange, .range)] = none := by
    rw [timingOperands_wrote, fits]
    rfl
  have done := command_done s p (some .door) (fun s => firstReason [(!(timingOperands s p).inRange, .range)])
    (fun s => s.setLineTiming (timingOperands s p)) (fun _ => 0) h check
  rw [timingOperands_wrote] at done
  refine ⟨congrArg Host.Outcome.next done, ?_⟩
  rw [← done]
  exact engineDoneAt (act := fun s => s.setLineTiming (timingOperands s p)) _ h check (skel_setLineTiming _ _) (by simp)

theorem setLineTiming_refused (h : Admitted s p (some .door)) (beyond : (timingOperands s p).inRange = false) :
    ∃ t, exec (.setLineTiming p) s = .next t ∧ RefusedAt p .range s t := by
  refine ⟨_, rfl, command_refused s p _ _ _ _ h .range ?_⟩
  rw [timingOperands_wrote, beyond]
  rfl

/-- Settles O45: the five settings that are taken, and what they change at a head and at another node. -/
theorem setLineTimingTakesAllFiveTogether : Obligations.SetLineTimingTakesAllFiveTogether := by
  intro s p h
  refine ⟨fun beyond => setLineTiming_refused h (decide_eq_false beyond), fun fits => ?_⟩
  obtain ⟨runs, done⟩ := setLineTiming_command h (decide_eq_true fits)
  have ports := setLineTiming_port (s.wrote p opcodeAddress) (timingOperands s p)
  have cycleT := (answer_rest ((s.wrote p opcodeAddress).setLineTiming (timingOperands s p)) p .done none 0).2.1
  have inaugT := answer_inaug ((s.wrote p opcodeAddress).setLineTiming (timingOperands s p)) p .done none 0
  have flagsT (q : PortId) := answer_flags ((s.wrote p opcodeAddress).setLineTiming (timingOperands s p)) p q .done none 0
  obtain ⟨-, cycleW, inaugW, -, -⟩ := wrote_rest s p opcodeAddress
  have headW := heading_of_inaug inaugW
  rw [setLineTiming_cycle, cycleW, headW] at cycleT
  rw [setLineTiming_inaug] at inaugT
  refine ⟨_, runs, congrArg Cycle.timing cycleT, done, fun q => ?_, cycleT, fun away => ?_, fun head => ?_⟩
  · rw [flagsT, ports, wrote_flags]
  · rw [inaugT, timed_inaug_away (headW.trans away), inaugW]
  · rw [active_of_inaug inaugT, timed_active_head (headW.trans head), active_of_inaug inaugW]
    rfl

end Sys2Proof.Machine

/-! SUPPORT. What a check of the record sources leaves of a node: the Cycle source of both Ends, and the cycle but for its
requests (R12, R82, R83). -/

namespace Sys2Proof.Machine

variable {s t u : State}

/-- A changed record may have been told: a WAKE may have gone to its own slot or its flag into a WAKE that waits, and a CALL
may have been asked for (R82, R83). -/
structure RecordTold (s t : State) : Prop where
  slots : CycleSlotsKept s t
  cycle : ∃ b c, t.cycle = { s.cycle with statusRaised := b, callRequested := c }

theorem RecordTold.of_same (cycle : t.cycle = s.cycle) (ends : ∀ d, t.lineEnd d = s.lineEnd d) : RecordTold s t :=
  ⟨cycleSlotsKept_of_ends ends, s.cycle.statusRaised, s.cycle.callRequested, cycle⟩

/-- An operation that reaches neither the cycle nor the Ends. -/
theorem RecordTold.of_forget {L : List Block} (h : t.forget L = s.forget L) (hc : Block.cycle ∉ L)
    (hE : ∀ d, Block.endOf d ∉ L) : RecordTold s t :=
  .of_same (sameBlock_of_forget h .cycle hc) fun d => sameBlock_of_forget h (.endOf d) (hE d)

theorem RecordTold.refl (s : State) : RecordTold s s := .of_same rfl fun _ => rfl

theorem RecordTold.trans (h : RecordTold s t) (k : RecordTold t u) : RecordTold s u := by
  obtain ⟨b, c, cycle⟩ := k.cycle
  obtain ⟨_, _, before⟩ := h.cycle
  exact ⟨h.slots.trans k.slots, b, c, by rw [cycle, before]⟩

theorem RecordTold.lastAppended (h : RecordTold s t) : t.cycle.lastAppended = s.cycle.lastAppended := by
  obtain ⟨b, c, cycle⟩ := h.cycle
  rw [cycle]

theorem RecordTold.lastSettle (h : RecordTold s t) : t.cycle.lastSettle = s.cycle.lastSettle := by
  obtain ⟨b, c, cycle⟩ := h.cycle
  rw [cycle]

theorem RecordTold.usable (h : RecordTold s t) (d : EndId) : t.usable d = s.usable d := by
  unfold State.usable
  rw [(h.slots d).1]

/-- A change within one End that keeps its link and its Cycle slot (R12). -/
theorem cycleSlotsKept_modEnd {e : EndId} {g : LineEnd → LineEnd} (link : (g (s.lineEnd e)).link = (s.lineEnd e).link)
    (slot : (g (s.lineEnd e)).slots.get .cycle = (s.lineEnd e).slots.get .cycle) : CycleSlotsKept s (s.modEnd e g) := by
  intro d
  rcases end_eq_or_other e d with rfl | rfl
  · rw [lineEnd_modEnd_same]
    exact ⟨link, slot⟩
  · rw [lineEnd_modEnd_other]
    exact ⟨rfl, rfl⟩

/-- A Status WAKE waits in the Wake slot or in the Through Queue (R12, R82). -/
theorem statusWake_keepsCycleSlots (s : State) (e : EndId) : CycleSlotsKept s (s.statusWake e) := by
  cases queue : mergeYoungest wakeStatus (s.lineEnd e).throughQueue with
  | some q =>
    rw [statusWake_queue queue]
    exact cycleSlotsKept_modEnd rfl rfl
  | none =>
    cases slot : (s.lineEnd e).slots.wake.slot with
    | some f =>
      rw [statusWake_own queue slot]
      exact cycleSlotsKept_modEnd rfl rfl
    | none =>
      rw [statusWake_place queue slot]
      exact fun d => ⟨link_place _ _ _ _ d, slots_place _ _ _ (by decide) d⟩

theorem sourceChanged_told (s : State) : RecordTold s s.sourceChanged := by
  cases ha : s.active with
  | none =>
    rw [sourceChanged_unassigned ha]
    exact .refl s
  | some a =>
    by_cases differs : s.recordDiffers a
    · cases raised : s.cycle.statusRaised with
      | true =>
        rw [sourceChanged_raised raised]
        exact .refl s
      | false =>
        cases head : s.heading with
        | true =>
          rw [sourceChanged_head ha raised differs head]
          exact ⟨cycleSlotsKept_of_ends fun d => by simp, true, true, rfl⟩
        | false =>
          rw [sourceChanged_member ha raised differs head]
          refine ⟨(cycleSlotsKept_of_ends fun d => by simp).trans (statusWake_keepsCycleSlots _ _), true,
            s.cycle.callRequested, ?_⟩
          rw [statusWake_cycle, modCycle_cycle]
    · rw [sourceChanged_settled ha (.inr differs)]
      exact .refl s

end Sys2Proof.Machine

/-! PROOF. A SETTLE at a node (R79, R133, R136): O55. -/

namespace Sys2Proof.Machine

variable {s t : State}

/-! ## A grant that a member takes -/

theorem ceilingFromGrant_hold (s : State) : s.ceilingFromGrant 255 = s := if_pos rfl

theorem takeGrant_hold (s : State) : s.takeGrant 255 = s := if_pos rfl

theorem ceilingFromGrant_taken {n : Nat} (h : n ≠ 255) : s.ceilingFromGrant n =
    (s.modStage fun d => { d with ceiling := n, fallback := false }).recomputeTarget (decide (s.stage.ceiling < n)) :=
  if_neg h

theorem recomputeTarget_told (s : State) (risen : Bool) : RecordTold s (s.recomputeTarget risen) :=
  (RecordTold.of_forget (L := [.stages]) (by simp) (by simp) (by simp)).trans
    (sourceChanged_told (s.applyTarget s.newTarget risen))

theorem ceilingFromGrant_told (s : State) (n : Nat) : RecordTold s (s.ceilingFromGrant n) := by
  by_cases hold : n = 255
  · rw [hold, ceilingFromGrant_hold]
    exact .refl s
  · have sets : RecordTold s (s.modStage fun d => { d with ceiling := n, fallback := false }) :=
      .of_forget (L := [.stages]) (by simp) (by simp) (by simp)
    rw [ceilingFromGrant_taken hold]
    exact sets.trans (recomputeTarget_told _ _)

/-- The blocks that a Taken Grant reaches (R133). -/
def takenGrantBlocks : List Block := [.grants, .portOf .portA, .portOf .portB]

theorem forget_takeGrant_own (s : State) (n : Nat) : (s.takeGrant n).forget takenGrantBlocks = s.forget takenGrantBlocks := by
  unfold State.takeGrant
  split
  · rfl
  · split
    · rfl
    · simp [takenGrantBlocks]

theorem takeGrant_told (s : State) (n : Nat) : RecordTold s (s.takeGrant n) :=
  .of_forget (forget_takeGrant_own s n) (by simp [takenGrantBlocks]) (by simp [takenGrantBlocks])

/-- A grant other than HOLD is the Taken Grant, whether it was so before or not (R133). -/
theorem takeGrant_taken {n : Nat} (h : n ≠ 255) : (s.takeGrant n).grants = { s.grants with takenGrant := some n } := by
  unfold State.takeGrant
  rw [if_neg h]
  split
  · next same => rw [← same]
  · rw [grants_raise]
    rfl

/-- A grant other than the Taken Grant is told (R133). -/
theorem takeGrant_raised {n : Nat} (h : n ≠ 255) (differs : s.grants.takenGrant ≠ some n) :
    RaisedAt .grantChanged (s.takeGrant n) := by
  unfold State.takeGrant
  rw [if_neg h, if_neg differs]
  exact (Gentle.refl _).raised

theorem raisedAt_place {e : EndId} {x : Source} {f : Frame} {c : Cause} (h : RaisedAt c s) : RaisedAt c (s.place e x f) := by
  unfold State.place
  split
  · exact h
  · intro q
    refine Eq.trans ?_ (h q)
    cases e <;> rfl

theorem active_of_awake (awake : s.asleep = false) (loaded : s.loading = false) : s.power.state = .active := by
  unfold State.asleep at awake
  unfold State.loading at loaded
  cases state : s.power.state with
  | active => rfl
  | loading => rw [state] at loaded; cases loaded
  | stabled | waking => rw [state] at awake; cases awake

/-- The Ceiling becomes the grant, and the target follows (R136, R139). -/
theorem aims_ceilingFromGrant {n : Nat} (h : n ≠ 255) : (s.ceilingFromGrant n).aims =
    (n, false, s.stage.demand, (s.modStage fun d => { d with ceiling := n, fallback := false }).newTarget) := by
  rw [ceilingFromGrant_taken h, aims_recomputeTarget]
  rfl

/-! ## The SETTLE in use -/

/-- The node with a Last Settle, before it takes the grant (R79). -/
def State.settled (s : State) (l : LastSettle) : State := s.modCycle fun c => { c with lastSettle := some l }

theorem useSettle_eq (s : State) (l : LastSettle) :
    s.useSettle l = ((s.settled l).ceilingFromGrant l.grant).takeGrant l.grant := rfl

theorem useSettle_told (s : State) (l : LastSettle) : RecordTold (s.settled l) (s.useSettle l) :=
  (ceilingFromGrant_told _ _).trans (takeGrant_told _ _)

theorem useSettle_lastSettle (s : State) (l : LastSettle) : (s.useSettle l).cycle.lastSettle = some l :=
  (useSettle_told s l).lastSettle

theorem useSettle_keepsCycleSlots (s : State) (l : LastSettle) : CycleSlotsKept s (s.useSettle l) :=
  (cycleSlotsKept_of_ends fun d => by simp [State.settled]).trans (useSettle_told s l).slots

/-- HOLD leaves the Ceiling and the Taken Grant (R131, R133, R136). -/
theorem useSettle_hold {l : LastSettle} (hold : l.grant = 255) : s.useSettle l = s.settled l := by
  rw [useSettle_eq, hold, ceilingFromGrant_hold, takeGrant_hold]

/-- A grant is the Ceiling, the cap of the target and the Taken Grant (R133, R136, R139). -/
theorem useSettle_grant {l : LastSettle} (h : l.grant ≠ 255) :
    let t := s.useSettle l
    t.stage.ceiling = l.grant ∧ t.stage.fallback = false
      ∧ t.grants = { s.grants with takenGrant := some l.grant }
      ∧ (s.grants.takenGrant ≠ some l.grant → RaisedAt .grantChanged t)
      ∧ (s.asleep = false → s.loading = false → t.stage.target
          = highestLevel s.power.record.powers.toList (min l.grant s.stage.demand) s.power.record.stageCount) := by
  have aims := aims_ceilingFromGrant (s := s.settled l) h
  have stage : (s.useSettle l).stage = ((s.settled l).ceilingFromGrant l.grant).stage :=
    sameBlock_of_forget (forget_takeGrant_own _ _) .stages (by simp [takenGrantBlocks])
  have grants : ((s.settled l).ceilingFromGrant l.grant).grants = s.grants :=
    sameBlock_of_forget (L := [.cycle, .stages, .endOf .end1, .endOf .end2]) (by simp [State.settled]) .grants (by simp)
  unfold State.aims at aims
  simp only [Prod.mk.injEq] at aims
  obtain ⟨ceiling, fallback, -, target⟩ := aims
  simp only
  rw [stage]
  refine ⟨ceiling, fallback, ?_, fun differs => ?_, fun awake loaded => ?_⟩
  · rw [useSettle_eq, takeGrant_taken h, grants]
  · rw [useSettle_eq]
    exact takeGrant_raised h (by rw [grants]; exact differs)
  · exact target.trans (newTarget_of_active
      (s := (s.settled l).modStage fun d => { d with ceiling := l.grant, fallback := false }) (active_of_awake awake loaded))

/-! ## The SETTLE at a node -/

theorem handOn_settle {e : EndId} {f : Frame} (h : f.kind = .settle) : s.handOn e f = s.receiveSettle e f := by
  unfold State.handOn
  rw [h]

/-- A frame that arrived elsewhere than on the head-ward End, or carries another identity, is not of the current consist
(R54). -/
theorem not_current {a : ActiveConsist} {e : EndId} {i : Identity}
    (h : ∀ a, s.active = some a → e ≠ a.headward ∨ i ≠ a.identity) (ha : s.active = some a) :
    ¬(e = a.headward ∧ i = a.identity) := fun ⟨here, same⟩ => (h a ha).elim (· here) (· same)

theorem receiveSettle_elsewhere {e : EndId} {f : Frame}
    (h : ∀ a, s.active = some a → e ≠ a.headward ∨ identityAt f.payload 0 ≠ a.identity) :
    s.receiveSettle e f = s.place e.other .cycle f := by
  unfold State.receiveSettle
  split
  · next a ha => exact if_neg (not_current h ha)
  · rfl

theorem receiveSettle_own {a : ActiveConsist} {f : Frame} (ha : s.active = some a)
    (same : identityAt f.payload 0 = a.identity) : s.receiveSettle a.headward f = s.memberSettles a f := by
  unfold State.receiveSettle
  rw [ha]
  exact if_pos ⟨rfl, same⟩

theorem restartSilence_away (a : ActiveConsist) (away : s.heading = false) :
    s.restartSilence a = s.modInaug fun i => { i with silence := some (s.now + a.lineSilence * 1000) } := by
  unfold State.restartSilence
  rw [away, timerMs_eq]
  rfl

/-- A grant list of another length is not used (R79). -/
theorem memberSettles_unused {a : ActiveConsist} {f : Frame} (h : f.payload.length ≠ 10 + a.length) :
    s.memberSettles a f = (s.restartSilence a).place a.tailward .cycle f := by
  unfold State.memberSettles
  simp only
  rw [if_neg h]
  rfl

theorem memberSettles_used {a : ActiveConsist} {f : Frame} (h : f.payload.length = 10 + a.length) : s.memberSettles a f =
    ((s.restartSilence a).useSettle (memberSettle a f.payload)).place a.tailward .cycle f := by
  unfold State.memberSettles
  simp only
  rw [if_pos h]
  rfl

/-- Settles O55, by the three ways in which a node meets a SETTLE: passed on, not used, used. -/
theorem aSettleSetsTheCeiling : Obligations.ASettleSetsTheCeiling := by
  refine ⟨fun s e f kind elsewhere => ?_, fun s a f kind ha away same short => ?_,
    fun s a f kind ha away same fits => ?_⟩
  · rw [handOn_settle kind, receiveSettle_elsewhere elsewhere]
  · rw [handOn_settle kind, receiveSettle_own ha same, memberSettles_unused short, restartSilence_away a away]
    rfl
  · have runs : s.handOn a.headward f
        = ((s.restartSilence a).useSettle (memberSettle a f.payload)).place a.tailward .cycle f := by
      rw [handOn_settle kind, receiveSettle_own ha same, memberSettles_used fits]
    have frame : OnlyChanges
        [.inauguration, .cycle, .grants, .stages, .endOf .end1, .endOf .end2, .portOf .portA, .portOf .portB] s
        (s.handOn a.headward f) := by
      rw [onlyChanges_iff_forget, handOn_settle kind]
      simp
    rw [restartSilence_away a away] at runs
    generalize hx : s.modInaug (fun i => { i with silence := some (s.now + a.lineSilence * 1000) }) = x at runs
    generalize hl : memberSettle a f.payload = l at runs
    have uses : (x.useSettle l).inaug = x.inaug :=
      sameBlock_of_forget (L := [.cycle, .grants, .stages, .endOf .end1, .endOf .end2, .portOf .portA, .portOf .portB])
        (by simp) .inauguration (by simp)
    obtain ⟨inaug, -, -, cycle, grants, -⟩ := place_rest (x.useSettle l) a.tailward .cycle f
    have stage : ((x.useSettle l).place a.tailward .cycle f).stage = (x.useSettle l).stage :=
      sameBlock_of_forget (L := [.endOf a.tailward]) (by simp) .stages (by simp)
    have grant : l.grant = num8 f.payload (9 + a.position) := by rw [← hl]; rfl
    simp only
    refine ⟨?_, ?_, fun hold => ?_, fun given => ?_, fun free => ?_, frame⟩
    · rw [runs, cycle, useSettle_lastSettle, ← hl]
      rfl
    · rw [runs, inaug, uses, ← hx]
      rfl
    · rw [runs, stage, grants, useSettle_hold (grant.trans hold), ← hx]
      exact ⟨rfl, rfl⟩
    · rw [← grant] at given ⊢
      obtain ⟨ceiling, fallback, taken, told, target⟩ := useSettle_grant (s := x) given
      rw [← hx] at taken told target
      rw [runs, stage, grants, ← hx]
      rw [← hx] at ceiling fallback
      exact ⟨ceiling, fallback, taken, fun differs => raisedAt_place (told differs), target⟩
    · have empty : SlotFree x a.tailward .cycle := slotFree_of_lineEnd (by rw [← hx]; simp) free
      rw [runs]
      exact place_inSlot _ _ _ f ((useSettle_keepsCycleSlots x l).free empty)

end Sys2Proof.Machine

/-! PROOF. A CALL at a node (R61, R62, R70 to R73, R96): O42. -/

namespace Sys2Proof.Machine

variable {s t u : State} {a : ActiveConsist} {e : EndId} {p : List Byte}

/-! ## A side that closes -/

theorem port_raise_twice (x : Port) (c : Cause) : (x.raise c).raise c = x.raise c := by
  unfold Port.raise
  rw [groupBytes_get_set, if_pos rfl, BitVec.or_assoc, BitVec.or_self]
  cases c.group <;> rfl

theorem setSide_self (d : Door) (i : SideId) : d.setSide i (d.side i) = d := by
  cases i <;> rfl

/-- What Head Flags with Standstill clear make of a side: CLOSING with its close timer started where it is RELEASED (R87,
R96). -/
def State.sideClosed (s : State) (i : SideId) : DoorSide :=
  if s.sideState i = .released then
    { state := .closing, closeTimer := some (s.now + s.power.record.closeTimeout * 1000000), overdue := false }
  else s.door.side i

/-- A RELEASED side is CLOSING and has told it, before the records are checked (R82, R86). -/
def State.sideCloses (s : State) (i : SideId) : State :=
  (s.modDoor (·.setSide i (s.sideClosed i))).raise .sideStateChanged

theorem fromReleased_stays {i : SideId} (h : s.sideState i ≠ .released) : s.fromReleased .closing i = s := if_neg h

theorem fromReleased_released {i : SideId} (h : s.sideState i = .released) :
    s.fromReleased .closing i = (s.sideCloses i).sourceChanged := by
  have timer : s.timerMs (s.power.record.closeTimeout * 1000) = some (s.now + s.power.record.closeTimeout * 1000000) := by
    rw [timerMs_eq, Nat.mul_assoc]
  unfold State.fromReleased State.setSide State.sideCloses State.sideClosed
  rw [if_pos h, if_neg (by rw [h]; decide), if_pos h, ← timer]
  rfl

theorem fromReleased_told (s : State) (i : SideId) : RecordTold s (s.fromReleased .closing i) := by
  by_cases h : s.sideState i = .released
  · rw [fromReleased_released h]
    have closes : RecordTold s (s.sideCloses i) :=
      .of_forget (L := [.door, .portOf .portA, .portOf .portB]) (by simp [State.sideCloses]) (by simp) (by simp)
    exact closes.trans (sourceChanged_told _)
  · rw [fromReleased_stays h]
    exact .refl s

theorem fromReleased_door (s : State) (i : SideId) : (s.fromReleased .closing i).door = s.door.setSide i (s.sideClosed i) := by
  by_cases h : s.sideState i = .released
  · rw [fromReleased_released h, show (s.sideCloses i).sourceChanged.door = (s.sideCloses i).door from
      sameBlock_of_forget (L := [.cycle, .endOf .end1, .endOf .end2]) (by simp) .door (by simp), State.sideCloses,
      raise_door]
    rfl
  · rw [fromReleased_stays h, State.sideClosed, if_neg h, setSide_self]

theorem fromReleased_port (s : State) (i : SideId) (q : PortId) : (s.fromReleased .closing i).port q =
    if s.sideState i = .released then (s.port q).raise .sideStateChanged else s.port q := by
  by_cases h : s.sideState i = .released
  · rw [if_pos h, fromReleased_released h, show (s.sideCloses i).sourceChanged.port q = (s.sideCloses i).port q from
      sameBlock_of_forget (L := [.cycle, .endOf .end1, .endOf .end2]) (by simp) (.portOf q) (by simp), State.sideCloses,
      raise_raisedOnly, port_modDoor]
  · rw [if_neg h, fromReleased_stays h]

/-! ## The Head Flags at a node -/

theorem headFlags_moving (s : State) :
    s.headFlags false = (s.fromReleased .closing .side1).fromReleased .closing .side2 := rfl

theorem headFlags_told (s : State) (b : Bool) : RecordTold s (s.headFlags b) := by
  cases b with
  | true => exact .refl s
  | false => exact (fromReleased_told s .side1).trans (fromReleased_told _ .side2)

/-- The second side is as it was when the first one has closed. -/
theorem fromReleased_beside (s : State) : (s.fromReleased .closing .side1).sideState .side2 = s.sideState .side2
    ∧ (s.fromReleased .closing .side1).sideClosed .side2 = s.sideClosed .side2 := by
  have still := forget_fromReleased [.door, .cycle, .endOf .end1, .endOf .end2, .portOf .portA, .portOf .portB] s .closing
    .side1 (by simp) (by simp) (by simp) (by simp)
  have side : (s.fromReleased .closing .side1).door.side .side2 = s.door.side .side2 := by
    rw [fromReleased_door, side_setSide, if_neg (by decide)]
  have state : (s.fromReleased .closing .side1).sideState .side2 = s.sideState .side2 := congrArg DoorSide.state side
  refine ⟨state, ?_⟩
  unfold State.sideClosed
  rw [state, side, show (s.fromReleased .closing .side1).now = s.now from sameBlock_of_forget still .clock (by simp),
    show (s.fromReleased .closing .side1).power = s.power from sameBlock_of_forget still .power (by simp)]

theorem headFlags_door (s : State) :
    (s.headFlags false).door = { s.door with side1 := s.sideClosed .side1, side2 := s.sideClosed .side2 } := by
  rw [headFlags_moving, fromReleased_door, (fromReleased_beside s).2, fromReleased_door]
  rfl

theorem headFlags_port_released (h : ∃ i, s.sideState i = .released) (q : PortId) :
    (s.headFlags false).port q = (s.port q).raise .sideStateChanged := by
  obtain ⟨i, released⟩ := h
  rw [headFlags_moving, fromReleased_port, (fromReleased_beside s).1, fromReleased_port]
  by_cases first : s.sideState .side1 = .released
  · rw [if_pos first, port_raise_twice, ite_self]
  · have second : s.sideState .side2 = .released := by
      cases i with
      | side1 => exact absurd released first
      | side2 => exact released
    rw [if_neg first, if_pos second]

theorem headFlags_port_closed (h : ∀ i, s.sideState i ≠ .released) (q : PortId) : (s.headFlags false).port q = s.port q := by
  rw [headFlags_moving, fromReleased_port, (fromReleased_beside s).1, fromReleased_port, if_neg (h .side1), if_neg (h .side2)]

/-- Every RELEASED side has become CLOSING with its close timer started, which is told, and every other side has stayed (R86,
R87, R96). -/
def ClosesReleased (s t : State) : Prop :=
  t.door = { s.door with side1 := t.door.side1, side2 := t.door.side2 }
    ∧ (∀ i, t.door.side i = s.sideClosed i)
    ∧ ((∃ i, s.sideState i = .released) → RaisedOnly .sideStateChanged s t)
    ∧ ((∀ i, s.sideState i ≠ .released) → NoEvent s t)

theorem closesReleased_of_headFlags (door : t.door = (s.headFlags false).door)
    (ports : ∀ q, t.port q = (s.headFlags false).port q) : ClosesReleased s t := by
  unfold ClosesReleased
  rw [door, headFlags_door]
  refine ⟨rfl, fun i => ?_, fun released q => ?_, fun closed q => ?_⟩
  · cases i <;> rfl
  · rw [ports, headFlags_port_released released]
  · rw [ports, headFlags_port_closed closed]

theorem closesReleased_modInaug {g : Inauguration → Inauguration} (h : ClosesReleased (s.modInaug g) t) :
    ClosesReleased s t := by
  obtain ⟨door, sides, told, quiet⟩ := h
  refine ⟨door, sides, fun released q => ?_, fun closed q => ?_⟩
  · rw [told released, port_modInaug]
  · rw [quiet closed, port_modInaug]

/-! ## A CALL in use -/

/-- The node that has used a CALL of its consist (R61, R62, R96). -/
def State.callUsed (s : State) (a : ActiveConsist) (p : List Byte) : State := s.useCall a (CallHeader.ofPayload p)

/-- The Line Silence in force once a CALL was used (R61). -/
def ActiveConsist.callSilence (a : ActiveConsist) (p : List Byte) : Nat :=
  if 500 ≤ num16 p 9 ∧ num16 p 9 ≤ 10000 then num16 p 9 else a.lineSilence

/-- A member takes the Line Silence of the CALL, restarts its silence timer and uses the Head Flags (R61, R62, R96). -/
theorem callUsed_away (away : s.heading = false) (a : ActiveConsist) (p : List Byte) :
    s.callUsed a p = (s.modInaug fun i => { i with
      role := .member { a with lineSilence := a.callSilence p }
      silence := some (s.now + a.callSilence p * 1000) }).headFlags (hasBit (byteAt p 8) 0) := by
  have restarts := restartSilence_away (s := s.setLineSilence a (a.callSilence p))
    { a with lineSilence := a.callSilence p } away
  exact congrArg (State.headFlags · (hasBit (byteAt p 8) 0)) restarts

theorem callUsed_told (s : State) (a : ActiveConsist) (p : List Byte) : RecordTold s (s.callUsed a p) := by
  have silence : RecordTold s ((s.setLineSilence a (a.callSilence p)).restartSilence
      { a with lineSilence := a.callSilence p }) :=
    .of_forget (L := [.inauguration]) (by simp) (by simp) (by simp)
  exact silence.trans (headFlags_told _ _)

/-- What the use of a CALL leaves at a member that is not the head (R61, R62, R96). -/
theorem callUsed_items (away : s.heading = false) (still : t.forget [.cycle, .endOf .end1, .endOf .end2]
      = (s.callUsed a p).forget [.cycle, .endOf .end1, .endOf .end2]) :
    t.inaug.silence = some (s.now + a.callSilence p * 1000)
      ∧ (hasBit (byteAt p 8) 0 = false → ClosesReleased s t) ∧ (hasBit (byteAt p 8) 0 = true → t.door = s.door) := by
  rw [callUsed_away away] at still
  have door := sameBlock_of_forget still .door (by simp)
  have ports (q : PortId) := sameBlock_of_forget still (.portOf q) (by simp)
  refine ⟨?_, fun moving => ?_, fun standing => ?_⟩
  · rw [show t.inaug = _ from sameBlock_of_forget still .inauguration (by simp)]
    exact congrArg Inauguration.silence (sameBlock_of_forget
      (L := [.door, .cycle, .endOf .end1, .endOf .end2, .portOf .portA, .portOf .portB])
      (forget_headFlags _ _ _ (by simp) (by simp) (by simp) (by simp)) .inauguration (by simp))
  · rw [moving] at door ports
    exact closesReleased_modInaug (closesReleased_of_headFlags door ports)
  · rw [standing] at door
    exact door

/-! ## The answer to a CALL -/

/-- Where a CALL goes from a node, as what, and how the node notes it (R71, R72, R73). -/
structure CallAnswer where
  toward : EndId
  frame : Frame
  role : CallRole

/-- The node answers a CALL (R13, R71, R72). -/
def State.answersCall (s : State) (x : CallAnswer) : State := (s.placeCycle x.toward x.frame).noteCall x.role

theorem answersCall_cycle (s : State) (x : CallAnswer) : (s.answersCall x).cycle = { s.cycle with lastCallRole := x.role } := by
  obtain ⟨-, -, -, cycle, -⟩ := place_rest s x.toward .cycle x.frame
  unfold State.answersCall State.noteCall State.placeCycle
  rw [modCycle_cycle, cycle]

theorem forget_answersCall (s : State) (x : CallAnswer) :
    (s.answersCall x).forget [.cycle, .endOf x.toward] = s.forget [.cycle, .endOf x.toward] := by
  simp [State.answersCall]

theorem forget_answersCall_ends (s : State) (x : CallAnswer) : (s.answersCall x).forget [.cycle, .endOf .end1, .endOf .end2]
    = s.forget [.cycle, .endOf .end1, .endOf .end2] := by
  simp [State.answersCall]

/-- An answer into a free slot stands there, whatever WAKEs the use of the CALL has sent (R14, R71). -/
theorem answersCall_items (kept : CycleSlotsKept s u) (x : CallAnswer) : (u.answersCall x).cycle.lastCallRole = x.role
    ∧ (SlotFree s x.toward .cycle → InSlot (u.answersCall x) x.toward .cycle x.frame) := by
  refine ⟨by rw [answersCall_cycle], fun free => ?_⟩
  have inSlot := place_inSlot u x.toward .cycle x.frame (kept.free free)
  unfold InSlot at inSlot ⊢
  unfold State.answersCall State.noteCall State.placeCycle
  rw [lineEnd_modCycle]
  exact inSlot

/-- A CALL that carries 32 records comes back SHORT (R71, R72). -/
def fullAnswer (e : EndId) (p : List Byte) : CallAnswer :=
  { toward := e, frame := returnOfCall p true, role := .short }

/-- The answer of a placed node to a CALL with its record (R71, R73). -/
def ActiveConsist.placedAnswer (a : ActiveConsist) (onward : Bool) (p : List Byte) : CallAnswer :=
  if a.position = a.length then { toward := a.headward, frame := returnOfCall p false, role := .tail }
  else if onward then { toward := a.tailward, frame := { kind := .call, payload := p }, role := .forwarded }
  else fullAnswer a.headward p

/-- The answer of another node to a CALL with its Unplaced record (R72, R73). -/
def unplacedAnswer (e : EndId) (onward : Bool) (p : List Byte) : CallAnswer :=
  if onward then { toward := e.other, frame := { kind := .call, payload := p }, role := .unplacedForwarded }
  else { toward := e, frame := returnOfCall p true, role := .unplacedShort }

/-- The node with its placed record appended to a CALL that it has used (R70, R71). -/
def State.callRecorded (s : State) (a : ActiveConsist) (p : List Byte) : State :=
  (s.callUsed a p).appended ((s.callUsed a p).placedRecord a.position)

theorem placedCall_full (full : 32 ≤ callRecordCount p) :
    s.placedCall a e p = (s.callUsed a p).answersCall (fullAnswer e p) := if_pos full

theorem placedCall_room (room : callRecordCount p < 32) : s.placedCall a e p = (s.callRecorded a p).answersCall
    (a.placedAnswer (s.usable a.tailward) (p ++ ((s.callRecorded a p).placedRecord a.position).bytes)) := by
  have usable : (s.callRecorded a p).usable a.tailward = s.usable a.tailward := (callUsed_told s a p).usable a.tailward
  rw [← usable]
  unfold ActiveConsist.placedAnswer
  refine (if_neg (Nat.not_le.2 room)).trans ?_
  split
  · rfl
  · cases onward : (s.callRecorded a p).usable a.tailward with
    | true => exact if_pos onward
    | false => exact if_neg (ne_true_of_eq_false onward)

theorem unplacedCall_full (full : 32 ≤ callRecordCount p) : s.unplacedCall e p = s.answersCall (fullAnswer e p) :=
  if_pos full

theorem unplacedCall_room (room : callRecordCount p < 32) :
    s.unplacedCall e p = s.answersCall (unplacedAnswer e (s.usable e.other) (p ++ s.unplacedRecord.bytes)) := by
  unfold State.unplacedCall unplacedAnswer
  refine (if_neg (Nat.not_le.2 room)).trans ?_
  simp only
  split
  · rfl
  · rfl

/-! ## The CALL at a node -/

theorem handOn_call {f : Frame} (h : f.kind = .call) : s.handOn e f = s.receiveCall e f.payload := by
  unfold State.handOn
  rw [h]

theorem receiveCall_own (ha : s.active = some a) (here : e = a.headward) (same : identityAt p 0 = a.identity) :
    s.receiveCall e p = s.placedCall a e p := by
  unfold State.receiveCall
  rw [ha]
  exact if_pos ⟨here, same⟩

theorem receiveCall_elsewhere (h : ∀ a, s.active = some a → e ≠ a.headward ∨ identityAt p 0 ≠ a.identity) :
    s.receiveCall e p = s.unplacedCall e p := by
  unfold State.receiveCall
  split
  · next a ha => exact if_neg (not_current h ha)
  · rfl

/-- Every CALL is answered by a placed node or by an unplaced one (R71, R72). -/
theorem receiveCall_cases (s : State) (e : EndId) (p : List Byte) :
    (∃ a, s.receiveCall e p = s.placedCall a e p) ∨ s.receiveCall e p = s.unplacedCall e p := by
  unfold State.receiveCall
  split
  · next a _ =>
    split
    · exact .inl ⟨a, rfl⟩
    · exact .inr rfl
  · exact .inr rfl

theorem receiveCall_changes (s : State) (e : EndId) (p : List Byte) :
    OnlyChanges [.inauguration, .cycle, .door, .endOf .end1, .endOf .end2, .portOf .portA, .portOf .portB] s
      (s.receiveCall e p) := by
  rw [onlyChanges_iff_forget]
  simp

/-- A CALL that carries 32 records gets none, and comes back SHORT from where it arrived (R71, R72). -/
theorem receiveCall_full (full : 32 ≤ callRecordCount p) :
    (s.receiveCall e p).cycle.lastCallRole = .short
      ∧ (SlotFree s e .cycle → InSlot (s.receiveCall e p) e .cycle (returnOfCall p true))
      ∧ (s.receiveCall e p).cycle.lastAppended = s.cycle.lastAppended := by
  have answered (u : State) (told : RecordTold s u) : (u.answersCall (fullAnswer e p)).cycle.lastCallRole = .short
      ∧ (SlotFree s e .cycle → InSlot (u.answersCall (fullAnswer e p)) e .cycle (returnOfCall p true))
      ∧ (u.answersCall (fullAnswer e p)).cycle.lastAppended = s.cycle.lastAppended := by
    obtain ⟨role, inSlot⟩ := answersCall_items told.slots (fullAnswer e p)
    exact ⟨role, inSlot, by rw [answersCall_cycle, ← told.lastAppended]⟩
  rcases receiveCall_cases s e p with ⟨a, placed⟩ | unplaced
  · rw [placed, placedCall_full full]
    exact answered _ (callUsed_told s a p)
  · rw [unplaced, unplacedCall_full full]
    exact answered s (.refl s)

/-- A CALL gets the record of a placed node, and goes on or comes back (R70, R71, R73). -/
theorem placedCall_room_items (room : callRecordCount p < 32) :
    let t := s.placedCall a a.headward p
    let q := p ++ (t.placedRecord a.position).bytes
    t.cycle.lastAppended = some (t.placedRecord a.position) ∧ t.cycle.statusRaised = false
      ∧ (a.position = a.length → t.cycle.lastCallRole = .tail
        ∧ (SlotFree s a.headward .cycle → InSlot t a.headward .cycle (returnOfCall q false)))
      ∧ (a.position ≠ a.length → s.usable a.tailward = false → t.cycle.lastCallRole = .short
        ∧ (SlotFree s a.headward .cycle → InSlot t a.headward .cycle (returnOfCall q true)))
      ∧ (a.position ≠ a.length → s.usable a.tailward = true → t.cycle.lastCallRole = .forwarded
        ∧ (SlotFree s a.tailward .cycle → InSlot t a.tailward .cycle { kind := .call, payload := q })) := by
  have kept : CycleSlotsKept s (s.callRecorded a p) :=
    (callUsed_told s a p).slots.trans (cycleSlotsKept_of_ends fun d => by simp [State.callRecorded, State.appended])
  have record (x : CallAnswer) : ((s.callRecorded a p).answersCall x).placedRecord a.position
      = (s.callRecorded a p).placedRecord a.position := by
    have still := forget_answersCall (s.callRecorded a p) x
    exact placedRecord_congr _ (sameBlock_of_forget still .door (by simp)) (sameBlock_of_forget still .stages (by simp))
      (sameBlock_of_forget still .power (by simp))
  simp only
  rw [placedCall_room room, record]
  generalize hq : p ++ ((s.callRecorded a p).placedRecord a.position).bytes = q
  refine ⟨by rw [answersCall_cycle]; rfl, by rw [answersCall_cycle]; rfl, fun tail => ?_, fun inner stuck => ?_,
    fun inner onward => ?_⟩
  · rw [ActiveConsist.placedAnswer, if_pos tail]
    exact answersCall_items kept _
  · rw [ActiveConsist.placedAnswer, if_neg inner, if_neg (by rw [stuck]; decide)]
    exact answersCall_items kept (fullAnswer a.headward q)
  · rw [ActiveConsist.placedAnswer, if_neg inner, if_pos onward]
    exact answersCall_items kept _

/-- A CALL gets an Unplaced record, and goes on or comes back (R72, R73). -/
theorem unplacedCall_room_items (room : callRecordCount p < 32) :
    let t := s.unplacedCall e p
    let q := p ++ s.unplacedRecord.bytes
    OnlyChanges [.cycle, .endOf .end1, .endOf .end2] s t
      ∧ t.cycle = { s.cycle with lastCallRole := t.cycle.lastCallRole }
      ∧ (s.usable e.other = true → t.cycle.lastCallRole = .unplacedForwarded
        ∧ (SlotFree s e.other .cycle → InSlot t e.other .cycle { kind := .call, payload := q }))
      ∧ (s.usable e.other = false → t.cycle.lastCallRole = .unplacedShort
        ∧ (SlotFree s e .cycle → InSlot t e .cycle (returnOfCall q true))) := by
  have kept : CycleSlotsKept s s := cycleSlotsKept_of_ends fun _ => rfl
  simp only
  rw [unplacedCall_room room]
  refine ⟨?_, by rw [answersCall_cycle], fun onward => ?_, fun stuck => ?_⟩
  · rw [onlyChanges_iff_forget]
    exact forget_answersCall_ends _ _
  · rw [unplacedAnswer, if_pos onward]
    exact answersCall_items kept _
  · rw [unplacedAnswer, if_neg (by rw [stuck]; decide)]
    exact answersCall_items kept _

/-- Settles O42: a CALL with room for a record at a placed node and at another, and a CALL that is full at both. -/
theorem aCallCollectsTheNodesRecord : Obligations.ACallCollectsTheNodesRecord := by
  refine ⟨fun s e f kind room => ⟨fun a ha away here same => ?_, fun elsewhere => ?_⟩, fun s e f kind full =>
    ⟨?_, ?_, ?_, fun a ha away here same => ?_, fun elsewhere => ?_⟩⟩
  · subst here
    have frame := receiveCall_changes s a.headward f.payload
    simp only
    rw [handOn_call kind]
    rw [receiveCall_own ha rfl same] at frame ⊢
    have used : (s.placedCall a a.headward f.payload).forget [.cycle, .endOf .end1, .endOf .end2]
        = (s.callUsed a f.payload).forget [.cycle, .endOf .end1, .endOf .end2] := by
      rw [placedCall_room room, forget_answersCall_ends]
      simp [State.callRecorded]
    obtain ⟨silence, closes, stays⟩ := callUsed_items away used
    obtain ⟨appended, raised, tail, stuck, onward⟩ := placedCall_room_items (s := s) (a := a) room
    exact ⟨appended, raised, silence, closes, stays, frame, tail, stuck, onward⟩
  · simp only
    rw [handOn_call kind, receiveCall_elsewhere elsewhere]
    exact unplacedCall_room_items room
  · rw [handOn_call kind]
    exact (receiveCall_full full).1
  · rw [handOn_call kind]
    exact (receiveCall_full full).2.1
  · rw [handOn_call kind]
    exact (receiveCall_full full).2.2
  · have frame := receiveCall_changes s e f.payload
    simp only
    rw [handOn_call kind]
    rw [receiveCall_own ha here same, placedCall_full full] at frame ⊢
    obtain ⟨silence, closes, stays⟩ := callUsed_items away
      (forget_answersCall_ends (s.callUsed a f.payload) (fullAnswer e f.payload))
    exact ⟨silence, closes, stays, frame⟩
  · simp only
    rw [handOn_call kind, receiveCall_elsewhere elsewhere, unplacedCall_full full, onlyChanges_iff_forget]
    exact ⟨answersCall_cycle s _, forget_answersCall s _⟩

end Sys2Proof.Machine

/-! PROOF. The pace of the roll cycle, and WAKEs at a head, passing and produced (R12, R15, R49, R80, R81, R83): O44. -/

namespace Sys2Proof.Machine

variable {s t : State}

/-! ## The timers of the pace -/

theorem exec_periodTimerExpiry {d : Nat} (free : s.power.held = false) (hd : s.cycle.periodTimer = some d) :
    exec .periodTimerExpiry s = .next ((s.reach d).modCycle fun c => { c with periodTimer := none }) := by
  show Host.Outcome.next (s.live fun s => s.periodExpiry) = _
  rw [live_of_free _ _ free, State.periodExpiry, hd, expire_some]

theorem exec_refreshTimerExpiry {d : Nat} (free : s.power.held = false) (hd : s.cycle.refreshTimer = some d) :
    exec .refreshTimerExpiry s = .next ((s.reach d).modCycle fun c => { c with refreshTimer := none }) := by
  show Host.Outcome.next (s.live fun s => s.refreshExpiry) = _
  rw [live_of_free _ _ free, State.refreshExpiry, hd, expire_some]

/-- In IDLE_CONTINUOUS the next CALL is due when the period is over and no SETTLE waits (R80). -/
theorem callDue_continuous {a : ActiveConsist} (head : s.heading = true) (idle : s.cycle.state = .idleContinuous)
    (ended : s.cycle.periodTimer = none) (left : s.settleWaits a = false) : s.callDue a = true := by
  unfold State.callDue
  rw [head, ended, idle]
  simp [left]

/-- In IDLE_QUIET the next CALL is due when the refresh time is over (R81). -/
theorem callDue_quiet {a : ActiveConsist} (head : s.heading = true) (idle : s.cycle.state = .idleQuiet)
    (ended : s.cycle.periodTimer = none) (refresh : s.cycle.refreshTimer = none) : s.callDue a = true := by
  unfold State.callDue
  rw [head, ended, idle, refresh]
  simp

theorem settleWaits_congr {a : ActiveConsist} (h : t.lineEnd a.tailward = s.lineEnd a.tailward) :
    t.settleWaits a = s.settleWaits a := by
  unfold State.settleWaits
  rw [h]

/-! ## A WAKE at a head -/

theorem handOn_wake_head {e : EndId} {f : Frame} (h : f.kind = .wake) (head : s.heading = true) :
    s.handOn e f = s.headWake f := by
  unfold State.handOn
  rw [h]
  exact if_pos head

theorem headWake_topology {f : Frame} (topology : hasBit (byteAt f.payload 0) 1 = true) : s.headWake f = s.reinaugurate :=
  if_pos topology

theorem headWake_status {f : Frame} (topology : hasBit (byteAt f.payload 0) 1 = false)
    (status : hasBit (byteAt f.payload 0) 0 = true) (head : s.heading = true) :
    s.headWake f = s.modCycle fun c => { c with callRequested := true } := by
  unfold State.headWake State.requestCall
  simp only [topology, status, head]
  rfl

theorem headWake_plain {f : Frame} (topology : hasBit (byteAt f.payload 0) 1 = false)
    (status : hasBit (byteAt f.payload 0) 0 = false) : s.headWake f = s := by
  unfold State.headWake
  simp only [topology, status]
  rfl

/-! ## A WAKE that the node produces -/

theorem produceWake_place {e : EndId} {v : Byte} (h : ∀ f ∈ (s.lineEnd e).throughQueue, f.kind ≠ .wake) :
    s.produceWake e v = s.place e .wake (wakeFrame v) := by
  unfold State.produceWake
  rw [mergeYoungest_none h]

theorem produceWake_merge {e : EndId} {v : Byte} {i : Nat} {f : Frame} (hi : (s.lineEnd e).throughQueue[i]? = some f)
    (hf : f.kind = .wake) (young : ∀ g ∈ (s.lineEnd e).throughQueue.drop (i + 1), g.kind ≠ .wake) :
    s.produceWake e v
      = s.modEnd e fun l => { l with throughQueue := (s.lineEnd e).throughQueue.set i (mergeWake f v) } := by
  unfold State.produceWake
  rw [mergeYoungest_youngest hi hf young]

/-! ## A WAKE that passes through -/

theorem handOn_wake_away {e : EndId} {f : Frame} (h : f.kind = .wake) (away : s.heading = false) :
    s.handOn e f = s.passWake e.other f := by
  unfold State.handOn
  rw [h]
  exact if_neg (by rw [away]; decide)

/-- The flags of a WAKE, 0 where there is none (R12). -/
def flagsOf (g : Option Frame) : Byte := (g.map fun x => byteAt x.payload 0).getD 0

theorem wakeFlags_eq (q : SourceSlot) : q.wakeFlags = flagsOf q.slot ||| flagsOf q.held := by
  obtain ⟨slot, held⟩ := q
  cases slot <;> cases held <;> simp [SourceSlot.wakeFlags, SourceSlot.frames, flagsOf]

/-- A slot without frames is the empty one (R14). -/
theorem frames_isEmpty (q : SourceSlot) : q.frames.isEmpty = true ↔ q = .empty := by
  obtain ⟨slot, held⟩ := q
  cases slot <;> cases held <;> simp [SourceSlot.frames, SourceSlot.empty]

/-- A WAKE with the flags of the node's own that wait (R12). -/
def mergedWake (f : Frame) (own : SourceSlot) : Frame :=
  { f with payload := [byteAt f.payload 0 ||| flagsOf own.slot ||| flagsOf own.held] }

/-- The node with its own WAKEs for an End removed (R12). -/
def State.withoutWakes (s : State) (e : EndId) : State := s.modEnd e (·.modSlot .wake fun _ => .empty)

theorem modEnd_unchanged {e : EndId} {g : LineEnd → LineEnd} (h : g (s.lineEnd e) = s.lineEnd e) : s.modEnd e g = s := by
  cases e with
  | end1 => exact congrArg (fun l => { s with end1 := l }) h
  | end2 => exact congrArg (fun l => { s with end2 := l }) h

theorem withoutWakes_none {e : EndId} (own : (s.lineEnd e).slots.wake = .empty) : s.withoutWakes e = s := by
  refine modEnd_unchanged ?_
  unfold LineEnd.modSlot Slots.set
  rw [← own]

theorem lineEnd_withoutWakes (s : State) (e : EndId) :
    (s.withoutWakes e).lineEnd e = { s.lineEnd e with slots := (s.lineEnd e).slots.set .wake .empty } :=
  lineEnd_modEnd_same s e _

theorem port_withoutWakes (s : State) (e : EndId) (q : PortId) : (s.withoutWakes e).port q = s.port q :=
  port_modEnd s e _ q

theorem passWake_alone {e : EndId} {f : Frame} (own : (s.lineEnd e).slots.wake = .empty) :
    s.passWake e f = s.passThrough e f := by
  have none := (frames_isEmpty _).2 own
  show (s.withoutWakes e).passThrough e _ = _
  rw [if_pos none, withoutWakes_none own]

theorem passWake_merges {e : EndId} {f : Frame} (own : (s.lineEnd e).slots.wake ≠ .empty) :
    s.passWake e f = (s.withoutWakes e).passThrough e (mergedWake f (s.lineEnd e).slots.wake) := by
  have waits := mt (frames_isEmpty _).1 own
  show (s.withoutWakes e).passThrough e _ = _
  rw [if_neg waits, mergeWake, wakeFlags_eq, ← BitVec.or_assoc]
  rfl

/-- What a WAKE does at the End it goes toward, where WAKEs of the node's own wait (R12, R15). -/
theorem passWake_merges_items {e : EndId} {f : Frame} (kind : f.kind = .wake) (own : (s.lineEnd e).slots.wake ≠ .empty) :
    let t := s.passWake e f
    let cleared := (s.lineEnd e).slots.set .wake .empty
    let dropped := { s.lineEnd e with slots := cleared, throughDrop := min 255 ((s.lineEnd e).throughDrop + 1) }
    (s.usable e = true → (s.lineEnd e).throughQueue.length < 6 →
      t.lineEnd e = { s.lineEnd e with
        slots := cleared, throughQueue := (s.lineEnd e).throughQueue ++ [mergedWake f (s.lineEnd e).slots.wake] }
      ∧ NoEvent s t)
    ∧ (s.usable e = true → 6 ≤ (s.lineEnd e).throughQueue.length → t.lineEnd e = dropped ∧ RaisedOnly .throughOverflow s t)
    ∧ (s.usable e = false → t.lineEnd e = dropped ∧ NoEvent s t) := by
  have ends := lineEnd_withoutWakes s e
  have ports := port_withoutWakes s e
  have usable : (s.withoutWakes e).usable e = s.usable e := by unfold State.usable; rw [ends]
  have queue : ((s.withoutWakes e).lineEnd e).throughQueue = (s.lineEnd e).throughQueue := by rw [ends]
  simp only
  rw [passWake_merges own, ← usable, ← queue]
  refine ⟨fun u room => ?_, fun u full => ?_, fun u => ?_⟩
  · rw [passThrough_room u room, lineEnd_modEnd_same, ends]
    exact ⟨rfl, fun q => by rw [port_modEnd, ports]⟩
  · rw [passThrough_full u full, lineEnd_raise, lineEnd_modEnd_same, ends]
    refine ⟨rfl, fun q => ?_⟩
    rw [raise_raisedOnly, port_modEnd, ports]
  · have wake : (mergedWake f (s.lineEnd e).slots.wake).kind ≠ .msg := by
      show f.kind ≠ .msg
      rw [kind]
      decide
    rw [passThrough_dropped u fun ⟨_, msg, _⟩ => wake msg, lineEnd_modEnd_same, ends]
    exact ⟨rfl, fun q => by rw [port_modEnd, ports]⟩

/-- A WAKE that passes through touches the End it goes toward, and the event copies (R12, R15). -/
theorem passWake_changes (s : State) (e : EndId) (f : Frame) :
    OnlyChanges [.endOf e, .portOf .portA, .portOf .portB] s (s.passWake e f) := by
  rw [onlyChanges_iff_forget]
  show ((s.withoutWakes e).passThrough e _).forget _ = _
  rw [forget_passThrough_toward _ _ _ _ (by simp) (by simp)]
  exact forget_modEnd _ _ _ _ (by simp)

/-- Settles O44: the two timers, a WAKE at a head by its flags, a WAKE produced, and a WAKE that passes through. -/
theorem paceTimersRunOut : Obligations.PaceTimersRunOut := by
  refine ⟨fun s d free => ⟨fun hd => ?_, fun hd => ?_⟩, fun s e f kind head valid => ?_, fun s e v => ⟨fun none => ?_,
    fun i f hi hf young => ?_⟩, fun s e f kind away => ?_⟩
  · refine ⟨_, exec_periodTimerExpiry free hd, rfl, rfl, ?_, fun a head idle left => ?_⟩
    · rw [onlyChanges_iff_forget]; simp
    · exact callDue_continuous head idle rfl ((settleWaits_congr (s := s) (by simp)).trans left)
  · refine ⟨_, exec_refreshTimerExpiry free hd, rfl, rfl, ?_, fun a head idle ended => ?_⟩
    · rw [onlyChanges_iff_forget]; simp
    · exact callDue_quiet head idle ended rfl
  · obtain ⟨a, ha⟩ := Option.isSome_iff_exists.1 valid
    simp only
    rw [handOn_wake_head kind head]
    refine ⟨fun topology h chosen o => ?_, fun topology status => headWake_status topology status head, headWake_plain⟩
    rw [headWake_topology topology]
    obtain ⟨claims, attempt, -, state, -⟩ := reinaugurate_attempts ha head chosen o
    refine ⟨claims, attempt, (reinaugurate_inaug head chosen o).2, state, (reinaugurate_stops ha head).1, ?_⟩
    rw [onlyChanges_iff_forget]
    simp [roleBlocks]
  · exact produceWake_place none
  · simp only
    rw [produceWake_merge hi hf young, onlyChanges_iff_forget, lineEnd_modEnd_same]
    exact ⟨rfl, forget_modEnd _ _ _ _ (by simp)⟩
  · simp only
    rw [handOn_wake_away kind away]
    refine ⟨passWake_alone, fun own => ?_, fun own => ?_, fun own => ?_, passWake_changes s e.other f⟩
    · obtain ⟨room, -, -⟩ := passWake_merges_items kind own
      exact room
    · obtain ⟨-, full, -⟩ := passWake_merges_items kind own
      exact full
    · obtain ⟨-, -, dropped⟩ := passWake_merges_items kind own
      exact dropped

end Sys2Proof.Machine

/-! SUPPORT. The sides of the coach: what an operation makes of each side, and what it leaves alone (R86 to R97). -/

namespace Sys2Proof.Machine

variable {r s t u : State} {i j : SideId} {st : SideState}

/-! ## Operations that move the sides alone -/

theorem Gentle.trans (h : Gentle r s) (k : Gentle s t) : Gentle r t :=
  ⟨fun e ok => k.ends e (h.ends e ok), fun p => (h.flags p).trans (k.flags p)⟩

/-- The blocks that a side taking a state reaches, the WAKE of its record with it (R82, R86). -/
def sideMoveBlocks : List Block := [.door, .cycle, .endOf .end1, .endOf .end2, .portOf .portA, .portOf .portB]

/-- The sides of the coach may have taken other states, and this was told: of the Door Unit nothing else has changed, no
frame of the Door source has moved, and at a head the Ends are as they were (R82, R83, R86). -/
structure SidesMoved (s t : State) : Prop where
  door : t.door = { s.door with side1 := t.door.side1, side2 := t.door.side2 }
  rest : t.forget sideMoveBlocks = s.forget sideMoveBlocks
  gentle : Gentle s t
  skeleton : t.skeleton = s.skeleton
  slots : ∀ e, (t.lineEnd e).slots.get .door = (s.lineEnd e).slots.get .door
  head : s.heading = true → t.forget headSideBlocks = s.forget headSideBlocks

theorem SidesMoved.refl (s : State) : SidesMoved s s := ⟨rfl, rfl, .refl s, rfl, fun _ => rfl, fun _ => rfl⟩

theorem SidesMoved.inaug (h : SidesMoved s t) : t.inaug = s.inaug :=
  sameBlock_of_forget h.rest .inauguration (by simp [sideMoveBlocks])

theorem SidesMoved.trans (h : SidesMoved s t) (k : SidesMoved t u) : SidesMoved s u :=
  ⟨by rw [k.door, h.door], k.rest.trans h.rest, h.gentle.trans k.gentle, k.skeleton.trans h.skeleton,
    fun e => (k.slots e).trans (h.slots e),
    fun head => (k.head ((heading_of_inaug h.inaug).trans head)).trans (h.head head)⟩

theorem SidesMoved.power (h : SidesMoved s t) : t.power = s.power := skeleton_power h.skeleton
theorem SidesMoved.now (h : SidesMoved s t) : t.now = s.now := skeleton_now h.skeleton
theorem SidesMoved.asleep (h : SidesMoved s t) : t.asleep = s.asleep := skeleton_asleep h.skeleton
theorem SidesMoved.active (h : SidesMoved s t) : t.active = s.active := active_of_inaug h.inaug
theorem SidesMoved.heading (h : SidesMoved s t) : t.heading = s.heading := heading_of_inaug h.inaug
theorem SidesMoved.track (h : SidesMoved s t) : t.track = s.track :=
  sameBlock_of_forget h.rest .tracking (by simp [sideMoveBlocks])
theorem SidesMoved.status (h : SidesMoved s t) : t.door.status = s.door.status := by rw [h.door]
theorem SidesMoved.attended (h : SidesMoved s t) : t.door.attended = s.door.attended := by rw [h.door]
theorem SidesMoved.ready (h : SidesMoved s t) : t.ready = s.ready := by unfold State.ready; rw [h.power]

/-- The check of the record sources places no frame of the Door source (R12, R82). -/
theorem statusWake_doorSlot (s : State) (e d : EndId) :
    ((s.statusWake e).lineEnd d).slots.get .door = (s.lineEnd d).slots.get .door := by
  have own (g : LineEnd → LineEnd) (same : ∀ l, (g l).slots.get .door = l.slots.get .door) :
      ((s.modEnd e g).lineEnd d).slots.get .door = (s.lineEnd d).slots.get .door := by
    rw [lineEnd_modEnd]
    split
    · exact same _
    · rfl
  unfold State.statusWake State.produceWake
  split
  · exact own _ fun _ => rfl
  · split
    · exact own _ fun _ => rfl
    · exact slots_place s e _ (by decide) d

theorem sourceChanged_doorSlot (s : State) (e : EndId) :
    (s.sourceChanged.lineEnd e).slots.get .door = (s.lineEnd e).slots.get .door := by
  unfold State.sourceChanged
  split
  · split
    · split
      · rw [lineEnd_modCycle]
      · rw [statusWake_doorSlot, lineEnd_modCycle]
    · rfl
  · rfl

theorem sourceChanged_door (s : State) : s.sourceChanged.door = s.door :=
  sameBlock_of_forget (L := [.cycle, .endOf .end1, .endOf .end2]) (by simp) .door (by simp)

theorem SidesMoved.sourceChanged (s : State) : SidesMoved s s.sourceChanged :=
  ⟨by rw [sourceChanged_door], by simp [sideMoveBlocks], (Gentle.refl s).sourceChanged, skel_sourceChanged s,
    sourceChanged_doorSlot s, fun head => forget_sourceChanged_head _ head (by simp [headSideBlocks])⟩

/-! ## A side that takes a state -/

/-- The moment at which a close timer started now runs out (R87). -/
def State.closeDeadline (s : State) : Nat := s.now + s.power.record.closeTimeout * 1000000

/-- A side in a state that it has just taken (R86, R87). -/
def State.freshSide (s : State) (st : SideState) : DoorSide :=
  { state := st, closeTimer := if st = .closing then some s.closeDeadline else none, overdue := false }

theorem freshSide_closing (s : State) : s.freshSide .closing =
    { state := .closing, closeTimer := some (s.now + s.power.record.closeTimeout * 1000000), overdue := false } := rfl

theorem SidesMoved.freshSide (h : SidesMoved s t) (st : SideState) : t.freshSide st = s.freshSide st := by
  unfold State.freshSide State.closeDeadline
  rw [h.now, h.power]

theorem setSide_stays (h : s.sideState i = st) : s.setSide i st = s := if_pos h

theorem setSide_moves (h : s.sideState i ≠ st) :
    s.setSide i st = ((s.modDoor (·.setSide i (s.freshSide st))).raise .sideStateChanged).sourceChanged := by
  have timer : s.timerMs (s.power.record.closeTimeout * 1000) = some s.closeDeadline := by
    rw [timerMs_eq, Nat.mul_assoc]; rfl
  unfold State.setSide State.freshSide
  rw [if_neg h, timer]

theorem sidesMoved_setSide (s : State) (i : SideId) (st : SideState) : SidesMoved s (s.setSide i st) := by
  by_cases same : s.sideState i = st
  · rw [setSide_stays same]
    exact .refl s
  · have told : SidesMoved s ((s.modDoor (·.setSide i (s.freshSide st))).raise .sideStateChanged) :=
      ⟨by rw [raise_door]; cases i <;> rfl, by simp [sideMoveBlocks], (Gentle.refl s).modDoor.raise, by simp,
        fun e => by simp, fun _ => by simp [headSideBlocks]⟩
    rw [setSide_moves same]
    exact told.trans (.sourceChanged _)

/-- A side once it is told to take a state: fresh in it, or as it was where it stands in it already (R86). -/
def State.sideTaken (s : State) (st : SideState) (i : SideId) : DoorSide :=
  if s.sideState i = st then s.door.side i else s.freshSide st

theorem side_setSide_at (s : State) (i j : SideId) (st : SideState) :
    (s.setSide i st).door.side j = if j = i then s.sideTaken st i else s.door.side j := by
  unfold State.sideTaken
  by_cases same : s.sideState i = st
  · rw [setSide_stays same, if_pos same]
    split
    · next here => rw [here]
    · rfl
  · rw [setSide_moves same, sourceChanged_door, raise_door, modDoor_door, side_setSide, if_neg same]

/-- A side that takes another state tells it (R86). -/
theorem setSide_told (h : s.sideState i ≠ st) (k : Gentle (s.setSide i st) t) : RaisedAt .sideStateChanged t := by
  rw [setSide_moves h] at k
  exact Gentle.raised ((Gentle.refl _).sourceChanged.trans k)

/-! ## Rules that act on one side -/

/-- An operation `f` follows a rule `g` for a side: it moves no other side, and what `g` makes of a side depends on that
side and on nothing an operation of this kind changes. -/
structure SideRule (f : State → SideId → State) (g : State → SideId → DoorSide) : Prop where
  moved : ∀ s i, SidesMoved s (f s i)
  acts : ∀ s i j, (f s i).door.side j = if j = i then g s i else s.door.side j
  depends : ∀ {s t : State} {i : SideId}, SidesMoved s t → t.door.side i = s.door.side i → g t i = g s i

theorem SideRule.setSide (st : SideState) : SideRule (fun s i => s.setSide i st) (·.sideTaken st) where
  moved s i := sidesMoved_setSide s i st
  acts s i j := side_setSide_at s i j st
  depends h same := by
    unfold State.sideTaken State.sideState
    rw [same, h.freshSide]

theorem sideTaken_moves (h : s.sideState i ≠ st) : s.sideTaken st i = s.freshSide st := if_neg h

theorem state_sideTaken (s : State) (st : SideState) (i : SideId) : (s.sideTaken st i).state = st := by
  unfold State.sideTaken
  split
  · next same => exact same
  · rfl

/-- An operation that acts on a side in some states only follows the rule that does so. -/
theorem SideRule.guarded {f : State → SideId → State} {g : State → SideId → DoorSide} (rule : SideRule f g)
    (c : State → SideId → Bool)
    (hc : ∀ {s t : State} {i : SideId}, SidesMoved s t → t.door.side i = s.door.side i → c t i = c s i) :
    SideRule (fun s i => if c s i then f s i else s) (fun s i => if c s i then g s i else s.door.side i) where
  moved s i := by
    split
    · exact rule.moved s i
    · exact .refl s
  acts s i j := by
    split
    · exact rule.acts s i j
    · split
      · next here => rw [here]
      · rfl
  depends h same := by rw [hc h same, rule.depends h same, same]

/-- Sides taken in turn: each follows the rule once, from where it stood before (R91, R97). -/
theorem SideRule.inTurn {f : State → SideId → State} {g : State → SideId → DoorSide} (rule : SideRule f g) {l : List SideId}
    (once : l.Nodup) (s : State) :
    SidesMoved s (l.foldl f s) ∧ ∀ i, (l.foldl f s).door.side i = if i ∈ l then g s i else s.door.side i := by
  induction l generalizing s with
  | nil => exact ⟨.refl s, fun i => by simp⟩
  | cons k rest ih =>
    obtain ⟨absent, once⟩ := List.nodup_cons.1 once
    obtain ⟨moved, sides⟩ := ih once (f s k)
    refine ⟨(rule.moved s k).trans moved, fun i => ?_⟩
    rw [List.foldl_cons, sides, rule.acts]
    by_cases here : i = k
    · subst here
      simp [absent]
    · simp only [List.mem_cons, here, false_or]
      split
      · rw [rule.depends (rule.moved s k) (by rw [rule.acts, if_neg here])]
      · rfl

/-- Both sides in turn. -/
theorem SideRule.both {f : State → SideId → State} {g : State → SideId → DoorSide} (rule : SideRule f g) (s : State) :
    SidesMoved s (s.bothSides f) ∧ ∀ i, (s.bothSides f).door.side i = g s i := by
  obtain ⟨moved, sides⟩ := rule.inTurn (l := [.side1, .side2]) (by decide) s
  refine ⟨moved, fun i => (sides i).trans (if_pos ?_)⟩
  cases i <;> simp

/-! ## CLOSE and WITHDRAW at a side -/

/-- CLOSE closes a side that is RELEASED, or WITHDRAWN and not Closed-Locked (R93). -/
def State.closes (s : State) (i : SideId) : Prop :=
  s.sideState i = .released ∨ s.sideState i = .withdrawn ∧ s.door.status.closedLocked i = false

/-- A side once CLOSE was applied to it (R93, R97). -/
def State.sideShut (s : State) (i : SideId) : DoorSide :=
  if s.sideState i = .released ∨ s.sideState i = .withdrawn ∧ s.door.status.closedLocked i = false then s.freshSide .closing
  else s.door.side i

theorem sideShut_closes (h : s.closes i) : s.sideShut i = s.freshSide .closing := if_pos h

theorem sideShut_stays (h : ¬s.closes i) : s.sideShut i = s.door.side i := if_neg h

theorem closeSide_closes (h : s.closes i) : s.closeSide i = s.setSide i .closing := by
  unfold State.closeSide
  rcases h with released | ⟨withdrawn, ajar⟩
  · rw [released]
  · rw [withdrawn, ajar]
    rfl

theorem closeSide_stays (h : ¬s.closes i) : s.closeSide i = s := by
  unfold State.closeSide
  split
  · next released => exact absurd (.inl released) h
  · next withdrawn =>
    split
    · rfl
    · next ajar => exact absurd (.inr ⟨withdrawn, by simpa using ajar⟩) h
  · rfl

theorem not_closing_of_closes (h : s.closes i) : s.sideState i ≠ .closing := by
  rcases h with released | ⟨withdrawn, -⟩
  · rw [released]; decide
  · rw [withdrawn]; decide

theorem SideRule.closeSide : SideRule State.closeSide State.sideShut where
  moved s i := by
    by_cases h : s.closes i
    · rw [closeSide_closes h]
      exact sidesMoved_setSide _ _ _
    · rw [closeSide_stays h]
      exact .refl s
  acts s i j := by
    by_cases h : s.closes i
    · rw [closeSide_closes h, side_setSide_at, sideShut_closes h, sideTaken_moves (not_closing_of_closes h)]
    · rw [closeSide_stays h, sideShut_stays h]
      split
      · next here => rw [here]
      · rfl
  depends h same := by
    unfold State.sideShut State.sideState
    rw [same, h.status, h.freshSide]

/-- A side that CLOSE closes tells it (R86, R93). -/
theorem closeSide_told (h : s.closes i) (k : Gentle (s.closeSide i) t) : RaisedAt .sideStateChanged t := by
  rw [closeSide_closes h] at k
  exact setSide_told (not_closing_of_closes h) k

/-- A side that leaves RELEASED for another state, or stays (R88, R89, R93, R95). -/
def State.sideFromReleased (s : State) (st : SideState) (i : SideId) : DoorSide :=
  if decide (s.sideState i = .released) then s.sideTaken st i else s.door.side i

theorem SideRule.fromReleased (st : SideState) : SideRule (fun s i => s.fromReleased st i) (·.sideFromReleased st) := by
  have rule := (SideRule.setSide st).guarded (fun s i => decide (s.sideState i = .released)) fun _ same => by
    unfold State.sideState
    rw [same]
  have acts : (fun (s : State) i => s.fromReleased st i)
      = fun s i => if decide (s.sideState i = .released) = true then s.setSide i st else s := by
    funext s i
    simp only [State.fromReleased, decide_eq_true_eq]
  rw [acts]
  exact rule

theorem SideRule.withdrawSide : SideRule State.withdrawSide (·.sideFromReleased .withdrawn) := SideRule.fromReleased .withdrawn

theorem state_sideWithdrawn (s : State) (i : SideId) : (s.sideFromReleased .withdrawn i).state =
    if s.sideState i = .released then .withdrawn else s.sideState i := by
  unfold State.sideFromReleased
  by_cases released : s.sideState i = .released
  · rw [if_pos (decide_eq_true released), if_pos released, state_sideTaken]
  · rw [if_neg (by simpa using released), if_neg released]
    rfl

/-! ## A reported status at a side -/

/-- A side once the status was reported: a closing ends where the side is Closed-Locked, a release where it is locked out
(R88, steps 3 and 4). -/
def State.sideReported (s : State) (i : SideId) : DoorSide :=
  if s.door.status.closedLocked i = true ∧ s.sideState i = .closing then s.freshSide .withdrawn
  else if s.door.status.lockedOut i = true then s.sideFromReleased .withdrawn i
  else s.door.side i

theorem SideRule.statusSide : SideRule State.statusSide State.sideReported where
  moved s i := by
    unfold State.statusSide
    simp only
    split
    · split
      · exact (sidesMoved_setSide _ _ _).trans (SideRule.withdrawSide.moved _ _)
      · exact sidesMoved_setSide _ _ _
    · split
      · exact SideRule.withdrawSide.moved _ _
      · exact .refl s
  acts s i j := by
    unfold State.statusSide State.sideReported
    by_cases locked : s.door.status.closedLocked i = true ∧ s.sideState i = .closing
    · have ends (k : SideId) : (s.setSide i .withdrawn).door.side k = if k = i then s.freshSide .withdrawn else s.door.side k := by
        rw [side_setSide_at, sideTaken_moves (by rw [locked.2]; decide)]
      have withdrawn : (s.setSide i .withdrawn).withdrawSide i = s.setSide i .withdrawn := by
        refine if_neg ?_
        unfold State.sideState
        rw [ends, if_pos rfl]
        nofun
      simp only [if_pos locked, withdrawn, ite_self, ends]
    · simp only [if_neg locked]
      split
      · exact SideRule.withdrawSide.acts s i j
      · split
        · next here => rw [here]
        · rfl
  depends h same := by
    unfold State.sideReported
    rw [SideRule.withdrawSide.depends h same, h.status, h.freshSide, same]
    unfold State.sideState
    rw [same]

/-! ## An Action at a side -/

theorem SidesMoved.releaseOutcome (h : SidesMoved s t) (b : Bool) (i : SideId) :
    t.releaseOutcome b i = s.releaseOutcome b i := by
  unfold State.releaseOutcome
  rw [h.ready, h.attended, h.status]

/-- A side once the Action of an order was applied to it (R92, R93). -/
def State.sideActed (s : State) (o : DoorOrder) (i : SideId) : DoorSide :=
  match o.action with
  | .release => if s.releaseOutcome o.standstill i = .applied then s.sideTaken .released i else s.door.side i
  | .close => s.sideShut i
  | .withdraw => s.sideFromReleased .withdrawn i

theorem SideRule.release (b : Bool) : SideRule
    (fun s i => if s.releaseOutcome b i = .applied then s.setSide i .released else s)
    (fun s i => if s.releaseOutcome b i = .applied then s.sideTaken .released i else s.door.side i) := by
  have rule := (SideRule.setSide .released).guarded (fun s i => decide (s.releaseOutcome b i = .applied)) fun h _ => by
    rw [h.releaseOutcome]
  simpa only [decide_eq_true_eq] using rule

theorem SideRule.applyAction (o : DoorOrder) : SideRule (fun s i => s.applyAction o i) (·.sideActed o) := by
  unfold State.applyAction State.sideActed
  cases o.action with
  | release => exact SideRule.release o.standstill
  | close => exact SideRule.closeSide
  | withdraw => exact SideRule.withdrawSide

end Sys2Proof.Machine

/-! SUPPORT. The invariant of the doors under each operation of the Door Unit and of the engines around it (R86, R87, R89,
R95). -/

namespace Sys2Proof.Machine

variable {s t u : State} {i : SideId} {may : Bool} {x : DoorSide}

/-! ## The invariant, with the consist set apart -/

/-- What the rules ask of a side `x`, where `may` says whether a side may be RELEASED at all (R86, R87, R183). -/
structure SideHolds (may : Bool) (s : State) (i : SideId) (x : DoorSide) : Prop where
  released : x.state = .released → may = true ∧ s.door.attended = true ∧ s.door.status.lockedOut i = false
  closing : x.state = .closing → x.overdue = x.closeTimer.isNone
  still : x.state ≠ .closing → x.closeTimer = none ∧ x.overdue = false
  asleep : s.asleep = true → x.state = .withdrawn

/-- The invariant of the doors, with the presence of a consist as `may`: so the role of the node is no part of it. -/
def DoorsAt (may : Bool) (s : State) : Prop :=
  (∀ i, SideHolds may s i (s.door.side i)) ∧ s.door.attendanceTimer.isSome = s.door.attended

theorem doorsOk_iff (s : State) : DoorsOk s ↔ DoorsAt s.valid s := by
  constructor
  · rintro ⟨sides, attendance, asleep⟩
    exact ⟨fun i => ⟨(sides i).1, (sides i).2.1, (sides i).2.2, fun z => asleep z i⟩, attendance⟩
  · rintro ⟨sides, attendance⟩
    exact ⟨fun i => ⟨(sides i).released, (sides i).closing, (sides i).still⟩, attendance, fun z i => (sides i).asleep z⟩

/-- A side that meets the rules in one state meets them in another with the same attendance and status. -/
theorem SideHolds.keep (h : SideHolds may s i x) (attended : t.door.attended = s.door.attended)
    (status : t.door.status = s.door.status) (asleep : t.asleep = true → s.asleep = true) : SideHolds may t i x :=
  ⟨by rw [attended, status]; exact h.released, h.closing, h.still, fun z => h.asleep (asleep z)⟩

theorem SideHolds.mono {also : Bool} (h : SideHolds may s i x) (allow : may = true → also = true) : SideHolds also s i x :=
  ⟨fun r => ⟨allow (h.released r).1, (h.released r).2⟩, h.closing, h.still, h.asleep⟩

theorem DoorsAt.mono {also : Bool} (h : DoorsAt may s) (allow : may = true → also = true) : DoorsAt also s :=
  ⟨fun i => (h.1 i).mono allow, h.2⟩

/-- Where no side is RELEASED the role of the node does not matter (R86). -/
theorem DoorsAt.ok (h : DoorsAt false s) : DoorsOk s := (doorsOk_iff s).2 (h.mono nofun)

theorem DoorsAt.member (h : DoorsAt may s) (valid : s.valid = true) : DoorsOk s :=
  (doorsOk_iff s).2 (h.mono fun _ => valid)

/-- At a node without a consist no side is RELEASED (R86). -/
theorem DoorsOk.noConsist (h : DoorsOk s) (none : s.valid = false) : DoorsAt false s := by
  rw [doorsOk_iff, none] at h
  exact h

/-- A step that keeps the doors and the consist. -/
theorem DoorsOk.step (h : DoorsOk s) (valid : t.valid = s.valid) (keeps : ∀ may, DoorsAt may s → DoorsAt may t) : DoorsOk t := by
  rw [doorsOk_iff, valid]
  exact keeps _ ((doorsOk_iff s).1 h)

theorem DoorsAt.same (h : DoorsAt may s) (door : t.door = s.door) (asleep : t.asleep = true → s.asleep = true) : DoorsAt may t :=
  ⟨fun i => by rw [door]; exact (h.1 i).keep (by rw [door]) (by rw [door]) asleep, by rw [door]; exact h.2⟩

theorem valid_of_inaug (h : t.inaug = s.inaug) : t.valid = s.valid := by
  unfold State.valid
  rw [active_of_inaug h]

theorem valid_of_role (h : t.inaug.role = s.inaug.role) : t.valid = s.valid := by
  unfold State.valid State.active
  rw [h]

theorem valid_of_active {a : ActiveConsist} (h : s.active = some a) : s.valid = true := by
  unfold State.valid
  rw [h]
  rfl

theorem not_valid_of_counted {r : CountRecord} (h : s.inaug.role = .counted r) : s.valid = false := by
  unfold State.valid State.active
  rw [h]
  rfl

/-- The blocks that hold nothing of the doors and of the consist. -/
def doorless : List Block :=
  [.clock, .moments, .freeValues, .endOf .end1, .endOf .end2, .cycle, .tracking, .grants, .stages, .messages, .portOf .portA
  , .portOf .portB]

/-- An operation that reaches neither the doors nor the power state, the roles at will. -/
theorem DoorsAt.elsewhere (h : DoorsAt may s) (f : t.forget (.inauguration :: doorless) = s.forget (.inauguration :: doorless)) :
    DoorsAt may t :=
  h.same (sameBlock_of_forget f .door (by simp [doorless]))
    fun z => by rwa [asleep_of_power (sameBlock_of_forget f .power (by simp [doorless]))] at z

theorem DoorsOk.elsewhere (h : DoorsOk s) (f : t.forget doorless = s.forget doorless) : DoorsOk t :=
  h.step (valid_of_inaug (sameBlock_of_forget f .inauguration (by simp [doorless])))
    fun _ k => k.elsewhere (forget_mono f fun _ hb => List.mem_cons_of_mem _ hb)

/-- A change of the Door Unit beside the sides, the attendance and the status. -/
theorem DoorsAt.modDoor {g : Door → Door} (h : DoorsAt may s)
    (hg : ∀ d, (g d).side1 = d.side1 ∧ (g d).side2 = d.side2 ∧ (g d).attended = d.attended
      ∧ (g d).attendanceTimer = d.attendanceTimer ∧ (g d).status = d.status := by exact fun _ => ⟨rfl, rfl, rfl, rfl, rfl⟩) :
    DoorsAt may (s.modDoor g) := by
  obtain ⟨side1, side2, attended, timer, status⟩ := hg s.door
  refine ⟨fun i => ?_, by rw [modDoor_door, timer, attended]; exact h.2⟩
  have same : (s.modDoor g).door.side i = s.door.side i := by cases i <;> assumption
  rw [same]
  exact (h.1 i).keep attended status id

/-! ## Sides that take a state -/

theorem sideHolds_withdrawn (may : Bool) (s : State) (i : SideId) : SideHolds may s i (s.freshSide .withdrawn) :=
  ⟨nofun, nofun, fun _ => ⟨rfl, rfl⟩, fun _ => rfl⟩

theorem sideHolds_closing (may : Bool) (i : SideId) (awake : s.asleep = false) : SideHolds may s i (s.freshSide .closing) :=
  ⟨nofun, fun _ => rfl, fun n => absurd rfl n, fun z => by rw [awake] at z; cases z⟩

theorem sideHolds_released (i : SideId) (awake : s.asleep = false) (attended : s.door.attended = true)
    (free : s.door.status.lockedOut i = false) : SideHolds true s i (s.freshSide .released) :=
  ⟨fun _ => ⟨rfl, attended, free⟩, nofun, fun _ => ⟨rfl, rfl⟩, fun z => by rw [awake] at z; cases z⟩

/-- A RELEASED side stands at a node that is awake (R183). -/
theorem SideHolds.awake (h : SideHolds may s i x) (released : x.state = .released) : s.asleep = false := by
  by_contra z
  have withdrawn := h.asleep (by simpa using z)
  rw [released] at withdrawn
  cases withdrawn

/-- Sides that have moved meet the rules where each of them does. -/
theorem DoorsAt.moved {also : Bool} (h : DoorsAt may s) (moved : SidesMoved s t) (sides : ∀ i, SideHolds also s i (t.door.side i)) :
    DoorsAt also t :=
  ⟨fun i => (sides i).keep moved.attended moved.status (by rw [moved.asleep]; exact id), by rw [moved.door]; exact h.2⟩

/-- Sides taken in turn by a rule that keeps each of them. -/
theorem DoorsAt.inTurn {f : State → SideId → State} {g : State → SideId → DoorSide} {l : List SideId} (h : DoorsAt may s)
    (rule : SideRule f g) (once : l.Nodup) (keeps : ∀ i, SideHolds may s i (g s i)) : DoorsAt may (l.foldl f s) := by
  obtain ⟨moved, sides⟩ := rule.inTurn once s
  refine h.moved moved fun i => ?_
  rw [sides]
  split
  · exact keeps i
  · exact h.1 i

theorem DoorsAt.both {f : State → SideId → State} {g : State → SideId → DoorSide} (h : DoorsAt may s) (rule : SideRule f g)
    (keeps : ∀ i, SideHolds may s i (g s i)) : DoorsAt may (s.bothSides f) :=
  h.inTurn (l := [.side1, .side2]) rule (by decide) keeps

/-- A release taken back meets the rules, whatever they said of the side before. -/
theorem SideHolds.withdraw (h : SideHolds may s i (s.door.side i)) (also : Bool) :
    SideHolds also s i (s.sideFromReleased .withdrawn i) := by
  unfold State.sideFromReleased State.sideTaken
  split
  · next released =>
    rw [if_neg (by rw [of_decide_eq_true released]; decide)]
    exact sideHolds_withdrawn _ _ _
  · next stays => exact ⟨fun released => absurd (decide_eq_true released) stays, h.closing, h.still, h.asleep⟩

theorem DoorsAt.withdrawn (h : DoorsAt may s) (also : Bool) : DoorsAt also (s.bothSides fun s i => s.withdrawSide i) := by
  obtain ⟨moved, sides⟩ := SideRule.withdrawSide.both s
  exact h.moved moved fun i => by rw [sides]; exact (h.1 i).withdraw also

theorem SideHolds.shut (h : SideHolds may s i (s.door.side i)) (awake : s.asleep = false) : SideHolds may s i (s.sideShut i) := by
  unfold State.sideShut
  split
  · exact sideHolds_closing _ _ awake
  · exact h


/-! ## The Door Unit -/

theorem DoorsAt.modTrack {g : Tracking → Tracking} (h : DoorsAt may s) : DoorsAt may (s.modTrack g) :=
  h.elsewhere (by simp [doorless])

theorem DoorsAt.raise {c : Cause} (h : DoorsAt may s) : DoorsAt may (s.raise c) := h.elsewhere (by simp [doorless])

theorem DoorsAt.checkComplete (h : DoorsAt may s) : DoorsAt may s.checkComplete := h.elsewhere (by simp [doorless])

theorem DoorsAt.evaluateProof {n : Nat} {records : List CycleRecord} (h : DoorsAt may s) :
    DoorsAt may (s.evaluateProof n records) := h.elsewhere (by simp [doorless])

theorem DoorsAt.requestCall (h : DoorsAt may s) : DoorsAt may s.requestCall := h.elsewhere (by simp [doorless])

theorem DoorsAt.sourceChanged (h : DoorsAt may s) : DoorsAt may s.sourceChanged := h.elsewhere (by simp [doorless])

theorem DoorsAt.headFlags {b : Bool} (h : DoorsAt may s) : DoorsAt may (s.headFlags b) := by
  unfold State.headFlags
  split
  · exact h
  · refine h.both (SideRule.fromReleased .closing) fun i => ?_
    unfold State.sideFromReleased State.sideTaken
    split
    · next released =>
      rw [if_neg (by rw [of_decide_eq_true released]; decide)]
      exact sideHolds_closing _ _ ((h.1 i).awake (of_decide_eq_true released))
    · exact h.1 i

/-- After the report of a recount or of a leaving no side is RELEASED (R95). -/
theorem DoorsAt.doorReport (h : DoorsAt may s) (also : Bool) : DoorsAt also s.doorReport :=
  (h.withdrawn also).modDoor.sourceChanged

theorem DoorsAt.unprove (h : DoorsAt may s) : DoorsAt may s.unprove := h.elsewhere (by simp [doorless])

theorem DoorsAt.doorLeavesHeading (h : DoorsAt may s) : DoorsAt may s.doorLeavesHeading := h.modDoor.unprove

theorem DoorsAt.doorNewConsist (h : DoorsAt may s) : DoorsAt may s.doorNewConsist :=
  h.modDoor.unprove.modTrack

theorem DoorsAt.doorCommit (h : DoorsAt may s) : DoorsAt may s.doorCommit :=
  DoorsAt.doorNewConsist (h.elsewhere (t := s.emptyOrder) (by simp [doorless]))

theorem DoorsAt.orderLeaves {a : ActiveConsist} {f : Frame} (h : DoorsAt may s) : DoorsAt may (s.orderLeaves a f) := by
  unfold State.orderLeaves
  simp only
  split
  · exact (DoorsAt.modDoor (h.elsewhere (t := s.tickMoment.modTrack _) (by simp [doorless]))).unprove
  · exact h.elsewhere (by simp [doorless])

theorem DoorsAt.placeOrder {a : ActiveConsist} {f : Frame} (h : DoorsAt may s) : DoorsAt may (s.placeOrder a f) := by
  unfold State.placeOrder
  split
  · exact h.orderLeaves
  · exact h.elsewhere (by simp [doorless])

theorem DoorsAt.readEchoes {a : ActiveConsist} {records : List CycleRecord} (h : DoorsAt may s) :
    DoorsAt may (s.readEchoes a records) := by
  unfold State.readEchoes State.repeatOrLose
  simp only
  split
  · split
    · split
      · exact h.modTrack.checkComplete
      · split
        · exact h.modTrack.modTrack.checkComplete
        · exact h.modTrack.modTrack.placeOrder.checkComplete
    · exact h
  · exact h

theorem DoorsAt.doorReturn {a : ActiveConsist} {records : List CycleRecord} (h : DoorsAt may s) :
    DoorsAt may (s.doorReturn a records) := h.modDoor.readEchoes.evaluateProof

/-- CLOSE_TIMER_EXPIRY finds a closing side, for no other has its timer running (R87). -/
theorem DoorsAt.closeTimerExpired {d : Nat} (h : DoorsAt may s) (runs : (s.door.side i).closeTimer = some d) :
    DoorsAt may ((s.modDoor fun d => d.setSide i { d.side i with closeTimer := none, overdue := true }).raise .closeOverdue) := by
  have closing : (s.door.side i).state = .closing := by
    by_contra other
    rw [((h.1 i).still other).1] at runs
    cases runs
  have overdue : DoorsAt may (s.modDoor fun d => d.setSide i { d.side i with closeTimer := none, overdue := true }) := by
    refine ⟨fun j => ?_, by cases i <;> exact h.2⟩
    rw [modDoor_door, side_setSide]
    split
    · next here =>
      subst here
      refine SideHolds.keep (s := s) ⟨fun r => ?_, fun _ => rfl, fun n => absurd closing n, (h.1 _).asleep⟩ ?_ ?_ id
      · exact absurd (closing.symm.trans r) (by decide)
      · cases j <;> rfl
      · cases j <;> rfl
    · exact (h.1 j).keep (by cases i <;> rfl) (by cases i <;> rfl) id
  exact overdue.raise

/-- ATTENDANCE_TIMER_EXPIRY leaves no side RELEASED (R89). -/
theorem DoorsAt.attendanceLapsed (h : DoorsAt may s) : DoorsAt may
    ((((s.modDoor fun d => { d with attended := false, attendanceTimer := none }).sourceChanged).bothSides
      fun s i => s.withdrawSide i).raise .attendanceLapsed) := by
  generalize hu : (s.modDoor fun d => { d with attended := false, attendanceTimer := none }).sourceChanged = u
  have door : u.door = { s.door with attended := false, attendanceTimer := none } := by rw [← hu, sourceChanged_door]; rfl
  have asleep : u.asleep = s.asleep := by rw [← hu, skeleton_asleep (skel_sourceChanged _)]; rfl
  obtain ⟨moved, sides⟩ := SideRule.withdrawSide.both u
  have withdrawn : DoorsAt may (u.bothSides fun s i => s.withdrawSide i) := by
    refine ⟨fun i => ?_, by rw [moved.door, door]; rfl⟩
    have side : u.door.side i = s.door.side i := by rw [door]; cases i <;> rfl
    obtain ⟨-, closing, still, rests⟩ := h.1 i
    rw [sides]
    refine SideHolds.keep (s := u) ?_ moved.attended moved.status (by rw [moved.asleep]; exact id)
    unfold State.sideFromReleased State.sideTaken
    split
    · next released =>
      rw [if_neg (by rw [of_decide_eq_true released]; decide)]
      exact sideHolds_withdrawn _ _ _
    · next stays =>
      exact ⟨fun released => absurd (decide_eq_true released) stays, by rw [side]; exact closing, by rw [side]; exact still,
        by rw [side, asleep]; exact rests⟩
  exact withdrawn.raise

/-- A status that is written makes the node attended and ends the releases that it reports locked out (R88). -/
theorem DoorsAt.writeDoorStatus {x : DoorStatus} (h : DoorsAt may s) : DoorsAt may (s.writeDoorStatus x) := by
  unfold State.writeDoorStatus
  simp only
  generalize hu : State.sourceChanged _ = u
  have door : u.door = { s.door with
      status := x, attended := true, attendanceTimer := s.timerMs (s.power.record.attendance * 10) } := by
    rw [← hu, sourceChanged_door]; rfl
  have asleep : u.asleep = s.asleep := by rw [← hu, skeleton_asleep (skel_sourceChanged _)]; rfl
  obtain ⟨moved, sides⟩ := SideRule.statusSide.both u
  refine ⟨fun i => ?_, by rw [moved.door, door]; rfl⟩
  have side : u.door.side i = s.door.side i := by rw [door]; cases i <;> rfl
  obtain ⟨released, closing, still, rests⟩ := h.1 i
  rw [sides]
  refine SideHolds.keep (s := u) ?_ moved.attended moved.status (by rw [moved.asleep]; exact id)
  unfold State.sideReported State.sideFromReleased State.sideTaken
  split
  · exact sideHolds_withdrawn _ _ _
  · split
    · split
      · next was =>
        rw [if_neg (by rw [of_decide_eq_true was]; decide)]
        exact sideHolds_withdrawn _ _ _
      · next stays =>
        exact ⟨fun released => absurd (decide_eq_true released) stays, by rw [side]; exact closing, by rw [side]; exact still,
          by rw [side, asleep]; exact rests⟩
    · next free =>
      rw [side]
      exact ⟨fun r => ⟨(released r).1, by rw [door], by simpa using free⟩, closing, still, by rw [asleep]; exact rests⟩

theorem once_closeSides (n : Nat) : (closeSides n).Nodup := by
  unfold closeSides
  split
  · decide
  · split
    · decide
    · split <;> decide

theorem once_mapSides (o : Orientation) (y : TrainSide) : (mapSides o y).Nodup := by cases o <;> cases y <;> decide

theorem DoorsAt.localClose {n : Nat} (h : DoorsAt may s) (awake : s.asleep = false) :
    DoorsAt may (s.localClose (closeSides n)) :=
  h.inTurn SideRule.closeSide (once_closeSides n) fun i => (h.1 i).shut awake

/-! ## Orders -/

theorem releaseOutcome_applied {b : Bool} (h : s.releaseOutcome b i = .applied) :
    s.door.attended = true ∧ s.door.status.lockedOut i = false := by
  unfold State.releaseOutcome at h
  split at h
  · cases h
  · split at h
    · cases h
    · split at h
      · cases h
      · next attended =>
        split at h
        · cases h
        · next free => exact ⟨by simpa using attended, by simpa using free⟩

theorem SideHolds.act {o : DoorOrder} (h : SideHolds true s i (s.door.side i)) (awake : s.asleep = false) :
    SideHolds true s i (s.sideActed o i) := by
  unfold State.sideActed
  split
  · split
    · next applied =>
      obtain ⟨attended, free⟩ := releaseOutcome_applied applied
      unfold State.sideTaken
      split
      · exact h
      · exact sideHolds_released _ awake attended free
    · exact h
  · exact h.shut awake
  · exact h.withdraw true

/-- An order taken at a member that is awake (R91, R92). -/
theorem DoorsAt.takeOrder {a : ActiveConsist} {o : DoorOrder} (h : DoorsAt true s) (awake : s.asleep = false) :
    DoorsAt true (s.takeOrder a o) := by
  have noted : DoorsAt true ((s.modDoor fun d =>
      { d with lastOrderId := o.id, lastOutcome := s.orderOutcome a o }).raise .orderReceived).sourceChanged :=
    h.modDoor.raise.sourceChanged
  unfold State.takeOrder
  simp only
  split
  · refine noted.inTurn (SideRule.applyAction o) (once_mapSides _ _) fun i => (noted.1 i).act ?_
    rw [skeleton_asleep (skel_sourceChanged _), asleep_raise]
    exact awake
  · exact noted

theorem DoorsAt.judgeOrder {a : ActiveConsist} {f : Frame} (h : DoorsAt true s) (awake : s.asleep = false) :
    DoorsAt true (s.judgeOrder a f) := by
  have placed : DoorsAt true (s.place a.tailward .door f) := h.elsewhere (by simp [doorless])
  unfold State.judgeOrder
  simp only
  split
  · exact placed
  · split
    · exact placed
    · exact placed.takeOrder (by rw [skeleton_asleep (skel_place _ _ _ _)]; exact awake)

theorem DoorsAt.issue {a : ActiveConsist} {x : DoorAction} {y : TrainSide} {m n : Nat} (h : DoorsAt true s)
    (awake : s.asleep = false) : DoorsAt true (s.issue a x y m n) := by
  have taken {g : Door → Door} {x : Tracking → Tracking} {o : DoorOrder} (k : DoorsAt true (s.modDoor g)) :
      DoorsAt true (((s.modDoor g).modTrack x).checkComplete.takeOrder a o) :=
    k.modTrack.checkComplete.takeOrder (by rw [skeleton_asleep (skel_checkComplete _)]; exact awake)
  unfold State.issue
  simp only
  split
  · exact (taken h.modDoor).placeOrder.unprove.requestCall
  · exact (taken h.modDoor).placeOrder.requestCall

theorem DoorsOk.issue {a : ActiveConsist} {x : DoorAction} {y : TrainSide} {m n : Nat} (h : DoorsOk s)
    (awake : s.asleep = false) (ha : s.active = some a) : DoorsOk (s.issue a x y m n) := by
  have valid := valid_of_active ha
  have may := (doorsOk_iff _).1 h
  rw [valid] at may
  exact (may.issue awake).member ((valid_of_inaug (RolesKept.refl s).issue.inaug).trans valid)

theorem DoorsOk.requestCall (h : DoorsOk s) : DoorsOk s.requestCall := h.elsewhere (by simp [doorless])

theorem DoorsOk.setStandstill {b : Bool} (h : DoorsOk s) (awake : s.asleep = false) : DoorsOk (s.setStandstill b) := by
  have stored : DoorsOk (s.modDoor fun d => { d with headStandstill := b }) := h.step rfl fun _ k => k.modDoor
  unfold State.setStandstill State.automaticClose
  simp only
  split
  · next a ha =>
    split
    · split
      · exact (stored.issue awake ha).requestCall
      · exact stored.requestCall
    · exact stored.requestCall
  · exact stored.requestCall

theorem DoorsOk.issueFromOperands {p : PortId} (h : DoorsOk s) (awake : s.asleep = false) : DoorsOk (s.issueFromOperands p) := by
  unfold State.issueFromOperands
  split
  · next ha => exact h.issue awake ha
  · exact h

end Sys2Proof.Machine

/-! SUPPORT. The invariant of the doors while the node is counted, commits and leaves, and over the cycle of a head (R65, R86,
R95). -/

namespace Sys2Proof.Machine

variable {s t : State} {may : Bool} {r : CountRecord} {a : ActiveConsist} {e : EndId}

/-! ## Where the consist stays -/

/-- An operation of the Door Unit, or of another engine, that keeps the doors: the roles stay as they are. -/
theorem DoorsOk.unit (h : DoorsOk s) (f : t.forget (.door :: doorless) = s.forget (.door :: doorless))
    (keeps : ∀ may, DoorsAt may s → DoorsAt may t) : DoorsOk t :=
  h.step (valid_of_inaug (sameBlock_of_forget f .inauguration (by simp [doorless]))) keeps

/-- An operation that moves items of the Inauguration Engine beside the role. -/
theorem DoorsOk.sameRole (h : DoorsOk s) (role : t.inaug.role = s.inaug.role)
    (f : t.forget (.inauguration :: doorless) = s.forget (.inauguration :: doorless)) : DoorsOk t :=
  h.step (valid_of_role role) fun _ k => k.elsewhere f

theorem DoorsOk.counted (h : DoorsOk s) (role : s.inaug.role = .counted r) : DoorsAt false s := h.noConsist (not_valid_of_counted role)

theorem DoorsOk.placed {x : Source} {f : Frame} (h : DoorsOk s) : DoorsOk (s.place e x f) := h.elsewhere (by simp [doorless])

/-! ## Leaving -/

theorem DoorsAt.modInaug {g : Inauguration → Inauguration} (h : DoorsAt may s) : DoorsAt may (s.modInaug g) :=
  h.elsewhere (by simp [doorless])

theorem DoorsAt.leaveHeading {i : Identity} (h : DoorsAt may s) : DoorsAt may (s.leaveHeading i) := by
  have stops : DoorsAt may (((s.modCycle Cycle.stop).withdrawOwn i .end1).withdrawOwn i .end2) :=
    h.elsewhere (by simp [doorless])
  exact stops.doorLeavesHeading.elsewhere (by simp [State.leaveHeading, doorless])

theorem DoorsAt.reportRecount (h : DoorsAt may s) (also : Bool) : DoorsAt also s.reportRecount :=
  (h.doorReport also).elsewhere (by simp [State.reportRecount, doorless])

/-- A node that has left MEMBER has no side RELEASED, whatever it becomes (R65, R95). -/
theorem DoorsAt.leaveMember {next : NodeRole} {c : LeaveCause} (h : DoorsAt may s) (also : Bool) :
    DoorsAt also (s.leaveMember a next c) := by
  have told : DoorsAt may (((s.modInaug fun i => { i with role := next, silence := none, lastCause := some c }).roleChanged).raise
      .consistInvalidated) := h.elsewhere (by simp [doorless])
  unfold State.leaveMember
  simp only
  split
  · exact (told.reportRecount also).leaveHeading
  · exact told.reportRecount also

theorem DoorsOk.goUnassigned {c : LeaveCause} (h : DoorsOk s) : DoorsAt false (s.goUnassigned c) := by
  unfold State.goUnassigned
  split
  · next none => exact h.noConsist (by simp [State.valid, State.active, none])
  · next counted => exact (h.counted counted).elsewhere (by simp [doorless])
  · next a _ =>
    have left : DoorsAt false (s.leaveMember a .unassigned c) := ((doorsOk_iff s).1 h).leaveMember false
    exact left.elsewhere (by simp [doorless])

theorem DoorsOk.recount (h : DoorsOk s) : DoorsAt false (s.recount r) := by
  have any := (doorsOk_iff s).1 h
  unfold State.recount
  split
  · exact any.leaveMember false
  · exact DoorsAt.reportRecount (any.elsewhere (t := (s.modInaug fun i => { i with role := .counted r }).roleChanged)
      (by simp [doorless])) false
  · exact any.modInaug.reportRecount false

theorem DoorsAt.failClaim {c : ClaimFailure} (h : DoorsAt may s) : DoorsAt may (s.failClaim c) := h.elsewhere (by simp [doorless])

theorem DoorsAt.dropClaim (h : DoorsAt may s) : DoorsAt may s.dropClaim := h.elsewhere (by simp [doorless])

theorem DoorsOk.failClaim {c : ClaimFailure} (h : DoorsOk s) : DoorsOk (s.failClaim c) :=
  h.sameRole (by unfold State.failClaim; rw [raise_inaug]; rfl) (by simp [doorless])

theorem DoorsOk.dropClaim (h : DoorsOk s) : DoorsOk s.dropClaim := h.sameRole rfl (by simp [doorless])

theorem DoorsOk.placeDissolve {n : Nat} (h : DoorsOk s) : DoorsOk (s.placeDissolve e n) := h.placed

/-! ## Committing and attempts -/

theorem DoorsAt.modCycle {g : Cycle → Cycle} (h : DoorsAt may s) : DoorsAt may (s.modCycle g) := h.elsewhere (by simp [doorless])

theorem DoorsAt.placed {x : Source} {f : Frame} (h : DoorsAt may s) : DoorsAt may (s.place e x f) := h.elsewhere (by simp [doorless])

theorem DoorsAt.startHop {x : TallyStage} (h : DoorsAt may s) : DoorsAt may (s.startHop x) :=
  h.elsewhere (by simp [doorless])

theorem DoorsAt.commit {n : Nat} {others : List RosterEntry} {b : Bool} (h : DoorsAt may s) :
    DoorsAt may (s.commit r n others b) := by
  have claims {g : Inauguration → Inauguration} {x : ActiveConsist} : DoorsAt may (((s.modInaug g).roleChanged).grantCommit x) :=
    h.elsewhere (by simp [doorless])
  unfold State.commit
  exact claims.doorCommit.placed.raise.raise.modCycle

theorem DoorsOk.attemptFrom {n : Nat} (h : DoorsOk s) : DoorsAt false (s.attemptFrom e n) := by
  unfold State.attemptFrom
  simp only
  split
  · exact h.recount.modInaug.commit
  · exact h.recount.modInaug.placed.startHop.modInaug

theorem DoorsOk.beginAttempt {n : Nat} (h : DoorsOk s) : DoorsAt false (s.beginAttempt n) := by
  have numbered : DoorsOk (s.modInaug fun i => { i with attempt := n }) := h.sameRole rfl (by simp [doorless])
  unfold State.beginAttempt
  simp only
  split
  · exact numbered.attemptFrom
  · exact numbered.goUnassigned.failClaim

theorem DoorsOk.reinaugurate (h : DoorsOk s) : DoorsOk s.reinaugurate := by
  unfold State.reinaugurate
  split
  · exact h.beginAttempt.ok
  · exact h

theorem DoorsOk.claimCab (h : DoorsOk s) : DoorsOk s.claimCab := by
  unfold State.claimCab
  split
  · exact h.attemptFrom.ok
  · exact h.failClaim

theorem DoorsOk.releaseCab (h : DoorsOk s) : DoorsOk s.releaseCab := by
  unfold State.releaseCab
  split
  · split
    · exact h.placeDissolve.goUnassigned.dropClaim.ok
    · exact h.dropClaim
  · split
    · exact h.placeDissolve.goUnassigned.dropClaim.ok
    · exact h.dropClaim
  · exact h.dropClaim

/-! ## COUNT, TALLY and COMMIT -/

theorem DoorsAt.answerCount (h : DoorsAt may s) : DoorsAt may (s.answerCount r) := h.elsewhere (by simp [doorless])

theorem DoorsOk.takeCount {c : CountFrame} (h : DoorsOk s) : DoorsAt false (s.takeCount e c) := h.recount.modInaug.answerCount

theorem DoorsOk.contest {c : CountFrame} (h : DoorsOk s) : DoorsAt false (s.contest r e c) := h.placed.placed.goUnassigned

theorem DoorsOk.headContest {c : CountFrame} (h : DoorsOk s) : DoorsAt false (s.headContest e c) :=
  h.placed.placed.goUnassigned.failClaim

theorem DoorsOk.receiveCount {p : List Byte} (h : DoorsOk s) : DoorsOk (s.receiveCount e p) := by
  unfold State.receiveCount
  simp only
  split
  · exact h
  · split
    · exact h.headContest.ok
    · split
      · split
        · exact h.contest.ok
        · exact h.takeCount.ok
      · exact h.takeCount.ok

theorem DoorsAt.tailTally {f : TallyFlag} (h : DoorsAt may s) : DoorsAt may (s.tailTally r f) := h.elsewhere (by simp [doorless])

theorem DoorsAt.topologyAlert (h : DoorsAt may s) : DoorsAt may (s.topologyAlert e) := h.elsewhere (by simp [doorless])

theorem DoorsAt.setRecord (h : DoorsAt may s) : DoorsAt may (s.setRecord r) := h.modInaug

theorem DoorsAt.tallyAtNode {f : Frame} (h : DoorsAt false s) : DoorsAt false (s.tallyAtNode r f) := by
  unfold State.tallyAtNode
  split
  · exact h.placed.modInaug.setRecord
  · exact h.placed.ok.goUnassigned
  · split
    · exact h.placed.setRecord
    · exact h
  · split
    · exact h.placed.setRecord
    · exact h

theorem DoorsAt.tallyAtHead {f : Frame} (h : DoorsAt false s) : DoorsAt false (s.tallyAtHead r f) := by
  unfold State.tallyAtHead
  simp only
  split
  · exact h.ok.goUnassigned.failClaim
  · exact h.ok.placeDissolve.goUnassigned.failClaim
  · split
    · exact h.commit
    · exact h
  · split
    · exact h.commit
    · exact h

theorem DoorsOk.receiveTally {f : Frame} (h : DoorsOk s) : DoorsOk (s.receiveTally e f) := by
  unfold State.receiveTally
  split
  · exact h
  · next counted =>
    have rests := h.counted (role_of_counted counted)
    simp only
    split
    · exact h
    · split
      · split
        · exact rests.tallyAtHead.ok
        · exact h
      · split
        · exact rests.tallyAtNode.ok
        · exact h

/-- An accepted COMMIT: no side is RELEASED until an order comes (R43, R99). -/
theorem DoorsAt.acceptCommit {f : Frame} (h : DoorsAt may s) : DoorsAt may (s.acceptCommit r f) := by
  have becomes (g : Inauguration → Inauguration) : DoorsAt may (s.modInaug g).roleChanged := h.elsewhere (by simp [doorless])
  exact (becomes _).doorNewConsist.raise.placed

theorem DoorsOk.leaveWithAlert {c : LeaveCause} (h : DoorsOk s) : DoorsAt false (s.leaveWithAlert e c) :=
  h.goUnassigned.topologyAlert

theorem DoorsOk.rejectCommit {f : Frame} (h : DoorsOk s) : DoorsOk (s.rejectCommit e f) := by
  unfold State.rejectCommit
  simp only
  split
  · exact h.placed
  · split
    · exact h.placed
    · exact h.placed.leaveWithAlert.ok
    · exact h.placed.leaveWithAlert.ok

theorem DoorsOk.receiveDissolve {f : Frame} (h : DoorsOk s) : DoorsOk (s.receiveDissolve e f) := by
  unfold State.receiveDissolve
  split
  · exact h.goUnassigned.ok.placed
  · exact h.placed

theorem DoorsOk.receiveCommit {f : Frame} (h : DoorsOk s) : DoorsOk (s.receiveCommit e f) := by
  unfold State.receiveCommit
  simp only
  split
  · exact h.receiveDissolve
  · split
    · next counted =>
      split
      · exact (h.counted (role_of_counted counted)).acceptCommit.ok
      · exact h.rejectCommit
    · exact h.rejectCommit

/-! ## Reports of the Ends -/

theorem DoorsOk.displace (h : DoorsOk s) : DoorsAt false (s.displace a) := h.placeDissolve.goUnassigned.failClaim

theorem DoorsAt.tailChange {c : EndChange} (h : DoorsAt may s) : DoorsAt may (s.tailChange r c) := h.elsewhere (by simp [doorless])

theorem DoorsAt.reportCounted {c : EndChange} (h : DoorsAt false s) : DoorsAt false (s.reportCounted r c) := by
  unfold State.reportCounted
  split
  · split
    · exact h.ok.goUnassigned
    · exact h
  · simp only
    split
    · exact h.tailChange.topologyAlert
    · exact h.tailChange

theorem DoorsAt.reportClaiming {c : EndChange} (h : DoorsAt false s) : DoorsAt false (s.reportClaiming r c) := by
  unfold State.reportClaiming
  split
  · split
    · exact h.ok.placeDissolve.goUnassigned.failClaim
    · exact h
  · split
    · split
      · exact h.modInaug.setRecord
      · split
        · exact h.commit
        · exact h
    · split
      · exact h.ok.beginAttempt
      · exact h

theorem DoorsOk.reportHeading {c : EndChange} (h : DoorsOk s) : DoorsOk (s.reportHeading a c) := by
  unfold State.reportHeading
  split
  · split
    · exact h.displace.ok
    · exact h
  · split
    · exact h.reinaugurate
    · exact h

theorem DoorsOk.reportMember {c : EndChange} (h : DoorsOk s) : DoorsOk (s.reportMember a c) := by
  unfold State.reportMember
  split
  · split
    · exact h.goUnassigned.ok
    · exact h
  · split
    · exact h.elsewhere (by simp [doorless])
    · exact h

theorem DoorsOk.reportInauguration {c : EndChange} (h : DoorsOk s) : DoorsOk (s.reportInauguration c) := by
  unfold State.reportInauguration
  split
  · exact h
  · next counted =>
    split
    · exact (h.counted counted).reportClaiming.ok
    · exact (h.counted counted).reportCounted.ok
  · split
    · exact h.reportHeading
    · exact h.reportMember

theorem DoorsOk.reportEnd {old : LinkState} (h : DoorsOk s) : DoorsOk (s.reportEnd e old) := by
  have discards : DoorsOk (s.discardOffer e) := h.elsewhere (by simp [doorless])
  unfold State.reportEnd
  simp only
  split
  · exact h
  · exact discards.reportInauguration

/-! ## The cycle -/

theorem DoorsOk.modCycle {g : Cycle → Cycle} (h : DoorsOk s) : DoorsOk (s.modCycle g) := h.elsewhere (by simp [doorless])

theorem DoorsOk.settle {failed : Bool} {records : List CycleRecord} (h : DoorsOk s) : DoorsOk (s.settle a failed records) :=
  h.elsewhere (by simp [doorless])

theorem DoorsOk.useSettle {x : LastSettle} (h : DoorsOk s) : DoorsOk (s.useSettle x) := h.elsewhere (by simp [doorless])

theorem DoorsOk.headFlags {b : Bool} (h : DoorsOk s) : DoorsOk (s.headFlags b) :=
  h.unit (by simp [doorless]) fun _ k => k.headFlags

theorem DoorsOk.grantReturn {records : List CycleRecord} (h : DoorsOk s) : DoorsOk (s.grantReturn a records) :=
  h.elsewhere (by simp [doorless])

theorem DoorsOk.doorReturn {records : List CycleRecord} (h : DoorsOk s) : DoorsOk (s.doorReturn a records) :=
  h.unit (by simp [doorless]) fun _ k => k.doorReturn

theorem DoorsOk.returnFails {c : CycleFailure} {records : List CycleRecord} (h : DoorsOk s) :
    DoorsOk (s.returnFails a c records) := by
  have counts : DoorsOk (s.countFailure c) := h.elsewhere (by simp [doorless])
  unfold State.returnFails
  simp only
  split
  · exact counts.reinaugurate
  · exact counts.elsewhere (by simp [doorless])

theorem DoorsOk.evaluateReturn {short : Bool} {records : List CycleRecord} (h : DoorsOk s) :
    DoorsOk (s.evaluateReturn a short records) := by
  unfold State.evaluateReturn
  split
  · exact h.returnFails
  · exact h.modCycle.doorReturn.grantReturn.settle

theorem DoorsOk.receiveReturn {p : List Byte} (h : DoorsOk s) : DoorsOk (s.receiveReturn e p) := by
  unfold State.receiveReturn
  split
  · split
    · exact h.modCycle.evaluateReturn
    · exact h
  · exact h

theorem DoorsOk.callLeaves (h : DoorsOk s) : DoorsOk (s.callLeaves a) := h.elsewhere (by simp [doorless])

theorem DoorsOk.originate (h : DoorsOk s) : DoorsOk (s.originate a) := by
  unfold State.originate
  simp only
  split
  · exact h.modCycle.headFlags.modCycle.callLeaves.evaluateReturn
  · exact h.modCycle.headFlags.modCycle.placed.modCycle

theorem DoorsOk.callOriginate (h : DoorsOk s) : DoorsOk s.callOriginate := by
  unfold State.callOriginate
  split
  · split
    · exact h.originate
    · exact h
  · exact h

/-- A CALL of the current consist leaves the node a member of it (R61, R71, R96). -/
theorem DoorsOk.useCall {x : CallHeader} (h : DoorsOk s) (ha : s.active = some a) : DoorsOk (s.useCall a x) := by
  have times : DoorsOk ((s.setLineSilence a (a.silenceAfter x.silence)).restartSilence
      { a with lineSilence := a.silenceAfter x.silence }) := by
    refine h.step ?_ fun _ k => k.elsewhere (by simp [doorless])
    rw [valid_of_active ha]
    unfold State.restartSilence
    split <;> rfl
  exact times.headFlags

theorem DoorsOk.placedCall {p : List Byte} (h : DoorsOk s) (ha : s.active = some a) : DoorsOk (s.placedCall a e p) := by
  have used : DoorsOk (s.useCall a (CallHeader.ofPayload p)) := h.useCall ha
  have noted {u : State} {d : EndId} {f : Frame} {c : CallRole} (k : DoorsOk u) : DoorsOk ((u.placeCycle d f).noteCall c) :=
    k.elsewhere (by simp [doorless])
  have appends {q : CycleRecord} : DoorsOk ((s.useCall a (CallHeader.ofPayload p)).appended q) :=
    used.elsewhere (by simp [doorless])
  unfold State.placedCall
  simp only
  split
  · exact noted used
  · split
    · exact noted appends
    · split
      · exact noted appends
      · exact noted appends

theorem DoorsOk.receiveCall {p : List Byte} (h : DoorsOk s) : DoorsOk (s.receiveCall e p) := by
  have unplaced : DoorsOk (s.unplacedCall e p) := h.elsewhere (by simp [doorless])
  unfold State.receiveCall
  split
  · next ha =>
    split
    · exact h.placedCall ha
    · exact unplaced
  · exact unplaced

theorem role_restartSilence (s : State) (a : ActiveConsist) : (s.restartSilence a).inaug.role = s.inaug.role := by
  unfold State.restartSilence
  split <;> rfl

theorem DoorsOk.restartSilence (h : DoorsOk s) : DoorsOk (s.restartSilence a) :=
  h.sameRole (role_restartSilence s a) (by simp [doorless])

theorem DoorsOk.receiveSettle {f : Frame} (h : DoorsOk s) : DoorsOk (s.receiveSettle e f) := by
  unfold State.receiveSettle State.memberSettles
  simp only
  split
  · split
    · split
      · exact h.restartSilence.useSettle.placed
      · exact h.restartSilence.placed
    · exact h.placed
  · exact h.placed

theorem DoorsOk.receiveOrder {f : Frame} (h : DoorsOk s) (awake : s.asleep = false) : DoorsOk (s.receiveOrder e f) := by
  unfold State.receiveOrder
  split
  · next a ha =>
    split
    · have restarted := h.restartSilence (a := a)
      have same : ((s.restartSilence a).judgeOrder a f).valid = true := by
        refine (valid_of_inaug (s := s.restartSilence a) ?_).trans
          ((valid_of_role (role_restartSilence s a)).trans (valid_of_active ha))
        exact sameBlock_of_forget (L := .door :: doorless) (by simp [doorless]) .inauguration (by simp [doorless])
      refine (DoorsAt.judgeOrder (((doorsOk_iff _).1 restarted).mono fun _ => rfl) ?_).member same
      rw [skeleton_asleep (skel_restartSilence s a)]
      exact awake
    · exact h.placed
  · exact h.placed

theorem DoorsOk.headWake {f : Frame} (h : DoorsOk s) : DoorsOk (s.headWake f) := by
  unfold State.headWake
  simp only
  split
  · exact h.reinaugurate
  · split
    · exact h.requestCall
    · exact h

/-- A frame handed on at a node that is awake (R9). -/
theorem DoorsOk.handOn {f : Frame} (h : DoorsOk s) (awake : s.asleep = false) : DoorsOk (s.handOn e f) := by
  unfold State.handOn
  split
  · exact h
  · exact h.receiveCount
  · exact h.receiveTally
  · exact h.receiveCommit
  · exact h.receiveCall
  · split
    · exact h.receiveReturn
    · exact h.elsewhere (by simp [doorless])
  · exact h.receiveSettle
  · exact h.receiveOrder awake
  · split
    · exact h.headWake
    · exact h.elsewhere (by simp [doorless])
  · exact h.elsewhere (by simp [doorless])
  · exact h.elsewhere (by simp [doorless])

theorem DoorsOk.ownLeaves {x : Source} {f : Frame} (h : DoorsOk s) : DoorsOk (s.ownLeaves e x f) := by
  unfold State.ownLeaves
  split
  · split
    · split
      · exact h.callLeaves
      · split
        · exact h.unit (by simp [doorless]) fun _ k => k.orderLeaves
        · exact h
    · exact h
  · exact h

theorem DoorsOk.setLineTiming {v : LineTiming} (h : DoorsOk s) : DoorsOk (s.setLineTiming v) := by
  have timed : DoorsOk (s.modCycle fun c => { c with timing := v }) := h.modCycle
  have asks (b : Bool) (u : State) (hu : DoorsOk u) : DoorsOk (if b then u.requestCall else u) := by
    split
    · exact hu.requestCall
    · exact hu
  refine asks _ _ ?_
  split
  · next a ha =>
    split
    · exact timed.step (valid_of_active (a := { a with lineSilence := v.lineSilence }) rfl |>.trans (valid_of_active ha).symm)
        fun _ k => k.modInaug
    · exact timed
  · exact timed

/-! ## Timers of the roles -/

theorem DoorsOk.hopExpired (h : DoorsOk s) : DoorsOk s.hopExpired := by
  have stops : DoorsOk (s.modInaug fun i => { i with hopTimer := none }) := h.sameRole rfl (by simp [doorless])
  unfold State.hopExpired
  simp only
  split
  · next counted =>
    have rests := stops.counted (role_of_counted counted)
    split
    · exact rests.commit.ok
    · exact rests.tailTally.ok
  · exact stops

theorem DoorsOk.inaugurationExpired (h : DoorsOk s) : DoorsOk s.inaugurationExpired := by
  have stops : DoorsOk (s.modInaug fun i => { i with inaugurationTimer := none }) := h.sameRole rfl (by simp [doorless])
  unfold State.inaugurationExpired
  simp only
  split
  · split
    · exact stops.beginAttempt.ok
    · exact stops.goUnassigned.failClaim.ok
  · exact stops

theorem DoorsOk.commitWaited {c : LeaveCause} (h : DoorsOk s) :
    DoorsOk ((s.modInaug fun i => { i with commitWait := none }).goUnassigned c) :=
  DoorsAt.ok (DoorsOk.goUnassigned (h.sameRole rfl (by simp [doorless])))

theorem DoorsOk.silenceExpired (h : DoorsOk s) : DoorsOk s.silenceExpired := by
  have stops : DoorsOk (s.modInaug fun i => { i with silence := none }) := h.sameRole rfl (by simp [doorless])
  unfold State.silenceExpired
  simp only
  split
  · exact stops.leaveWithAlert.ok
  · exact stops

theorem DoorsOk.cycleTimedOut (h : DoorsOk s) : DoorsOk s.cycleTimedOut := by
  have stops : DoorsOk (s.modCycle fun c => { c with cycleTimeout := none }) := h.modCycle
  have fails {u : State} (hu : DoorsOk u) : DoorsOk (u.unprove.countFailure .timeout) := hu.elsewhere (by simp [doorless])
  unfold State.cycleTimedOut
  simp only
  split
  · split
    · exact (fails stops).reinaugurate
    · exact (fails stops).modCycle
  · exact stops

end Sys2Proof.Machine

/-! PROOF. Every step keeps the invariant of the doors (O5). -/

namespace Sys2Proof.Machine

variable {s t : State} {e : EndId} {p : PortId}

/-! ## Where the consist and the doors stay, and the power state may change -/

/-- Neither the doors nor the consist change, and the node does not fall asleep. -/
theorem DoorsOk.repower (h : DoorsOk s) (f : t.forget (.power :: doorless) = s.forget (.power :: doorless))
    (asleep : t.asleep = true → s.asleep = true) : DoorsOk t :=
  h.step (valid_of_inaug (sameBlock_of_forget f .inauguration (by simp [doorless])))
    fun _ k => k.same (sameBlock_of_forget f .door (by simp [doorless])) asleep

theorem DoorsOk.modPort {g : Port → Port} (h : DoorsOk s) : DoorsOk (s.modPort p g) :=
  h.elsewhere (forget_modPort _ _ _ _ (by simp [doorless]))

theorem DoorsOk.raise {c : Cause} (h : DoorsOk s) : DoorsOk (s.raise c) := h.elsewhere (by simp [doorless])

theorem DoorsOk.reach {d : Nat} (h : DoorsOk s) : DoorsOk (s.reach d) := h.elsewhere (by simp [doorless])

theorem DoorsOk.identityToStages (h : DoorsOk s) : DoorsOk s.identityToStages := h.elsewhere (by simp [doorless])

/-! ## The line -/

theorem DoorsOk.wakeBy {c : WakeCause} (h : DoorsOk s) : DoorsOk (s.wakeBy c) := by
  unfold State.wakeBy
  split
  · next stabled => exact h.repower (by simp [doorless]) fun _ => by simp [State.asleep, stabled]
  · exact h

theorem DoorsOk.setReceiver {q : Pair} {x : Receiver} (h : DoorsOk s) : DoorsOk (s.setReceiver e q x) :=
  h.elsewhere (by simp [doorless])

theorem DoorsOk.badCopy {q : Pair} (h : DoorsOk s) : DoorsOk (s.badCopy e q) := h.elsewhere (by simp [doorless])

theorem DoorsOk.modEnd {g : LineEnd → LineEnd} (h : DoorsOk s) : DoorsOk (s.modEnd e g) :=
  h.elsewhere (by simp [doorless])

theorem DoorsOk.live {f : State → State} (h : DoorsOk s) (hf : DoorsOk (f s)) : DoorsOk (s.live f) := by
  unfold State.live
  split
  · exact h
  · exact hf

theorem DoorsOk.whileAwake {f : State → State} (h : DoorsOk s) (hf : DoorsOk (f s)) : DoorsOk (s.awake f) := by
  unfold State.awake
  split
  · exact h
  · exact hf

theorem DoorsOk.expire {x : Timer} {f : State → State} (h : DoorsOk s) (hf : ∀ d, x = some d → DoorsOk (f (s.reach d))) :
    DoorsOk (s.expire x f) := by
  unfold State.expire
  split
  · exact h
  · exact hf _ rfl

theorem DoorsOk.startDebounce (h : DoorsOk s) : DoorsOk (s.startDebounce e) := h.elsewhere (by simp [doorless])

theorem DoorsOk.rawChange {level : Sense} (h : DoorsOk s) : DoorsOk (s.rawChange e level) := by
  have raw : DoorsOk (s.modEnd e fun l => { l with rawSense := level }) := h.modEnd
  unfold State.rawChange
  split
  · exact h
  · exact raw.live raw.startDebounce.wakeBy

theorem DoorsOk.debounceExpiry (h : DoorsOk s) : DoorsOk (s.debounceExpiry e) := by
  refine h.expire fun d _ => ?_
  have senses {g : LineEnd → LineEnd} : DoorsOk (((s.reach d).modEnd e g).raise (.couplingChanged e)) := h.reach.modEnd.raise
  simp only
  split
  · exact senses
  · exact DoorsOk.reportEnd (senses.elsewhere (forget_linkBySense _ _ _ (by simp [doorless]) (by simp [doorless])))

theorem DoorsOk.copyStart {q : Pair} (h : DoorsOk s) : DoorsOk (s.copyStart e q) := by
  unfold State.copyStart
  split
  · exact h.setReceiver.wakeBy
  · simp only
    split
    · exact h.badCopy.setReceiver
    · exact h.setReceiver

theorem DoorsOk.filterCopy {q : Pair} {c : IntactCopy} (h : DoorsOk s) (awake : s.asleep = false) :
    DoorsOk (s.filterCopy e q c) := by
  have hears : DoorsOk (s.hearCopy e) := h.elsewhere (by simp [doorless])
  unfold State.filterCopy
  simp only
  split
  · exact DoorsOk.reportEnd (hears.elsewhere (by simp [doorless]))
  · refine DoorsOk.handOn (DoorsOk.reportEnd (hears.elsewhere (by simp [doorless]))) ?_
    rw [asleep_of_skeleton_reportEnd]
    exact (asleep_of_forget (by simp)).trans awake

theorem DoorsOk.copyReceived {q : Pair} {bytes : List Byte} (h : DoorsOk s) : DoorsOk (s.copyReceived e q bytes) := by
  unfold State.copyReceived
  simp only
  split
  · exact h.setReceiver
  · next reaches =>
    have awake : (s.setReceiver e q .idle).asleep = false := by
      simp only [Bool.or_eq_true, not_or, Bool.not_eq_true] at reaches
      exact (asleep_of_forget (by simp)).trans reaches.2
    unfold State.judgeCopy
    split
    · exact h.setReceiver.badCopy
    · split
      · exact h.setReceiver.modEnd
      · exact h.setReceiver.filterCopy awake

theorem DoorsOk.linkIdleExpiry (h : DoorsOk s) : DoorsOk (s.linkIdleExpiry e) := by
  refine h.expire fun d _ => ?_
  have downs {old : LinkState} : DoorsOk (((s.reach d).enterDown e).reportEnd e old) :=
    DoorsOk.reportEnd ((h.reach (d := d)).elsewhere (by simp [doorless]))
  simp only
  split
  · exact downs
  · exact downs
  · exact downs
  · exact h.reach.modEnd
  · exact h.reach.modEnd

theorem DoorsOk.arbiterTake (h : DoorsOk s) : DoorsOk (s.arbiterTake e) := by
  have sends {u : State} {f : Frame} (k : DoorsOk u) : DoorsOk (u.send e f) := k.elsewhere (by simp [doorless])
  unfold State.arbiterTake
  split
  · exact h
  · split
    · exact h
    · exact (sends h.modEnd).ownLeaves
    · exact sends h.modEnd
    · next f _ => exact (sends (f := f) h).elsewhere (by simp [doorless])

theorem DoorsOk.endReset (h : DoorsOk s) : DoorsOk (s.endReset e) := by
  rw [endReset_restarted]
  exact DoorsOk.reportEnd (h.elsewhere (forget_mono (forget_restarted s e) (by simp [restartBlocks, doorless])))

theorem DoorsOk.endResetNamed (h : DoorsOk s) : DoorsOk (s.endResetNamed p) := by
  unfold State.endResetNamed
  split
  · exact h.endReset
  · exact h

/-! ## The Door Unit -/

theorem DoorsOk.closeTimerExpiry {i : SideId} (h : DoorsOk s) : DoorsOk (s.closeTimerExpiry i) :=
  h.expire fun d runs => (h.reach (d := d)).unit (by simp [doorless]) fun _ k => k.closeTimerExpired (i := i) runs

theorem DoorsOk.attendanceLapse (h : DoorsOk s) : DoorsOk s.attendanceLapse :=
  h.expire fun d _ => (h.reach (d := d)).unit (by simp [doorless]) fun _ k => k.attendanceLapsed

theorem DoorsOk.writeDoorStatus {x : DoorStatus} (h : DoorsOk s) : DoorsOk (s.writeDoorStatus x) :=
  h.unit (by simp [doorless]) fun _ k => k.writeDoorStatus

theorem DoorsOk.localClose {n : Nat} (h : DoorsOk s) (awake : s.asleep = false) : DoorsOk (s.localClose (closeSides n)) :=
  h.unit (by simp [doorless]) fun _ k => k.localClose awake

/-! ## Resets, loading and the power state -/

/-- The Door Unit as a reset leaves it, at a node that is no member (R107). -/
theorem doorsAt_reset (door : s.door = .reset) : DoorsAt false s := by
  unfold DoorsAt
  rw [door]
  exact ⟨fun i => by cases i <;> exact ⟨nofun, nofun, fun _ => ⟨rfl, rfl⟩, fun _ => rfl⟩, rfl⟩

theorem doorsOk_hardReset (s : State) : DoorsOk s.hardReset := (doorsAt_reset (s := s.hardReset) rfl).ok

theorem DoorsOk.setDemand {v : Nat} (h : DoorsOk s) : DoorsOk (s.setDemand v) := by
  unfold State.setDemand
  split
  · exact h
  · exact h.elsewhere (by simp [doorless])

theorem DoorsOk.nodeReset : DoorsOk s.nodeReset := by
  have reset : DoorsAt false s.resetBlocks.stageNodeReset :=
    DoorsAt.elsewhere (doorsAt_reset (s := s.resetBlocks) rfl) (by simp [doorless])
  unfold State.nodeReset
  simp only
  split
  · exact reset.modInaug.raise.ok
  · exact reset.ok

/-- LOADING ends in ACTIVE (R179). -/
theorem DoorsOk.finishLoading {o : LoadOutcome} {x : IdentityRecord} {b : Bool} (h : DoorsOk s) : DoorsOk (s.finishLoading o x b) :=
  DoorsOk.identityToStages (DoorsOk.raise (h.repower (by simp [doorless]) nofun))

theorem DoorsOk.loadComplete {read : Option (List Byte)} (h : DoorsOk s) : DoorsOk (s.loadComplete read) := by
  unfold State.loadComplete
  split
  · split
    · exact h.finishLoading
    · split
      · exact h.finishLoading
      · exact h.finishLoading
  · exact h

theorem DoorsOk.resetEnd {role1 role0 idsrc : Bool} (h : DoorsOk s) : DoorsOk (s.resetEnd role1 role0 idsrc) := by
  unfold State.resetEnd
  split
  · simp only
    generalize (if idsrc = true then s.timerMs Config.identityReadMs else none) = timer
    have begins : DoorsOk (s.modPower fun p =>
        { p with held := false, state := .loading, sourceFitted := idsrc, loadOutcome := none, readTimer := timer }) :=
      h.repower (by simp [doorless]) nofun
    split
    · exact begins.modPort.modPort.startDebounce.startDebounce
    · exact begins.modPort.modPort.startDebounce.startDebounce.finishLoading
  · exact h

theorem DoorsOk.wakeSettled (h : DoorsOk s) : DoorsOk s.wakeSettled := by
  refine h.expire fun d _ => ?_
  have active : DoorsOk ((s.reach d).modPower fun p => { p with state := .active, wakeSettle := none }) :=
    (h.reach (d := d)).repower (by simp [doorless]) nofun
  exact active.elsewhere (by simp [doorless])

/-- A node falls asleep with both sides WITHDRAWN (R183). -/
theorem DoorsOk.enterStabled (h : DoorsOk s) (check : stableCheck s = none) : DoorsOk s.enterStabled := by
  have withdrawn (i : SideId) : s.sideState i = .withdrawn := by
    unfold stableCheck at check
    by_contra other
    cases i <;> simp [other, firstReason] at check
  have still : s.enterStabled.forget (.power :: doorless) = s.forget (.power :: doorless) := by
    simp [State.enterStabled, doorless]
  refine h.step (valid_of_inaug (sameBlock_of_forget still .inauguration (by simp [doorless]))) fun _ k => ?_
  have door : s.enterStabled.door = s.door := sameBlock_of_forget still .door (by simp [doorless])
  obtain ⟨sides, attendance⟩ := k
  refine ⟨fun i => ?_, by rw [door]; exact attendance⟩
  obtain ⟨released, closing, rests, -⟩ := sides i
  rw [door]
  exact ⟨by rw [door]; exact released, closing, rests, fun _ => withdrawn i⟩

theorem DoorsOk.lockIdentity (h : DoorsOk s) : DoorsOk s.lockIdentity := h.repower (by simp [doorless]) fun z => by
  rwa [State.lockIdentity, skeleton_asleep (skel_sourceChanged _)] at z

theorem DoorsOk.wakeCommand (h : DoorsOk s) : DoorsOk (s.live fun s => s.wakeWritten p) := by
  refine h.live ?_
  unfold State.wakeWritten
  split
  · simp only
    split
    · exact (DoorsOk.wakeBy h.modPort).modPort
    · exact DoorsOk.modPort h.modPort
  · exact h

/-! ## Written bytes -/

theorem DoorsOk.fieldTaken {offset n : Nat} (h : DoorsOk s) : DoorsOk (s.fieldTaken offset n) := by
  have taken : DoorsOk (s.modPower fun x => { x with record := x.record.setField offset n }) :=
    h.repower (by simp [doorless]) id
  have left {c : LeaveCause} : DoorsOk ((s.modPower fun x => { x with record := x.record.setField offset n }).goUnassigned c) :=
    taken.goUnassigned.ok
  unfold State.fieldTaken
  simp only
  split
  · split
    · exact left.identityToStages
    · exact taken.identityToStages
  · split
    · exact left
    · exact taken

theorem DoorsOk.judgeField {offset : Nat} {v : Byte} (h : DoorsOk s) : DoorsOk (s.judgeField p offset v) := by
  have judged {o : IdentityWrite} : DoorsOk (({ s with freeCount := s.freeCount + 32 } : State).modPower fun x =>
      { x with lastIdentityWrite := o }) :=
    h.repower (by simp [doorless, State.forget]) id
  unfold State.judgeField
  simp only
  split
  · exact judged.fieldTaken
  · exact judged

/-! ## The gates of commands -/

theorem DoorsOk.write {a : Nat} {f : State → State} (h : DoorsOk s) (hf : ∀ u : State, DoorsOk u → DoorsOk (f u)) :
    DoorsOk (s.write p a f) := by
  refine h.live ?_
  split
  · simp only
    split
    · exact h.modPort
    · exact hf _ h.modPort
  · exact h

theorem DoorsOk.writeArea {code offset : Nat} {f : State → State} (h : DoorsOk s)
    (hf : ∀ u : State, DoorsOk u → DoorsOk (f u)) : DoorsOk (s.writeArea p code offset f) := by
  unfold State.writeArea
  split
  · exact h.write hf
  · exact h

/-- A command acts while the node is awake, past its own check (R171). -/
theorem DoorsOk.command {need : Need} {check : State → Option Reason} {act : State → State} {data : State → Nat} (h : DoorsOk s)
    (ha : ∀ u : State, DoorsOk u → u.asleep = false → check u = none → DoorsOk (act u)) :
    DoorsOk (s.command p need check act data) := by
  refine h.live ?_
  split
  · simp only
    split
    · exact h.modPort
    · next awake =>
      split
      · exact DoorsOk.modPort h.modPort
      · next admitted =>
        unfold State.refusal at admitted
        split at admitted
        · cases admitted
        · split at admitted
          · cases admitted
          · have written : DoorsOk (s.wrote p opcodeAddress) := h.modPort
            exact (ha _ written (by simpa using awake) admitted).modPort
  · exact h

/-- A command that reaches neither the doors nor the consist. -/
theorem DoorsOk.otherCommand {need : Need} {check : State → Option Reason} {act : State → State} {data : State → Nat}
    (h : DoorsOk s) (elsewhere : ∀ u : State, (act u).forget doorless = u.forget doorless) :
    DoorsOk (s.command p need check act data) :=
  h.command fun u hu _ _ => hu.elsewhere (elsewhere u)

theorem DoorsOk.registerWrite {address : Nat} {v : Byte} (h : DoorsOk s) : DoorsOk (s.registerWrite p address v) := by
  refine h.write fun u hu => ?_
  split
  · unfold State.writeFixed
    repeat' split
    all_goals first | exact hu.modPort | exact hu
  · unfold State.writeInArea State.writeIdentity
    simp only
    split
    · split
      · exact hu.modEnd
      · exact hu
    · split
      · exact hu.elsewhere (by simp [doorless])
      · split
        · split
          · exact hu.judgeField
          · split
            · exact hu.modPort
            · exact hu
        · exact hu

/-! ## Transactions and reads -/

theorem DoorsOk.transactionStart {c : Option Byte} (h : DoorsOk s) : DoorsOk (s.transactionStart p c) := by
  unfold State.transactionStart
  split
  · exact h
  · exact h.modPort

theorem DoorsOk.areaCapture (h : DoorsOk s) : DoorsOk (s.areaCapture p) := by
  unfold State.areaCapture
  split
  · simp only
    split
    · exact DoorsOk.modPort h.modPort
    · exact h
  · exact h

theorem DoorsOk.stageRead {stage plain offset : Nat} {f : State → State} (h : DoorsOk s) (hf : DoorsOk (f s)) :
    DoorsOk (s.stageRead p stage plain offset f) := by
  refine h.live ?_
  split
  · exact hf
  · exact h

theorem DoorsOk.stageLowRead {n : Nat} (h : DoorsOk s) : DoorsOk (s.stageLowRead p n) := by
  unfold State.stageLowRead
  simp only
  split
  · exact h.modPort
  · exact DoorsOk.modPort h.modPort

theorem DoorsOk.stageHighRead {n : Nat} (h : DoorsOk s) : DoorsOk (s.stageHighRead p n) := by
  unfold State.stageHighRead
  simp only
  split
  · exact h.modPort
  · split
    · split
      · exact DoorsOk.modPort h.modPort
      · exact h.modPort
    · exact h.modPort

theorem DoorsOk.stageTimerExpiry {n : Nat} (h : DoorsOk s) : DoorsOk (s.stageTimerExpiry n) := by
  unfold State.stageTimerExpiry
  split
  · exact h.expire fun d _ => (h.reach (d := d)).elsewhere (by simp [doorless])
  · exact h

theorem DoorsOk.serverStep (h : DoorsOk s) : DoorsOk (if s.power.state = .active then s.serverStep else s) := by
  split
  · exact h.elsewhere (by simp [doorless])
  · exact h

theorem DoorsOk.deadlineExpiry {n : Nat} (h : DoorsOk s) : DoorsOk (s.deadlineExpiry n) := by
  unfold State.deadlineExpiry
  split
  · exact h.expire fun d _ => (h.reach (d := d)).elsewhere (by simp [doorless])
  · exact h

/-! ## Every command -/

/-- A written opcode is the command of the table that it names, a Wake, or refused: an invariant of all of these holds for it
(R171). -/
theorem writeOpcode_answers {P : State → Prop} (commands : ∀ c, (commandNeed c).isSome = true → Answers P (exec c s)) (p : PortId)
    (wake : P (s.live fun s => s.wakeWritten p)) (unknown : P (s.badOpcode p)) (opcode : Nat) :
    Answers P (writeOpcode p opcode s) := by
  unfold writeOpcode
  split
  · exact commands (.claimCab p) rfl
  · exact commands (.releaseCab p) rfl
  · exact commands (.setStandstill p) rfl
  · exact commands (.issueOrder p) rfl
  · exact commands (.writeDoorStatus p) rfl
  · exact commands (.localClose p) rfl
  · exact commands (.setLineTiming p) rfl
  · exact commands (.setDemand p) rfl
  · exact commands (.setSupplyBudget p) rfl
  · exact commands (.selectPosition p) rfl
  · exact commands (.take p) rfl
  · exact commands (.selectBuffer p) rfl
  · exact commands (.post p) rfl
  · exact commands (.fetch p) rfl
  · exact commands (.returnBuffer p) rfl
  · exact commands (.setQuotas p) rfl
  · exact commands (.nodeReset p) rfl
  · exact commands (.endReset p) rfl
  · exact commands (.stable p) rfl
  · exact wake
  · exact commands (.lockIdentity p) rfl
  · exact unknown

/-- The port commands, those of the table of 10.3. -/
theorem portCommand_doorsOk (h : DoorsOk s) (c : Instr) (hc : (commandNeed c).isSome = true) : Answers DoorsOk (exec c s) := by
  cases c
  case claimCab p => exact h.command fun u hu _ _ => hu.claimCab
  case releaseCab p => exact h.command fun u hu _ _ => hu.releaseCab
  case setStandstill p => exact h.command fun u hu awake _ => hu.setStandstill awake
  case issueOrder p => exact h.command fun u hu awake _ => hu.issueFromOperands awake
  case writeDoorStatus p => exact h.command fun u hu _ _ => hu.writeDoorStatus
  case localClose p => exact h.command fun u hu awake _ => hu.localClose awake
  case setLineTiming p => exact h.command fun u hu _ _ => hu.setLineTiming
  case setDemand p => exact h.command fun u hu _ _ => hu.setDemand
  case setSupplyBudget p => exact h.otherCommand fun u => by simp [doorless]
  case selectPosition p => exact h.command fun u hu _ _ => hu.modPort
  case take p => exact h.otherCommand fun u => by simp [doorless]
  case selectBuffer p => exact h.command fun u hu _ _ => hu.modPort
  case post p => exact h.otherCommand fun u => by simp [doorless]
  case fetch p => exact h.otherCommand fun u => by simp [doorless]
  case returnBuffer p => exact h.otherCommand fun u => by simp [doorless]
  case setQuotas p => exact h.otherCommand fun u => by simp [doorless]
  case nodeReset p => exact h.command fun u _ _ _ => .nodeReset
  case endReset p => exact h.command fun u hu _ _ => hu.endResetNamed
  case stable p => exact h.command fun u hu _ check => hu.enterStabled check
  case lockIdentity p => exact h.command fun u hu _ _ => hu.lockIdentity
  all_goals cases hc

/-- Every command keeps the invariant of the doors. -/
theorem exec_doorsOk (h : DoorsOk s) (c : Instr) : Answers DoorsOk (exec c s) := by
  cases c
  case powerOnReset => exact doorsOk_hardReset s
  case resetPin => exact doorsOk_hardReset s
  case resetEnd => exact h.resetEnd
  case loadComplete => exact h.live h.loadComplete
  case identityReadTimeout => exact h.live (h.expire fun _ _ => h.reach.finishLoading)
  case rawSenseChange => exact h.rawChange
  case senseDebounceExpiry => exact h.live h.debounceExpiry
  case copyStart => exact h.live h.copyStart
  case lineIdleAbort e q =>
    exact h.live (h.elsewhere (forget_idleAbort _ _ _ _ (by simp [doorless])))
  case copyReceived => exact h.live h.copyReceived
  case twinWindowExpiry e =>
    exact h.live (h.expire fun d _ => (h.reach (d := d)).elsewhere (by simp [doorless]))
  case linkIdleExpiry => exact h.live h.linkIdleExpiry
  case keepaliveExpiry => exact h.whileAwake (h.expire fun _ _ => h.reach.modEnd)
  case arbiterTake => exact h.whileAwake h.arbiterTake
  case transmitComplete e =>
    exact h.whileAwake (h.elsewhere (forget_transmitComplete _ _ _ (by simp [doorless])))
  case callOriginate => exact h.whileAwake h.callOriginate
  case hopTimerExpiry => exact h.live (h.expire fun _ _ => h.reach.hopExpired)
  case inaugurationTimerExpiry => exact h.live (h.expire fun _ _ => h.reach.inaugurationExpired)
  case commitWaitExpiry => exact h.live (h.expire fun _ _ => h.reach.commitWaited)
  case silenceExpiry => exact h.live (h.expire fun _ _ => h.reach.silenceExpired)
  case cycleTimeoutExpiry => exact h.live (h.expire fun _ _ => h.reach.cycleTimedOut)
  case periodTimerExpiry => exact h.live (h.expire fun _ _ => h.reach.modCycle)
  case refreshTimerExpiry => exact h.live (h.expire fun _ _ => h.reach.modCycle)
  case closeTimerExpiry => exact h.live h.closeTimerExpiry
  case attendanceTimerExpiry => exact h.live h.attendanceLapse
  case proofLifetimeExpiry => exact h.live (h.expire fun d _ => (h.reach (d := d)).elsewhere (by simp [doorless]))
  case stageTimerExpiry stage => exact h.live h.stageTimerExpiry
  case transmitServerStep => exact h.live h.serverStep
  case storingEnd => exact h.live (h.elsewhere (by simp [doorless]))
  case deadlineExpiry => exact h.live h.deadlineExpiry
  case wakeSettleExpiry => exact h.live h.wakeSettled
  case transactionStart => exact h.live h.transactionStart
  case transactionEnd => exact h.live h.modPort
  case areaCapture => exact h.live h.areaCapture
  case stageTimerLowRead => exact h.stageRead h.stageLowRead
  case stageTimerHighRead => exact h.stageRead h.stageHighRead
  case flagClear => exact h.write fun u hu => hu.modPort
  case enableWrite => exact h.write fun u hu => hu.modPort
  case countClearWrite => exact h.writeArea fun u hu => hu.modEnd
  case identityFieldWrite p offset v =>
    show DoorsOk (if identityFieldEnds.contains offset = true then _ else s)
    split
    · exact h.writeArea fun u hu => hu.judgeField
    · exact h
  case registerWrite p address v =>
    show Answers DoorsOk (if address = opcodeAddress then writeOpcode p v.toNat s else .next (s.registerWrite p address v))
    split
    · exact writeOpcode_answers (portCommand_doorsOk h) p h.wakeCommand (h.write fun u hu => hu.modPort) v.toNat
    · exact h.registerWrite
  case wakeCommand => exact h.wakeCommand
  all_goals exact portCommand_doorsOk h _ rfl

/-- Settles O5, by what each operation makes of each side. -/
theorem everyStepKeepsTheDoors : Obligations.EveryStepKeepsTheDoors := by
  intro s t h hs
  unfold step at hs
  split at hs
  · cases hs
    exact h
  · next c rest _ =>
    have answers := exec_doorsOk (s := { s with pending := rest }) h c
    rw [hs] at answers
    exact answers

end Sys2Proof.Machine

/-! SUPPORT. Orders: the frame read back, the order as it is taken, placed and leaves, and what an issue makes of the head
(R90 to R114). -/

namespace Sys2Proof.Machine

variable {s t u : State} {a : ActiveConsist} {i : SideId}

/-! ## The ORDER frame -/

theorem toNat_byteOf (n : Nat) : (byteOf n).toNat = n % 256 := BitVec.toNat_ofNat n 8

/-- An identity that fits its field is read back from its bytes (12). -/
theorem identityAt_bytes {x : Identity} (fits : x.Fits) (rest : List Byte) : identityAt (x.bytes ++ rest) 0 = x := by
  obtain ⟨head, generation⟩ := x
  obtain ⟨headFits, generationFits⟩ := fits
  simp only at headFits generationFits
  have reads : num32 (Identity.bytes { head, generation } ++ rest) 0 = head := by
    simp only [num32, num16, num8, byteAt, Identity.bytes, be32, List.cons_append, List.getD_cons_zero, List.getD_cons_succ,
      toNat_byteOf]
    omega
  have counts : num16 (Identity.bytes { head, generation } ++ rest) 4 = generation := by
    simp only [num16, num8, byteAt, Identity.bytes, be32, be16, List.cons_append, List.nil_append, List.getD_cons_zero,
      List.getD_cons_succ, toNat_byteOf]
    omega
  unfold identityAt
  rw [reads, counts]

theorem orderFrame_identity {f : OrderFrame} (fits : f.identity.Fits) :
    (OrderFrame.ofPayload f.frame.payload).identity = f.identity := identityAt_bytes fits _

theorem orderFrame_id {f : OrderFrame} (fits : f.id ≤ 255) : (OrderFrame.ofPayload f.frame.payload).id = f.id := by
  have reads : (OrderFrame.ofPayload f.frame.payload).id = f.id % 256 := toNat_byteOf f.id
  omega

theorem code_eq_release (x : DoorAction) : x.code = 1 ↔ x = .release := by cases x <;> decide

/-! ## The order as a node takes it -/

/-- A node once it has noted an order, the sides as they were (R91). -/
def State.orderNoted (s : State) (a : ActiveConsist) (o : DoorOrder) : State :=
  ((s.modDoor fun d => { d with lastOrderId := o.id, lastOutcome := s.orderOutcome a o }).raise .orderReceived).sourceChanged

theorem takeOrder_eq (s : State) (a : ActiveConsist) (o : DoorOrder) : s.takeOrder a o =
    if o.addresses a.position then (mapSides a.orientation o.side).foldl (fun s i => s.applyAction o i) (s.orderNoted a o)
    else s.orderNoted a o := rfl

theorem orderNoted_door (s : State) (a : ActiveConsist) (o : DoorOrder) : (s.orderNoted a o).door
    = { s.door with lastOrderId := o.id, lastOutcome := s.orderOutcome a o } := by
  unfold State.orderNoted
  rw [sourceChanged_door, raise_door]
  rfl

/-- What a side's part of an order rests on is as it was (R91 to R93). -/
theorem sideActed_congr {o : DoorOrder} (sides : t.door.side i = s.door.side i) (attended : t.door.attended = s.door.attended)
    (status : t.door.status = s.door.status) (power : t.power = s.power) (now : t.now = s.now) :
    t.sideActed o i = s.sideActed o i := by
  have fresh (st : SideState) : t.freshSide st = s.freshSide st := by
    unfold State.freshSide State.closeDeadline
    rw [power, now]
  unfold State.sideActed State.sideShut State.sideFromReleased State.sideTaken State.sideState State.releaseOutcome State.ready
  simp only [sides, attended, status, power, fresh]

/-- A node that has taken an order: the order and its outcome are noted, the sides it addresses have acted on it, and it is
told (R91). -/
structure OrderTaken (s : State) (a : ActiveConsist) (o : DoorOrder) (t : State) : Prop where
  door : t.door = { s.door with
    side1 := t.door.side1, side2 := t.door.side2, lastOrderId := o.id, lastOutcome := s.orderOutcome a o }
  sides : ∀ i, t.door.side i
    = if o.addresses a.position = true ∧ i ∈ mapSides a.orientation o.side then s.sideActed o i else s.door.side i
  raised : ∀ u, Gentle t u → RaisedAt .orderReceived u
  rest : t.forget sideMoveBlocks = s.forget sideMoveBlocks
  gentle : Gentle s t
  skeleton : t.skeleton = s.skeleton
  slots : ∀ e, (t.lineEnd e).slots.get .door = (s.lineEnd e).slots.get .door
  head : s.heading = true → t.forget headSideBlocks = s.forget headSideBlocks

/-- The sides that an order addresses have acted on it (R91 to R93). -/
theorem takeOrder_sides (s : State) (a : ActiveConsist) (o : DoorOrder) : SidesMoved (s.orderNoted a o) (s.takeOrder a o)
    ∧ ∀ i, (s.takeOrder a o).door.side i
      = if o.addresses a.position = true ∧ i ∈ mapSides a.orientation o.side then s.sideActed o i else s.door.side i := by
  have door := orderNoted_door s a o
  have still : (s.orderNoted a o).skeleton = s.skeleton := by simp [State.orderNoted]
  have acts (i : SideId) : (s.orderNoted a o).sideActed o i = s.sideActed o i :=
    sideActed_congr (by rw [door]; cases i <;> rfl) (by rw [door]) (by rw [door]) (skeleton_power still) (skeleton_now still)
  have stays (i : SideId) : (s.orderNoted a o).door.side i = s.door.side i := by rw [door]; cases i <;> rfl
  rw [takeOrder_eq]
  split
  · next addressed =>
    obtain ⟨moved, sides⟩ := (SideRule.applyAction o).inTurn (once_mapSides a.orientation o.side) (s.orderNoted a o)
    refine ⟨moved, fun i => ?_⟩
    rw [sides, acts, stays]
    simp only [addressed, true_and]
  · next outside => exact ⟨.refl _, fun i => by rw [stays, if_neg fun h => outside h.1]⟩

theorem orderTaken (s : State) (a : ActiveConsist) (o : DoorOrder) : OrderTaken s a o (s.takeOrder a o) := by
  obtain ⟨moved, sides⟩ := takeOrder_sides s a o
  have noted : Gentle ((s.modDoor fun d => { d with lastOrderId := o.id, lastOutcome := s.orderOutcome a o }).raise
      .orderReceived) (s.orderNoted a o) := (Gentle.refl _).sourceChanged
  have inaug : (s.orderNoted a o).inaug = s.inaug :=
    sameBlock_of_forget (L := sideMoveBlocks) (by simp [State.orderNoted, sideMoveBlocks]) .inauguration (by simp [sideMoveBlocks])
  refine ⟨by rw [moved.door, orderNoted_door], sides, fun u later => Gentle.raised ((noted.trans moved.gentle).trans later),
    moved.rest.trans (by simp [State.orderNoted, sideMoveBlocks]), ((Gentle.refl s).modDoor.raise.trans noted).trans moved.gentle,
    moved.skeleton.trans (by simp [State.orderNoted]), fun e => (moved.slots e).trans ?_, fun head => ?_⟩
  · exact (sourceChanged_doorSlot _ e).trans (by simp)
  · refine (moved.head ((heading_of_inaug inaug).trans head)).trans ?_
    unfold State.orderNoted
    rw [forget_sourceChanged_head _ _ (by simp [headSideBlocks])]
    · simp [headSideBlocks]
    · exact (heading_of_inaug (raise_inaug _ _)).trans head

theorem OrderTaken.inaug {o : DoorOrder} (h : OrderTaken s a o t) : t.inaug = s.inaug :=
  sameBlock_of_forget h.rest .inauguration (by simp [sideMoveBlocks])

theorem OrderTaken.track {o : DoorOrder} (h : OrderTaken s a o t) : t.track = s.track :=
  sameBlock_of_forget h.rest .tracking (by simp [sideMoveBlocks])

theorem OrderTaken.moments {o : DoorOrder} (h : OrderTaken s a o t) : t.moments = s.moments :=
  sameBlock_of_forget h.rest .moments (by simp [sideMoveBlocks])

theorem OrderTaken.link {o : DoorOrder} (h : OrderTaken s a o t) (e : EndId) : (t.lineEnd e).link = (s.lineEnd e).link :=
  skeleton_link h.skeleton e

theorem OrderTaken.slotFree {o : DoorOrder} {e : EndId} (h : OrderTaken s a o t) (free : SlotFree s e .door) : SlotFree t e .door :=
  ⟨by rw [h.link]; exact free.1, by rw [h.slots]; exact free.2⟩

theorem OrderTaken.inSlot {o : DoorOrder} {e : EndId} {f : Frame} (h : OrderTaken s a o t) (stands : InSlot s e .door f) :
    InSlot t e .door f := by
  unfold InSlot at stands ⊢
  rw [h.slots]
  exact stands

/-- A CLOSE of both sides tells of each side that it closes (R86, R93). -/
theorem takeOrder_tellsClose {o : DoorOrder} (close : o.action = .close) (both : o.side = .both)
    (addressed : o.addresses a.position = true) (h : s.closes i) (later : Gentle (s.takeOrder a o) t) :
    RaisedAt .sideStateChanged t := by
  have sides : mapSides a.orientation o.side = [.side1, .side2] := by rw [both]; cases a.orientation <;> rfl
  have acts : (fun (s : State) i => s.applyAction o i) = State.closeSide := by
    funext s i
    unfold State.applyAction
    rw [close]
  have door := orderNoted_door s a o
  have closes : (s.orderNoted a o).closes i := by
    unfold State.closes State.sideState at h ⊢
    rw [door]
    cases i <;> exact h
  rw [takeOrder_eq, if_pos addressed, sides, acts] at later
  cases i with
  | side1 => exact closeSide_told closes ((Gentle.refl _).closeSide.trans later)
  | side2 =>
    refine closeSide_told (s := (s.orderNoted a o).closeSide .side1) ?_ later
    have other : ((s.orderNoted a o).closeSide .side1).door.side .side2 = (s.orderNoted a o).door.side .side2 := by
      rw [SideRule.closeSide.acts, if_neg (by decide)]
    unfold State.closes State.sideState at closes ⊢
    rw [other, (SideRule.closeSide.moved _ _).status]
    exact closes

/-! ## The order as the head places it -/

theorem placeOrder_opened {f : Frame} (o : (s.lineEnd a.tailward).link = .opened) : s.placeOrder a f = s.orderLeaves a f :=
  if_pos (by simpa [State.isOpen] using o)

theorem placeOrder_closed {f : Frame} (o : (s.lineEnd a.tailward).link ≠ .opened) :
    s.placeOrder a f = s.place a.tailward .door f := if_neg (by simpa [State.isOpen] using o)

/-- Of the Door Unit an order that leaves changes the last RELEASE alone (R104). -/
theorem placeOrder_door (s : State) (a : ActiveConsist) (f : Frame) :
    ∃ m, (s.placeOrder a f).door = { s.door with lastReleaseSent := m } := by
  by_cases o : (s.lineEnd a.tailward).link = .opened
  · obtain ⟨-, -, -, -, release, other⟩ := orderLeaves_items s a f
    rw [placeOrder_opened o]
    by_cases action : (OrderFrame.ofPayload f.payload).action = 1
    · exact ⟨_, (release action).1⟩
    · exact ⟨_, (other action).1⟩
  · obtain ⟨-, door, -⟩ := place_rest s a.tailward .door f
    rw [placeOrder_closed o]
    exact ⟨_, door⟩

/-! ## The Outstanding Order -/

theorem checkComplete_door (s : State) : s.checkComplete.door = s.door :=
  sameBlock_of_forget (L := [.tracking, .portOf .portA, .portOf .portB]) (by simp) .door (by simp)

theorem evaluateProof_door (s : State) (n : Nat) (records : List CycleRecord) : (s.evaluateProof n records).door = s.door :=
  sameBlock_of_forget (L := [.tracking, .portOf .portA, .portOf .portB]) (by simp) .door (by simp)

/-- Of the Door Unit a RETURN that is read for echoes changes the last RELEASE alone (R104, R113). -/
theorem readEchoes_door (s : State) (a : ActiveConsist) (records : List CycleRecord) :
    ∃ m, (s.readEchoes a records).door = { s.door with lastReleaseSent := m } := by
  have repeats (u : State) (r : OutstandingOrder) : ∃ m, (u.repeatOrLose a r).door = { u.door with lastReleaseSent := m } := by
    unfold State.repeatOrLose
    split
    · exact ⟨_, rfl⟩
    · split
      · exact ⟨_, rfl⟩
      · exact placeOrder_door _ _ _
  unfold State.readEchoes
  split
  · split
    · simp only [checkComplete_door]
      exact repeats _ _
    · exact ⟨_, rfl⟩
  · exact ⟨_, rfl⟩

/-- A successful RETURN at the Door Unit leaves the sides and the last order as they were (R99, R111). -/
theorem doorReturn_door (s : State) (a : ActiveConsist) (records : List CycleRecord) : ∃ m, (s.doorReturn a records).door
    = { s.door with trainDoorsOpen := records.any (·.doorOpen), lastReleaseSent := m } := by
  obtain ⟨m, reads⟩ := readEchoes_door (s.modDoor fun d => { d with trainDoorsOpen := records.any (·.doorOpen) }) a records
  exact ⟨m, (evaluateProof_door _ _ _).trans reads⟩

/-- The order that the head makes of an action, a side and a window (R102). -/
def State.newOrder (s : State) (x : DoorAction) (y : TrainSide) (m n : Nat) : DoorOrder :=
  { id := nextWrap 255 s.door.orderCounter, action := x, side := y, first := m, last := n, standstill := s.door.headStandstill }

/-- The record that the head keeps of an order of its own (R110). -/
def State.newRecord (s : State) (a : ActiveConsist) (x : DoorAction) (y : TrainSide) (m n : Nat) : OutstandingOrder :=
  { id := nextWrap 255 s.door.orderCounter, action := x, side := y, first := m, last := n, repeatsLeft := 3, firstSent := none
    outcomes := initialOutcomes a.length m n, complete := decide (a.length < m) }

/-- The head once an order of its own has become the Outstanding Order (R102, R110, R114). -/
def State.orderBegun (s : State) (a : ActiveConsist) (x : DoorAction) (y : TrainSide) (m n : Nat) : State :=
  ((s.modDoor fun d => { d with orderCounter := nextWrap 255 s.door.orderCounter }).modTrack fun t =>
    { t with outstanding := some { s.newRecord a x y m n with complete := false } }).checkComplete

/-- The ORDER of an order of the head's own (R104). -/
def State.newFrame (s : State) (a : ActiveConsist) (x : DoorAction) (y : TrainSide) (m n : Nat) : Frame :=
  OrderFrame.frame { identity := a.identity, id := nextWrap 255 s.door.orderCounter, action := x.code, side := y.code
                     first := m, last := n, flags := flagBit s.door.headStandstill 0 }

/-- A window that begins behind the last position is complete at once (R110, R114). -/
theorem initialOutcomes_pending {length m n : Nat} (first : 1 ≤ m) (window : m ≤ n) :
    (initialOutcomes length m n).all (· ≠ .pending) = decide (length < m) := by
  rw [Bool.eq_iff_iff, List.all_eq_true, decide_eq_true_eq]
  unfold initialOutcomes
  constructor
  · intro none
    by_contra inside
    have pending := none .pending (List.mem_map.2 ⟨m - 1, List.mem_range.2 (by omega), if_pos (by omega)⟩)
    simp at pending
  · intro behind o ho
    obtain ⟨k, hk, rfl⟩ := List.mem_map.1 ho
    rw [List.mem_range] at hk
    rw [if_neg (by omega)]
    decide

/-- Once begun an order stands in the record, and is told where it is complete (R102, R110, R114). -/
theorem orderBegun_items {x : DoorAction} {y : TrainSide} {m n : Nat} (first : 1 ≤ m) (window : m ≤ n) :
    let t := s.orderBegun a x y m n
    t.door = { s.door with orderCounter := nextWrap 255 s.door.orderCounter }
      ∧ t.track = { s.track with outstanding := some (s.newRecord a x y m n) }
      ∧ (a.length < m → ∀ u, Gentle t u → RaisedAt .orderComplete u) := by
  have pending := initialOutcomes_pending (length := a.length) first window
  refine ⟨checkComplete_door _, ?_, fun behind u later => ?_⟩
  · unfold State.orderBegun State.checkComplete State.newRecord
    simp only [modTrack_track, pending, true_and, decide_eq_true_eq]
    split
    · next behind => simp [raise_track, behind]
    · next inside => simp [inside]
  · unfold State.orderBegun State.checkComplete State.newRecord at later
    simp only [modTrack_track, pending, true_and, decide_eq_true_eq, if_pos behind] at later
    exact Gentle.raised later

end Sys2Proof.Machine

/-! SUPPORT. What the issue of an order makes of the head (R101 to R110). -/

namespace Sys2Proof.Machine

variable {s t u : State} {a : ActiveConsist} {i : SideId} {x : DoorAction} {y : TrainSide} {m n : Nat}

/-- The moment of what happens next (R104). -/
theorem moment_eq (s : State) : s.moment = { time := s.now, order := s.moments + 1 } := rfl

/-- An ORDER that is placed: at an OPEN End it leaves, with its moment noted; at any other it waits in the Door source
(R103, R104, R110). -/
theorem placeOrder_items (s : State) (a : ActiveConsist) (f : Frame) :
    let leaves := (s.lineEnd a.tailward).link = .opened
    let o := OrderFrame.ofPayload f.payload
    let t := s.placeOrder a f
    t.door = { s.door with lastReleaseSent := if leaves ∧ o.action = 1 then some s.moment else s.door.lastReleaseSent }
      ∧ t.track.outstanding = s.track.outstanding.map (fun r =>
          if leaves ∧ r.id = o.id ∧ o.identity = a.identity ∧ r.firstSent = none then { r with firstSent := some s.moment }
          else r)
      ∧ (SlotFree s a.tailward .door → InSlot t a.tailward .door f)
      ∧ t.forget (doorReturnBlocks a) = s.forget (doorReturnBlocks a) := by
  have rest : (s.placeOrder a f).forget (doorReturnBlocks a) = s.forget (doorReturnBlocks a) :=
    forget_placeOrder_tail _ _ _ _ (by simp [doorReturnBlocks]) (by simp [doorReturnBlocks]) (by simp [doorReturnBlocks])
      (by simp [doorReturnBlocks]) (by simp [doorReturnBlocks])
  by_cases o : (s.lineEnd a.tailward).link = .opened
  · obtain ⟨-, -, outstanding, -, release, other⟩ := orderLeaves_items s a f
    simp only [o, true_and]
    refine ⟨?_, ?_, fun free => absurd o free.1, rest⟩
    · rw [placeOrder_opened o]
      split
      · next action => exact (release action).1
      · next action => exact (other action).1
    · rw [placeOrder_opened o]
      exact outstanding
  · obtain ⟨-, door, track, -⟩ := place_rest s a.tailward .door f
    simp only [o, false_and, if_false, Option.map_id']
    refine ⟨?_, ?_, fun free => ?_, rest⟩
    · rw [placeOrder_closed o, door]
    · rw [placeOrder_closed o, track]
    · rw [placeOrder_closed o]
      exact place_inSlot _ _ _ _ free

/-- The head with an order of its own taken at its own sides (R102, R103). -/
def State.orderIssued (s : State) (a : ActiveConsist) (x : DoorAction) (y : TrainSide) (m n : Nat) : State :=
  (s.orderBegun a x y m n).takeOrder a (s.newOrder x y m n)

/-- The order of the head's own is placed, and the Proof taken back for a RELEASE (R103, R117). -/
def State.orderPlaced (s : State) (a : ActiveConsist) (x : DoorAction) (y : TrainSide) (m n : Nat) : State :=
  let u := (s.orderIssued a x y m n).placeOrder a (s.newFrame a x y m n)
  if x = .release then u.unprove else u

/-- The order as begun at the head, at its own sides (R91, R102). -/
theorem orderIssued_taken (s : State) (a : ActiveConsist) (x : DoorAction) (y : TrainSide) (m n : Nat) :
    OrderTaken (s.orderBegun a x y m n) a (s.newOrder x y m n) (s.orderIssued a x y m n) := orderTaken _ _ _

theorem orderBegun_door (s : State) (a : ActiveConsist) (x : DoorAction) (y : TrainSide) (m n : Nat) :
    (s.orderBegun a x y m n).door = { s.door with orderCounter := nextWrap 255 s.door.orderCounter } := checkComplete_door _

theorem issue_eq (s : State) (a : ActiveConsist) (x : DoorAction) (y : TrainSide) (m n : Nat) :
    s.issue a x y m n = (s.orderPlaced a x y m n).requestCall := by
  have begun := orderBegun_door s a x y m n
  have standstill : (s.orderBegun a x y m n).door.headStandstill = s.door.headStandstill := by rw [begun]
  have taken : (s.orderIssued a x y m n).door.headStandstill = s.door.headStandstill := by
    rw [(orderIssued_taken s a x y m n).door, begun]
  have order : s.newOrder x y m n = { id := nextWrap 255 s.door.orderCounter, action := x, side := y, first := m, last := n
                                      standstill := (s.orderBegun a x y m n).door.headStandstill } := by rw [standstill]; rfl
  have frame : s.newFrame a x y m n
      = (s.orderIssued a x y m n).buildOrder a (nextWrap 255 s.door.orderCounter) x y m n := by
    unfold State.buildOrder State.newFrame
    rw [taken]
  unfold State.orderPlaced
  rw [frame]
  unfold State.orderIssued
  rw [order]
  rfl

theorem nextWrap_le_255 (n : Nat) : nextWrap 255 n ≤ 255 := nextWrap_le 255 n (by decide)

/-- The blocks that an order issued at the head reaches (R102 to R110). -/
def issueBlocks (a : ActiveConsist) : List Block :=
  [.moments, .cycle, .door, .tracking, .endOf a.tailward, .portOf .portA, .portOf .portB]

theorem forget_orderBegun (s : State) (a : ActiveConsist) (x : DoorAction) (y : TrainSide) (m n : Nat) :
    (s.orderBegun a x y m n).forget [.door, .tracking, .portOf .portA, .portOf .portB]
      = s.forget [.door, .tracking, .portOf .portA, .portOf .portB] := by simp [State.orderBegun]

/-- The order of the head's own, as the head keeps it (R104, R110). -/
theorem orderPlaced_items (s : State) (a : ActiveConsist) (x : DoorAction) (y : TrainSide) {m n : Nat} (first : 1 ≤ m)
    (window : m ≤ n) (head : s.heading = true) :
    let leaves := (s.lineEnd a.tailward).link = .opened
    let u := s.orderIssued a x y m n
    let t := s.orderPlaced a x y m n
    t.door = { u.door with lastReleaseSent := if leaves ∧ x = .release then some s.moment else s.door.lastReleaseSent }
      ∧ (∃ f, t.track.outstanding = some { s.newRecord a x y m n with firstSent := f }
          ∧ (a.identity.Fits → f = if leaves then some s.moment else none))
      ∧ (x = .release → t.track.proved = false ∧ t.track.lifetime = none)
      ∧ (SlotFree s a.tailward .door → InSlot t a.tailward .door (s.newFrame a x y m n))
      ∧ t.forget (issueBlocks a) = s.forget (issueBlocks a) := by
  obtain ⟨begunDoor, begunTrack, -⟩ := orderBegun_items (s := s) (a := a) (x := x) (y := y) first window
  have begun := forget_orderBegun s a x y m n
  have taken := orderIssued_taken s a x y m n
  generalize hb : s.orderBegun a x y m n = b at begunDoor begunTrack begun taken
  generalize hu : s.orderIssued a x y m n = u at taken
  have headB : b.heading = true := (heading_of_inaug (sameBlock_of_forget begun .inauguration (by simp))).trans head
  have endsB (e : EndId) : b.lineEnd e = s.lineEnd e := sameBlock_of_forget begun (.endOf e) (by simp)
  have moments : u.moments = s.moments := taken.moments.trans (sameBlock_of_forget begun .moments (by simp))
  have now : u.now = s.now := (skeleton_now taken.skeleton).trans (sameBlock_of_forget begun .clock (by simp))
  have moment : u.moment = s.moment := by rw [moment_eq, moment_eq, moments, now]
  have link : (u.lineEnd a.tailward).link = (s.lineEnd a.tailward).link := by rw [taken.link, endsB]
  have free (f : SlotFree s a.tailward .door) : SlotFree u a.tailward .door := taken.slotFree (slotFree_of_lineEnd (endsB _) f)
  have lastRelease : u.door.lastReleaseSent = s.door.lastReleaseSent := by rw [taken.door, begunDoor]
  have track : u.track.outstanding = some (s.newRecord a x y m n) := by rw [taken.track, begunTrack]
  obtain ⟨door, outstanding, stands, rest⟩ := placeOrder_items u a (s.newFrame a x y m n)
  have action : (OrderFrame.ofPayload (s.newFrame a x y m n).payload).action = 1 ↔ x = .release := code_eq_release x
  have id : (OrderFrame.ofPayload (s.newFrame a x y m n).payload).id = nextWrap 255 s.door.orderCounter :=
    orderFrame_id (nextWrap_le_255 _)
  have whole : u.forget (issueBlocks a) = s.forget (issueBlocks a) :=
    (forget_mono (taken.head headB) (by simp [headSideBlocks, issueBlocks])).trans
      (forget_mono begun (by simp [issueBlocks]))
  rw [link, moment, lastRelease] at door
  rw [link, moment, track, id] at outstanding
  simp only [action] at door
  have record : ∃ f, (u.placeOrder a (s.newFrame a x y m n)).track.outstanding = some { s.newRecord a x y m n with firstSent := f }
      ∧ (a.identity.Fits → f = if (s.lineEnd a.tailward).link = .opened then some s.moment else none) := by
    rw [outstanding, Option.map_some]
    split
    · next sent => exact ⟨_, rfl, fun _ => (if_pos sent.1).symm⟩
    · next kept =>
      refine ⟨none, rfl, fun fits => (if_neg fun leaves => kept ⟨leaves, rfl, ?_, rfl⟩).symm⟩
      exact orderFrame_identity (f := { identity := a.identity, id := _, action := _, side := _, first := _, last := _, flags := _ }) fits
  have placed : (u.placeOrder a (s.newFrame a x y m n)).forget (issueBlocks a) = s.forget (issueBlocks a) :=
    (forget_mono rest (by simp [doorReturnBlocks, issueBlocks, ActiveConsist.tailward])).trans whole
  unfold State.orderPlaced
  simp only [hu]
  split
  · refine ⟨by rw [unprove_door, door], by rw [track_unprove]; exact record, fun _ => ?_, fun f => ?_, ?_⟩
    · rw [track_unprove]
      exact ⟨rfl, rfl⟩
    · exact inSlot_of_lineEnd (sameBlock_of_forget (L := [.tracking, .portOf .portA, .portOf .portB]) (by simp)
        (.endOf a.tailward) (by simp)) (stands (free f))
    · rw [forget_unprove _ _ (by simp [issueBlocks]) (by simp [issueBlocks]), placed]
  · next other => exact ⟨door, record, fun release => absurd release other, fun f => stands (free f), placed⟩

/-- What the head shows of an order that it issues beside its own sides and the record (R102, R103). -/
theorem orderPlaced_gentle (s : State) (a : ActiveConsist) (x : DoorAction) (y : TrainSide) (m n : Nat) :
    Gentle (s.orderIssued a x y m n) (s.orderPlaced a x y m n) := by
  unfold State.orderPlaced
  simp only
  split
  · exact (Gentle.refl _).placeOrder.unprove
  · exact (Gentle.refl _).placeOrder

theorem requestCall_door (s : State) : s.requestCall.door = s.door := by
  unfold State.requestCall
  split <;> rfl

theorem requestCall_track (s : State) : s.requestCall.track = s.track := by
  unfold State.requestCall
  split <;> rfl

theorem requestCall_lineEnd (s : State) (e : EndId) : s.requestCall.lineEnd e = s.lineEnd e :=
  sameBlock_of_forget (L := [.cycle]) (by simp) (.endOf e) (by simp)

/-- What an order meets at a node rests on the power state, the attendance and the status (R91, R92). -/
theorem orderOutcome_congr {o : DoorOrder} (attended : t.door.attended = s.door.attended)
    (status : t.door.status = s.door.status) (power : t.power = s.power) : t.orderOutcome a o = s.orderOutcome a o := by
  have outcome : t.releaseOutcome o.standstill = s.releaseOutcome o.standstill := by
    funext i
    unfold State.releaseOutcome State.ready
    rw [attended, status, power]
  unfold State.orderOutcome
  rw [outcome]

/-- An order that the head has issued (R102 to R110): what it made of the Door Unit, the record, the End and the cycle. -/
structure OrderIssued (s : State) (a : ActiveConsist) (x : DoorAction) (y : TrainSide) (m n : Nat) (t : State) : Prop where
  door : t.door = { s.door with
    side1 := t.door.side1, side2 := t.door.side2, orderCounter := nextWrap 255 s.door.orderCounter
    lastOrderId := nextWrap 255 s.door.orderCounter, lastOutcome := s.orderOutcome a (s.newOrder x y m n)
    lastReleaseSent :=
      if (s.lineEnd a.tailward).link = .opened ∧ x = .release then some s.moment else s.door.lastReleaseSent }
  sides : ∀ i, t.door.side i = if (s.newOrder x y m n).addresses a.position = true ∧ i ∈ mapSides a.orientation y
    then s.sideActed (s.newOrder x y m n) i else s.door.side i
  record : ∃ f, t.track.outstanding = some { s.newRecord a x y m n with firstSent := f }
    ∧ (a.identity.Fits → f = if (s.lineEnd a.tailward).link = .opened then some s.moment else none)
  unproved : x = .release → t.track.proved = false ∧ t.track.lifetime = none
  raised : RaisedAt .orderReceived t
  complete : a.length < m → RaisedAt .orderComplete t
  closed : x = .close → y = .both → (s.newOrder x y m n).addresses a.position = true → (∃ i, s.closes i) →
    RaisedAt .sideStateChanged t
  calls : t.cycle.callRequested = true
  stands : SlotFree s a.tailward .door → InSlot t a.tailward .door (s.newFrame a x y m n)

theorem orderIssued (s : State) (a : ActiveConsist) (x : DoorAction) (y : TrainSide) {m n : Nat} (first : 1 ≤ m)
    (window : m ≤ n) (head : s.heading = true) : OrderIssued s a x y m n (s.issue a x y m n)
      ∧ (s.issue a x y m n).forget (issueBlocks a) = s.forget (issueBlocks a) := by
  obtain ⟨begunDoor, -, complete⟩ := orderBegun_items (s := s) (a := a) (x := x) (y := y) first window
  have begun := forget_orderBegun s a x y m n
  have taken := orderIssued_taken s a x y m n
  obtain ⟨door, record, unproved, stands, rest⟩ := orderPlaced_items s a x y first window head
  have gentle := orderPlaced_gentle s a x y m n
  have power : (s.orderBegun a x y m n).power = s.power := sameBlock_of_forget begun .power (by simp)
  have now : (s.orderBegun a x y m n).now = s.now := sameBlock_of_forget begun .clock (by simp)
  have side (i : SideId) : (s.orderBegun a x y m n).door.side i = s.door.side i := by rw [begunDoor]; cases i <;> rfl
  have attended : (s.orderBegun a x y m n).door.attended = s.door.attended := by rw [begunDoor]
  have status : (s.orderBegun a x y m n).door.status = s.door.status := by rw [begunDoor]
  have acts (i : SideId) : (s.orderBegun a x y m n).sideActed (s.newOrder x y m n) i = s.sideActed (s.newOrder x y m n) i :=
    sideActed_congr (side i) attended status power now
  have headed : (s.orderPlaced a x y m n).heading = true :=
    (heading_of_inaug (sameBlock_of_forget rest .inauguration (by simp [issueBlocks]))).trans head
  rw [issue_eq]
  refine ⟨⟨?_, fun i => ?_, ?_, fun release => ?_, taken.raised _ gentle.requestCall,
    fun behind => complete behind _ (taken.gentle.trans gentle).requestCall, fun close both addressed => ?_, ?_, fun free => ?_⟩,
    ?_⟩
  · rw [requestCall_door, door, taken.door, begunDoor, orderOutcome_congr attended status power]
    rfl
  · have kept : (s.orderPlaced a x y m n).door.side i = (s.orderIssued a x y m n).door.side i := by rw [door]; cases i <;> rfl
    rw [requestCall_door, kept, taken.sides, acts, side]
    rfl
  · rw [requestCall_track]
    exact record
  · rw [requestCall_track]
    exact unproved release
  · rintro ⟨i, closes⟩
    have closesB : (s.orderBegun a x y m n).closes i := by
      unfold State.closes State.sideState at closes ⊢
      rw [side, status]
      exact closes
    exact takeOrder_tellsClose (o := s.newOrder x y m n) close both addressed closesB gentle.requestCall
  · rw [requestCall_cycle, headed]
    exact Bool.or_true _
  · exact inSlot_of_lineEnd (requestCall_lineEnd _ _) (stands free)
  · rw [forget_requestCall _ _ (by simp [issueBlocks]), rest]

end Sys2Proof.Machine

/-! PROOF. The resets of the Door Unit, its timers, and Train Doors Open (R87, R89, R99, R107, R116 to R118): O12, O50, O51. -/

namespace Sys2Proof.Machine

variable {s t : State} {a : ActiveConsist} {i : SideId} {p : PortId}

/-! ## Resets -/

/-- Node Reset puts the Door Unit and its record to their reset values (R107, R186). -/
theorem nodeReset_door (s : State) : s.nodeReset.door = .reset ∧ s.nodeReset.track = .reset := by
  have still : s.nodeReset.forget [.inauguration, .cycle, .stages, .endOf .end1, .endOf .end2, .portOf .portA, .portOf .portB]
      = s.resetBlocks.forget [.inauguration, .cycle, .stages, .endOf .end1, .endOf .end2, .portOf .portA, .portOf .portB] := by
    unfold State.nodeReset
    simp only
    split <;> simp
  exact ⟨sameBlock_of_forget still .door (by simp), sameBlock_of_forget still .tracking (by simp)⟩

theorem answer_door (s : State) (p : PortId) (x : CommandResult) (y : Option Reason) (n : Nat) :
    (s.answer p x y n).door = s.door ∧ (s.answer p x y n).track = s.track := by
  have still : (s.answer p x y n).forget [.portOf p] = s.forget [.portOf p] := by simp
  exact ⟨sameBlock_of_forget still .door (by simp), sameBlock_of_forget still .tracking (by simp)⟩

/-- NODE_RESET answers, its Door Unit reset (R107). -/
theorem exec_nodeReset_door (h : Admitted s p none) :
    ∃ t, exec (.nodeReset p) s = .next t ∧ t.door = .reset ∧ t.track = .reset := by
  obtain ⟨door, track⟩ := nodeReset_door (s.wrote p opcodeAddress)
  obtain ⟨doorT, trackT⟩ := answer_door (s.wrote p opcodeAddress).nodeReset p .done none 0
  exact ⟨_, congrArg Host.Outcome.next (command_done s p none (fun _ => none) State.nodeReset (fun _ => 0) h rfl),
    doorT.trans door, trackT.trans track⟩

/-- Settles O12: every node-level reset puts the Door Unit and the record of the order to their reset values. -/
theorem everyNodeLevelResetClearsTheHeadPartOfTheDoorUnit :
    Obligations.EveryNodeLevelResetClearsTheHeadPartOfTheDoorUnit := by
  refine fun s p => ⟨fun c hc => ⟨s.hardReset, ?_, rfl, rfl, rfl, rfl, rfl, rfl, rfl, rfl⟩, fun h => ?_⟩
  · simp only [List.mem_cons, List.not_mem_nil, or_false] at hc
    rcases hc with rfl | rfl <;> rfl
  · obtain ⟨t, runs, door, track⟩ := exec_nodeReset_door h
    refine ⟨t, runs, ?_⟩
    unfold DoorHeadReset
    rw [door, track]
    exact ⟨rfl, rfl, rfl, rfl, rfl, rfl, rfl, rfl⟩

/-! ## Timers of the Door Unit -/

/-- The Proof takes a value (R116, R117). -/
theorem setProof_track (s : State) (v : Bool) : (s.setProof v).track = { s.track with proved := v } := by
  unfold State.setProof
  split
  · next same => rw [← same]
  · rw [raise_track]; rfl

/-- A Proof that changes is told once, and one that stays is not (R119). -/
theorem setProof_told (s : State) (v : Bool) :
    (s.track.proved = v → NoEvent s (s.setProof v)) ∧ (s.track.proved ≠ v → RaisedOnly .proofChanged s (s.setProof v)) := by
  unfold State.setProof
  refine ⟨fun same => ?_, fun differs => ?_⟩
  · rw [if_pos same]
    exact fun _ => rfl
  · rw [if_neg differs]
    exact fun q => by rw [raise_raisedOnly, port_modTrack]

theorem unprove_told (s : State) :
    (s.track.proved = false → NoEvent s s.unprove) ∧ (s.track.proved ≠ false → RaisedOnly .proofChanged s s.unprove) := by
  obtain ⟨quiet, told⟩ := setProof_told (s.modTrack fun t => { t with lifetime := none }) false
  exact ⟨fun same q => (quiet same q).trans (by simp), fun differs q => (told differs q).trans (by simp)⟩

theorem exec_closeTimerExpiry {d : Nat} (free : s.power.held = false) (hd : (s.door.side i).closeTimer = some d) :
    exec (.closeTimerExpiry i) s = .next (((s.reach d).modDoor fun x =>
      x.setSide i { x.side i with closeTimer := none, overdue := true }).raise .closeOverdue) := by
  show Host.Outcome.next (s.live fun s => s.closeTimerExpiry i) = _
  rw [live_of_free _ _ free, State.closeTimerExpiry, hd, expire_some]

theorem exec_proofLifetimeExpiry {d : Nat} (free : s.power.held = false) (hd : s.track.lifetime = some d) :
    exec .proofLifetimeExpiry s = .next (s.reach d).unprove := by
  show Host.Outcome.next (s.live fun s => s.proofLapse) = _
  rw [live_of_free _ _ free, State.proofLapse, hd, expire_some]

/-- A node that has become UNATTENDED, its sides as they were (R89). -/
def State.unattended (s : State) : State := (s.modDoor fun d => { d with attended := false, attendanceTimer := none }).sourceChanged

theorem exec_attendanceTimerExpiry {d : Nat} (free : s.power.held = false) (hd : s.door.attendanceTimer = some d) :
    exec .attendanceTimerExpiry s
      = .next (((s.reach d).unattended.bothSides fun s i => s.withdrawSide i).raise .attendanceLapsed) := by
  show Host.Outcome.next (s.live fun s => s.attendanceLapse) = _
  rw [live_of_free _ _ free, State.attendanceLapse, hd, expire_some]
  rfl

/-- A node becomes UNATTENDED and its releases end (R89). -/
theorem unattended_items (s : State) : let t := (s.unattended.bothSides fun s i => s.withdrawSide i).raise .attendanceLapsed
    t.door.attended = false ∧ t.door.attendanceTimer = none
      ∧ (∀ i, t.sideState i = if s.sideState i = .released then .withdrawn else s.sideState i)
      ∧ t.skeleton = s.skeleton := by
  have door : s.unattended.door = { s.door with attended := false, attendanceTimer := none } := sourceChanged_door _
  obtain ⟨moved, sides⟩ := SideRule.withdrawSide.both s.unattended
  refine ⟨by rw [raise_door, moved.door, door], by rw [raise_door, moved.door, door], fun i => ?_, ?_⟩
  · have state : s.unattended.sideState i = s.sideState i := by
      unfold State.sideState
      rw [door]
      cases i <;> rfl
    rw [← state, ← state_sideWithdrawn, ← sides, State.sideState, raise_door]
  · rw [skel_raise, moved.skeleton]
    simp [State.unattended]

/-! ## The proof -/

theorem leftAfter_iff (call release : Option Moment) : leftAfter call release = true
    ↔ ∀ m, release = some m → ∃ c, call = some c ∧ m.order < c.order := by
  cases release with
  | none => simp [leftAfter]
  | some m => cases call <;> simp [leftAfter, Moment.after]

theorem proves_iff (r : CycleRecord) : r.proves = true ↔ hasBit r.nodeFlags 0 = false ∧ hasBit r.nodeFlags 1 = false
    ∧ hasBit r.doorFlags 4 = true ∧ hasBit r.doorFlags 5 = true ∧ hasBit r.doorFlags 0 = false
    ∧ hasBit r.doorFlags 1 = false ∧ hasBit r.doorFlags 2 = false ∧ hasBit r.doorFlags 3 = false := by
  simp [CycleRecord.proves, CycleRecord.readyAttended, CycleRecord.bothLocked, CycleRecord.doorOpen, and_assoc]

/-- What proves the train closed (R116). -/
def State.provesClosed (s : State) (records : List CycleRecord) : Bool :=
  leftAfter s.cycle.lastCallLeft s.door.lastReleaseSent && records.all (·.proves)

theorem evaluateProof_proves {length : Nat} {records : List CycleRecord} (h : s.provesClosed records = true) :
    s.evaluateProof length records = (s.modTrack fun t => { t with
      lifetime := some (s.now + (s.cycle.timing.quietRefresh + (10 + length)) * 1000), lastProved := s.cycle.number }).setProof
        true := by
  rw [← timerMs_eq]
  exact if_pos h

theorem evaluateProof_fails {length : Nat} {records : List CycleRecord} (h : ¬s.provesClosed records = true) :
    s.evaluateProof length records = s.unprove := if_neg h

/-- The evaluation tells where the Proof changes (R119). -/
theorem evaluateProof_told (s : State) (length : Nat) (records : List CycleRecord) : let t := s.evaluateProof length records
    (s.track.proved = t.track.proved → NoEvent s t) ∧ (s.track.proved ≠ t.track.proved → RaisedOnly .proofChanged s t) := by
  simp only
  by_cases h : s.provesClosed records = true
  · rw [evaluateProof_proves h, setProof_track]
    generalize hu : (s.modTrack _) = u
    have ports (q : PortId) : u.port q = s.port q := by rw [← hu]; simp
    have proved : u.track.proved = s.track.proved := by rw [← hu]; rfl
    obtain ⟨quiet, told⟩ := setProof_told u true
    exact ⟨fun same q => (quiet (proved.trans same) q).trans (by rw [ports]),
      fun differs q => (told (fun same => differs (proved.symm.trans same)) q).trans (by rw [ports])⟩
  · rw [evaluateProof_fails h, track_unprove]
    exact unprove_told s

/-- Settles O50, timer by timer, and by whether a RETURN proves the train closed. -/
theorem doorTimersLapse : Obligations.DoorTimersLapse := by
  refine ⟨fun s d free => ⟨fun i hd => ?_, fun hd => ?_, fun hd => ?_⟩, fun _ _ _ => rfl, fun s length records => ?_⟩
  · refine ⟨_, exec_closeTimerExpiry free hd, skeleton_now (skel_raise _ _), ?_, ?_,
      fun q => by rw [raise_raisedOnly, port_modDoor, port_reach], ?_⟩
    · rw [raise_door, modDoor_door, side_setSide, if_pos rfl, reach_door]
    · rw [State.sideState, raise_door, modDoor_door, side_setSide, if_pos rfl, reach_door]
      rfl
    · rw [onlyChanges_iff_forget]; simp
  · obtain ⟨attended, timer, sides, still⟩ := unattended_items (s.reach d)
    have raises := onlyRaises_of_skeleton still
    refine ⟨_, exec_attendanceTimerExpiry free hd, skeleton_now still, attended, timer, sides, Gentle.raised (.refl _),
      fun q => ?_, ?_⟩
    · have told := raises q
      rw [port_reach] at told
      exact told
    · rw [onlyChanges_iff_forget]; simp [State.unattended]
  · have track := track_unprove (s.reach d)
    refine ⟨_, exec_proofLifetimeExpiry free hd, skeleton_now (skel_unprove _), track, ?_, fun proved q => ?_, ?_⟩
    · rw [State.provedPin, track]
    · have told := (unprove_told (s.reach d)).2 (by rw [reach_track, proved]; decide) q
      rw [port_reach] at told
      exact told
    · rw [onlyChanges_iff_forget]; simp
  · have closed : s.provesClosed records = true
        ↔ (∀ m, s.door.lastReleaseSent = some m → ∃ c, s.cycle.lastCallLeft = some c ∧ m.order < c.order)
          ∧ ∀ r ∈ records, hasBit r.nodeFlags 0 = false ∧ hasBit r.nodeFlags 1 = false
            ∧ hasBit r.doorFlags 4 = true ∧ hasBit r.doorFlags 5 = true ∧ hasBit r.doorFlags 0 = false
            ∧ hasBit r.doorFlags 1 = false ∧ hasBit r.doorFlags 2 = false ∧ hasBit r.doorFlags 3 = false := by
      unfold State.provesClosed
      simp only [Bool.and_eq_true, leftAfter_iff, List.all_eq_true, proves_iff]
    simp only
    rw [← closed]
    obtain ⟨quiet, told⟩ := evaluateProof_told s length records
    refine ⟨fun h => ?_, fun h => ?_, quiet, told, ?_⟩
    · have track : (s.evaluateProof length records).track = { s.track with
          proved := true, lifetime := some (s.now + (s.cycle.timing.quietRefresh + (10 + length)) * 1000)
          lastProved := s.cycle.number } := by rw [evaluateProof_proves h, setProof_track]; rfl
      exact ⟨track, by rw [State.provedPin, track]⟩
    · have track : (s.evaluateProof length records).track = { s.track with proved := false, lifetime := none } := by
        rw [evaluateProof_fails h, track_unprove]
      exact ⟨track, by rw [State.provedPin, track]⟩
    · rw [onlyChanges_iff_forget]; simp

/-! ## Train Doors Open -/

/-- A successful RETURN shows whether a door of the train is open (R99). -/
theorem evaluateReturn_trainDoorsOpen {short : Bool} {records : List CycleRecord}
    (h : judgeReturn a.length short records = none) :
    (s.evaluateReturn a short records).door.trainDoorsOpen = records.any (·.doorOpen) := by
  obtain ⟨m, door⟩ := doorReturn_door s a records
  have settles (u : State) : (u.settle a false records).door = u.door :=
    sameBlock_of_forget (L := [.cycle, .stages, .grants, .endOf .end1, .endOf .end2, .portOf .portA, .portOf .portB])
      (by simp) .door (by simp)
  rw [evaluateReturn_none h, settles, modCycle_door, (heard_doorReturn s a records).2.1, door]

/-- A failing RETURN that ends no consist leaves the Door Unit as it was (R77, R99). -/
theorem returnFails_door {c : CycleFailure} {records : List CycleRecord} (stays : ¬(c = .unplaced ∨ 2 ≤ s.cycle.failures)) :
    (s.returnFails a c records).door = s.door := by
  rw [returnFails_stays stays]
  exact sameBlock_of_forget (L := [.cycle, .tracking, .stages, .grants, .endOf .end1, .endOf .end2, .portOf .portA
    , .portOf .portB]) (by simp) .door (by simp)

/-- An order that the head issues leaves Train Doors Open as it was (R99, R102). -/
theorem issue_trainDoorsOpen (s : State) (a : ActiveConsist) (x : DoorAction) (y : TrainSide) (m n : Nat) :
    (s.issue a x y m n).door.trainDoorsOpen = s.door.trainDoorsOpen := by
  obtain ⟨k, placed⟩ := placeOrder_door (s.orderIssued a x y m n) a (s.newFrame a x y m n)
  have open' : ((s.orderIssued a x y m n).placeOrder a (s.newFrame a x y m n)).door.trainDoorsOpen = s.door.trainDoorsOpen := by
    rw [placed, (orderIssued_taken s a x y m n).door, orderBegun_door]
  rw [issue_eq, requestCall_door]
  unfold State.orderPlaced
  simp only
  split
  · rw [unprove_door, open']
  · exact open'

/-- A node that leaves HEADING shows no open door of a train (R99). -/
theorem leaveHeading_trainDoorsOpen (s : State) (i : Identity) : (s.leaveHeading i).door.trainDoorsOpen = false := by
  have door (u : State) : (u.doorLeavesHeading.grantLeavesHeading).door = { u.door with trainDoorsOpen := false } :=
    unprove_door _
  unfold State.leaveHeading
  rw [door]

/-- The Door Status shows Train Doors Open in its byte 6 (R99, 12.4). -/
theorem areaBytes_trainDoorsOpen (s : State) (p : PortId) : hasBit (byteAt (s.areaBytes p 6) 6) 1 = s.door.trainDoorsOpen := by
  have shown : byteAt (s.areaBytes p 6) 6 = flagBit s.door.headStandstill 0 ||| flagBit s.door.trainDoorsOpen 1 := rfl
  rw [shown]
  cases s.door.headStandstill <;> cases s.door.trainDoorsOpen <;> decide

/-- Settles O51, by what each operation of the Door Unit makes of the item. -/
theorem trainDoorsOpenFollowsTheLastCompleteRoll : Obligations.TrainDoorsOpenFollowsTheLastCompleteRoll := by
  refine ⟨fun s a short records => ⟨evaluateReturn_trainDoorsOpen, fun c fails consist few => ?_⟩,
    issue_trainDoorsOpen, fun s r n others b => ?_, fun s r f => ?_, fun s a next cause head => ?_,
    fun s p => ⟨fun c hc => ⟨s.hardReset, ?_, rfl⟩, fun h => ?_⟩, areaBytes_trainDoorsOpen⟩
  · rw [evaluateReturn_some fails, returnFails_door (by rintro (unplaced | many); exacts [consist unplaced, by omega])]
  · obtain ⟨-, -, -, -, -, door, -⟩ := commit_items s r n others b
    obtain ⟨-, -, claimed, -⟩ := claimed_items s r n others b
    rw [door, claimed]
  · obtain ⟨-, -, -, -, -, door, -⟩ := acceptCommit_items s r f
    rw [door]
  · rw [leaveMember_head head, leaveHeading_trainDoorsOpen]
  · simp only [List.mem_cons, List.not_mem_nil, or_false] at hc
    rcases hc with rfl | rfl <;> rfl
  · obtain ⟨t, runs, door, -⟩ := exec_nodeReset_door h
    exact ⟨t, runs, by rw [door]; rfl⟩

end Sys2Proof.Machine

/-! PROOF. Write Door Status and Local Close at the sides, and an ORDER at a node (R88, R90 to R93, R97): O48, O49. -/

namespace Sys2Proof.Machine

variable {s t : State} {a : ActiveConsist} {i : SideId} {p : PortId}

/-! ## Write Door Status -/

theorem wrote_door (s : State) (p : PortId) (n : Nat) : (s.wrote p n).door = s.door := by cases p <;> rfl

theorem wrote_track (s : State) (p : PortId) (n : Nat) : (s.wrote p n).track = s.track := by cases p <;> rfl

theorem wrote_now (s : State) (p : PortId) (n : Nat) : (s.wrote p n).now = s.now := by cases p <;> rfl

theorem wrote_power (s : State) (p : PortId) (n : Nat) : (s.wrote p n).power = s.power := by cases p <;> rfl

theorem wrote_inaug (s : State) (p : PortId) (n : Nat) : (s.wrote p n).inaug = s.inaug := by cases p <;> rfl

theorem state_sideReported (s : State) (i : SideId) : (s.sideReported i).state =
    if s.sideState i = .closing ∧ s.door.status.closedLocked i = true then .withdrawn
    else if s.sideState i = .released ∧ s.door.status.lockedOut i = true then .withdrawn
    else s.sideState i := by
  unfold State.sideReported
  simp only [and_comm (b := s.sideState i = .closing)]
  split
  · rfl
  · cases locked : s.door.status.lockedOut i with
    | true =>
      simp only [if_true, and_true]
      exact state_sideWithdrawn s i
    | false =>
      simp only [Bool.false_eq_true, if_false, and_false]
      rfl

/-- A reported status makes the node attended, and ends closings and releases (R88). -/
theorem writeDoorStatus_items (s : State) (x : DoorStatus) : let t := s.writeDoorStatus x
    t.door.status = x ∧ t.door.attended = true
      ∧ t.door.attendanceTimer = some (s.now + s.power.record.attendance * 10 * 1000)
      ∧ (∀ i, t.sideState i =
          if s.sideState i = .closing ∧ x.closedLocked i = true then .withdrawn
          else if s.sideState i = .released ∧ x.lockedOut i = true then .withdrawn
          else s.sideState i)
      ∧ t.door.lastOrderId = s.door.lastOrderId ∧ t.door.lastOutcome = s.door.lastOutcome := by
  unfold State.writeDoorStatus
  simp only [timerMs_eq]
  generalize hu : State.sourceChanged _ = u
  have door : u.door = { s.door with
      status := x, attended := true, attendanceTimer := some (s.now + s.power.record.attendance * 10 * 1000) } := by
    rw [← hu, sourceChanged_door]; rfl
  obtain ⟨moved, sides⟩ := SideRule.statusSide.both u
  refine ⟨by rw [moved.door, door], by rw [moved.door, door], by rw [moved.door, door], fun i => ?_,
    by rw [moved.door, door], by rw [moved.door, door]⟩
  have state : u.sideState i = s.sideState i := by
    unfold State.sideState
    rw [door]
    cases i <;> rfl
  have status : u.door.status = x := by rw [door]
  rw [State.sideState, sides, state_sideReported, state, status]

/-! ## Local Close -/

theorem state_sideShut (s : State) (i : SideId) : (s.sideShut i).state =
    if s.sideState i = .released ∨ s.sideState i = .withdrawn ∧ s.door.status.closedLocked i = false then .closing
    else s.sideState i := by
  unfold State.sideShut
  split
  · rfl
  · rfl

theorem localClose_items (s : State) (n : Nat) : let t := s.localClose (closeSides n)
    (∀ i, t.sideState i = if i ∈ closeSides n
        ∧ (s.sideState i = .released ∨ s.sideState i = .withdrawn ∧ s.door.status.closedLocked i = false)
      then .closing else s.sideState i)
      ∧ t.door.lastOrderId = s.door.lastOrderId ∧ t.door.lastOutcome = s.door.lastOutcome := by
  obtain ⟨moved, sides⟩ := SideRule.closeSide.inTurn (once_closeSides n) s
  refine ⟨fun i => ?_, ?_, ?_⟩
  · unfold State.localClose
    rw [State.sideState, sides, apply_ite DoorSide.state, state_sideShut]
    by_cases named : i ∈ closeSides n
    · simp only [named, if_true, true_and]
    · simp only [named, if_false, false_and]
      rfl
  · unfold State.localClose
    rw [moved.door]
  · unfold State.localClose
    rw [moved.door]

/-- The sides that Local Close names (12.4). -/
theorem mem_closeSides {n : Nat} (named : n = 1 ∨ n = 2 ∨ n = 3) (i : SideId) :
    i ∈ closeSides n ↔ i = .side1 ∧ n ≠ 2 ∨ i = .side2 ∧ n ≠ 1 := by
  rcases named with rfl | rfl | rfl <;> cases i <;> decide

theorem closeSides_isEmpty {n : Nat} (named : n = 1 ∨ n = 2 ∨ n = 3) : (closeSides n).isEmpty = false := by
  rcases named with rfl | rfl | rfl <;> rfl

/-- A command of the Door Unit that passes its check: it is answered DONE, and the Door Unit shows what it did (R171). -/
theorem doorCommand {need : Need} {check : State → Option Reason} {act : State → State} (h : Admitted s p need)
    (passes : check (s.wrote p opcodeAddress) = none)
    (same : (act (s.wrote p opcodeAddress)).skeleton = (s.wrote p opcodeAddress).skeleton)
    (changes : (act (s.wrote p opcodeAddress)).forget [.portOf .portA, .portOf .portB, .door, .cycle, .endOf .end1, .endOf .end2]
      = (s.wrote p opcodeAddress).forget [.portOf .portA, .portOf .portB, .door, .cycle, .endOf .end1, .endOf .end2]) :
    DoneAt p [.door, .cycle, .endOf .end1, .endOf .end2] s (s.plainCommand p need check act)
      ∧ (s.plainCommand p need check act).door = (act (s.wrote p opcodeAddress)).door := by
  refine ⟨engineDoneAt _ h passes same changes, ?_⟩
  rw [State.plainCommand, command_done s p need check act (fun _ => 0) h passes]
  exact (answer_door _ p .done none 0).1

/-- Settles O49: a reported status and a Local Close, each side as the rule for it says. -/
theorem doorStatusAndLocalCloseActOnTheSides : Obligations.DoorStatusAndLocalCloseActOnTheSides := by
  intro s p h
  have doorW := wrote_door s p opcodeAddress
  have stateW (i : SideId) := sideState_of_door doorW i
  refine ⟨?_, fun empty => ⟨_, rfl, ?_⟩, fun named => ?_⟩
  · obtain ⟨done, door⟩ := doorCommand (check := fun _ => none) (act := fun s => s.writeDoorStatus (.ofByte (s.operand p 1)))
      h rfl (skel_writeDoorStatus _ _) (by simp)
    obtain ⟨status, attended, timer, sides, order, outcome⟩ :=
      writeDoorStatus_items (s.wrote p opcodeAddress) (.ofByte ((s.wrote p opcodeAddress).operand p 1))
    refine ⟨_, rfl, done, ?_, by rw [door, attended], ?_, fun i => ?_, by rw [door, order, doorW], by rw [door, outcome, doorW]⟩
    · rw [door, status, wrote_operand]
      rfl
    · rw [door, timer, wrote_now, wrote_power]
    · rw [sideState_of_door door i, sides, stateW, door, status]
  · refine command_refused s p _ _ _ _ h .range ?_
    simp only [wrote_operandNum, empty]
    rfl
  · obtain ⟨done, door⟩ := doorCommand (check := fun s => firstReason [((closeSides (s.operandNum p 1)).isEmpty, .range)])
      (act := fun s => s.localClose (closeSides (s.operandNum p 1))) h (by
        rw [wrote_operandNum, closeSides_isEmpty named]
        rfl) (skel_localClose _ _) (by simp)
    obtain ⟨sides, order, outcome⟩ := localClose_items (s.wrote p opcodeAddress) ((s.wrote p opcodeAddress).operandNum p 1)
    refine ⟨_, rfl, done, fun i => ?_, by rw [door, order, doorW], by rw [door, outcome, doorW]⟩
    rw [sideState_of_door door i, sides, stateW, doorW]
    simp only [wrote_operandNum, mem_closeSides named]

/-! ## An ORDER at a node -/

theorem mem_of_mapSides {x : Orientation} {y : TrainSide} (h : mapSides x y = [i]) (j : SideId) : j ∈ mapSides x y ↔ j = i := by
  rw [h, List.mem_singleton]

/-- An ORDER that is not used goes on (R54, R90). -/
theorem receiveOrder_passes {e : EndId} {f : Frame}
    (other : ∀ a, s.active = some a → e ≠ a.headward ∨ identityAt f.payload 0 ≠ a.identity) :
    s.receiveOrder e f = s.place e.other .door f := by
  unfold State.receiveOrder
  split
  · next a ha =>
    rw [if_neg fun fits => (other a ha).elim (· fits.1) (· fits.2)]
  · rfl

theorem handOn_order {e : EndId} {f : Frame} (kind : f.kind = .order) : s.handOn e f = s.receiveOrder e f := by
  unfold State.handOn
  rw [kind]

theorem receiveOrder_used {f : Frame} (ha : s.active = some a) (own : identityAt f.payload 0 = a.identity) :
    s.receiveOrder a.headward f = (s.restartSilence a).judgeOrder a f := by
  unfold State.receiveOrder
  rw [ha]
  exact if_pos ⟨rfl, own⟩

/-- The node that has sent an ORDER on, its silence restarted (R62, R90). -/
def State.orderSentOn (s : State) (a : ActiveConsist) (f : Frame) : State := (s.restartSilence a).place a.tailward .door f

theorem orderSentOn_items (s : State) (a : ActiveConsist) (f : Frame) (away : s.heading = false) : let t := s.orderSentOn a f
    t.inaug = { s.inaug with silence := some (s.now + a.lineSilence * 1000) } ∧ t.door = s.door ∧ t.power = s.power
      ∧ NoEvent s t ∧ (SlotFree s a.tailward .door → InSlot t a.tailward .door f)
      ∧ t.forget [.inauguration, .endOf .end1, .endOf .end2] = s.forget [.inauguration, .endOf .end1, .endOf .end2] := by
  have restarts : s.restartSilence a = s.modInaug fun i => { i with silence := some (s.now + a.lineSilence * 1000) } := by
    unfold State.restartSilence
    rw [if_neg (by rw [away]; decide), timerMs_eq]
  have still : (s.orderSentOn a f).forget [.inauguration, .endOf .end1, .endOf .end2]
      = s.forget [.inauguration, .endOf .end1, .endOf .end2] := by simp [State.orderSentOn]
  refine ⟨?_, sameBlock_of_forget still .door (by simp), sameBlock_of_forget still .power (by simp), fun q => ?_, fun free => ?_,
    still⟩
  · obtain ⟨inaug, -⟩ := place_rest (s.restartSilence a) a.tailward .door f
    rw [State.orderSentOn, inaug, restarts]
    rfl
  · rw [show (s.orderSentOn a f).port q = s.port q from sameBlock_of_forget still (.portOf q) (by simp)]
  · exact place_inSlot _ _ _ _ (slotFree_of_lineEnd (sameBlock_of_forget (L := [.inauguration]) (by simp)
      (.endOf a.tailward) (by simp)) free)

theorem judgeOrder_passes {f : Frame} (other : (OrderFrame.ofPayload f.payload).order = none
    ∨ ∃ o, (OrderFrame.ofPayload f.payload).order = some o ∧ o.id = s.door.lastOrderId) :
    s.judgeOrder a f = s.place a.tailward .door f := by
  unfold State.judgeOrder
  rcases other with none | ⟨o, order, again⟩
  · rw [none]
  · rw [order]
    exact if_pos again

theorem judgeOrder_takes {f : Frame} {o : DoorOrder} (order : (OrderFrame.ofPayload f.payload).order = some o)
    (new : o.id ≠ s.door.lastOrderId) : s.judgeOrder a f = (s.place a.tailward .door f).takeOrder a o := by
  unfold State.judgeOrder
  rw [order]
  exact if_neg new

/-- Inside the window no CLOSE and no WITHDRAW leaves a side that it addresses RELEASED (R93). -/
theorem sideActed_ends {o : DoorOrder} (ends : o.action ≠ .release) (i : SideId) : (s.sideActed o i).state ≠ .released := by
  unfold State.sideActed
  cases action : o.action with
  | release => exact absurd action ends
  | close =>
    simp only
    rw [state_sideShut]
    split
    · decide
    · next open' => exact fun released => open' (.inl released)
  | withdraw =>
    simp only
    rw [state_sideWithdrawn]
    split
    · decide
    · assumption

theorem orderOutcome_outside {o : DoorOrder} (h : o.addresses a.position = false) : s.orderOutcome a o = .notAddressed := by
  unfold State.orderOutcome
  rw [h]
  rfl

theorem orderOutcome_ends {o : DoorOrder} (h : o.addresses a.position = true) (ends : o.action ≠ .release) :
    s.orderOutcome a o = .applied := by
  unfold State.orderOutcome
  rw [if_pos h]
  cases action : o.action with
  | release => exact absurd action ends
  | close => rfl
  | withdraw => rfl

/-- A RELEASE of one side meets the checks of that side (R91, R92). -/
theorem orderOutcome_release {o : DoorOrder} (h : o.addresses a.position = true) (release : o.action = .release)
    (one : mapSides a.orientation o.side = [i]) : s.orderOutcome a o = s.releaseOutcome o.standstill i := by
  unfold State.orderOutcome
  rw [if_pos h, release, one]
  simp only [List.map_cons, List.map_nil, firstRefusal]
  split
  · next applied => exact applied.symm
  · rfl

theorem sideActed_release {o : DoorOrder} (release : o.action = .release) : s.sideActed o i
    = if s.releaseOutcome o.standstill i = .applied then s.sideTaken .released i else s.door.side i := by
  unfold State.sideActed
  rw [release]

/-- A RELEASE of one side at a node that it addresses (R92). -/
theorem OrderTaken.release {o : DoorOrder} (h : OrderTaken s a o t) (addressed : o.addresses a.position = true)
    (release : o.action = .release) (one : mapSides a.orientation o.side = [i]) :
    t.door.lastOutcome = s.releaseOutcome o.standstill i
      ∧ (s.releaseOutcome o.standstill i = .applied → t.sideState i = .released)
      ∧ (s.releaseOutcome o.standstill i ≠ .applied → ∀ j, t.door.side j = s.door.side j) := by
  refine ⟨?_, fun applied => ?_, fun refused j => ?_⟩
  · rw [h.door, orderOutcome_release addressed release one]
  · rw [State.sideState, h.sides, if_pos ⟨addressed, (mem_of_mapSides one i).2 rfl⟩, sideActed_release release, if_pos applied,
      state_sideTaken]
  · rw [h.sides, sideActed_release release]
    split
    · next named => rw [(mem_of_mapSides one j).1 named.2, if_neg refused]
    · rfl

/-- Settles O48: the ORDER goes on in every case, and one that is new is taken. -/
theorem anOrderIsTakenOnce : Obligations.AnOrderIsTakenOnce := by
  refine ⟨fun s e f kind other => ?_, fun s a f kind ha away own => ?_⟩
  · rw [handOn_order kind, receiveOrder_passes other]
  · simp only
    obtain ⟨inaug, door, power, quiet, stands, rest⟩ := orderSentOn_items s a f away
    have restarted : (s.restartSilence a).door = s.door := sameBlock_of_forget (L := [.inauguration]) (by simp) .door (by simp)
    have runs : s.handOn a.headward f = (s.restartSilence a).judgeOrder a f := by
      rw [handOn_order kind, receiveOrder_used ha own]
    have passes (other : (OrderFrame.ofPayload f.payload).order = none
        ∨ ∃ o, (OrderFrame.ofPayload f.payload).order = some o ∧ o.id = s.door.lastOrderId) :
        s.handOn a.headward f = s.orderSentOn a f := by
      rw [runs, judgeOrder_passes (by rw [restarted]; exact other)]
      rfl
    have takes {o : DoorOrder} (order : (OrderFrame.ofPayload f.payload).order = some o) (new : o.id ≠ s.door.lastOrderId) :
        OrderTaken (s.orderSentOn a f) a o (s.handOn a.headward f) := by
      rw [runs, judgeOrder_takes order (by rw [restarted]; exact new)]
      exact orderTaken _ _ _
    have sentOn : (s.handOn a.headward f).inaug = (s.orderSentOn a f).inaug
        ∧ (InSlot (s.orderSentOn a f) a.tailward .door f → InSlot (s.handOn a.headward f) a.tailward .door f)
        ∧ (s.handOn a.headward f).forget sideMoveBlocks = (s.orderSentOn a f).forget sideMoveBlocks := by
      cases order : (OrderFrame.ofPayload f.payload).order with
      | none =>
        rw [passes (.inl order)]
        exact ⟨rfl, id, rfl⟩
      | some o =>
        by_cases again : o.id = s.door.lastOrderId
        · rw [passes (.inr ⟨o, order, again⟩)]
          exact ⟨rfl, id, rfl⟩
        · have taken := takes order again
          exact ⟨taken.inaug, taken.inSlot, taken.rest⟩
    obtain ⟨inaugT, standsT, restT⟩ := sentOn
    refine ⟨fun free => standsT (stands free), inaugT.trans inaug, ?_, fun other => ?_, fun o order new => ?_⟩
    · rw [onlyChanges_iff_forget]
      exact (forget_mono restT (by simp [sideMoveBlocks])).trans (forget_mono rest (by simp))
    · rw [passes other]
      exact ⟨door, quiet⟩
    · have taken := takes order new
      have outcome (b : Bool) (i : SideId) : (s.orderSentOn a f).releaseOutcome b i = s.releaseOutcome b i := by
        unfold State.releaseOutcome State.ready
        rw [door, power]
      have sides (outside : ∀ i, (s.handOn a.headward f).door.side i = s.door.side i) :
          (s.handOn a.headward f).door.side1 = s.door.side1 ∧ (s.handOn a.headward f).door.side2 = s.door.side2 :=
        ⟨outside .side1, outside .side2⟩
      refine ⟨by rw [taken.door], taken.raised _ (.refl _), fun outside => ⟨?_, sides fun i => ?_⟩,
        fun addressed ends => ⟨?_, fun i named => ?_⟩, fun i addressed release one => ?_⟩
      · rw [taken.door, orderOutcome_outside outside]
      · rw [taken.sides, outside, door]
        rfl
      · rw [taken.door, orderOutcome_ends addressed ends]
      · rw [State.sideState, taken.sides, if_pos ⟨addressed, named⟩]
        exact sideActed_ends ends i
      · obtain ⟨lastOutcome, applied, refused⟩ := taken.release addressed release one
        rw [outcome] at lastOutcome applied refused
        exact ⟨lastOutcome, applied, fun why => sides fun j => (refused why j).trans (by rw [door])⟩

end Sys2Proof.Machine

/-! PROOF. An order issued by a command, and Set Standstill with its automatic CLOSE (R98 to R100, R110): O46. -/

namespace Sys2Proof.Machine

variable {s t : State} {a : ActiveConsist} {i : SideId} {p : PortId} {x : DoorAction} {y : TrainSide} {m n : Nat}

/-! ## An order issued by a command -/

theorem wrote_lineEnd (s : State) (p : PortId) (k : Nat) (e : EndId) : (s.wrote p k).lineEnd e = s.lineEnd e := by
  cases p <;> cases e <;> rfl

/-- What a written byte leaves is what an order rests on (R171). -/
theorem OrderIssued.ofWrote {k : Nat} (h : OrderIssued (s.wrote p k) a x y m n t) : OrderIssued s a x y m n t := by
  have moment : (s.wrote p k).moment = s.moment := by cases p <;> rfl
  have order : (s.wrote p k).newOrder x y m n = s.newOrder x y m n := by cases p <;> rfl
  have record : (s.wrote p k).newRecord a x y m n = s.newRecord a x y m n := by cases p <;> rfl
  have frame : (s.wrote p k).newFrame a x y m n = s.newFrame a x y m n := by cases p <;> rfl
  have doorW := wrote_door s p k
  have powerW := wrote_power s p k
  have outcome : (s.wrote p k).orderOutcome a (s.newOrder x y m n) = s.orderOutcome a (s.newOrder x y m n) :=
    orderOutcome_congr (by rw [doorW]) (by rw [doorW]) powerW
  have acts (i : SideId) : (s.wrote p k).sideActed (s.newOrder x y m n) i = s.sideActed (s.newOrder x y m n) i :=
    sideActed_congr (by rw [doorW]) (by rw [doorW]) (by rw [doorW]) powerW (wrote_now s p k)
  have closes (i : SideId) : (s.wrote p k).closes i ↔ s.closes i := by
    unfold State.closes State.sideState
    rw [doorW]
  obtain ⟨door, sides, recorded, unproved, raised, complete, closed, calls, stands⟩ := h
  rw [doorW, order, outcome, moment, wrote_lineEnd] at door
  simp only [doorW, order, acts] at sides
  simp only [record, moment, wrote_lineEnd] at recorded
  simp only [closes, order] at closed
  rw [frame] at stands
  exact ⟨door, sides, recorded, unproved, raised, complete, closed, calls,
    fun free => stands (slotFree_of_lineEnd (wrote_lineEnd _ _ _ _) free)⟩

/-- The answer of the command tells nothing of the order (R171). -/
theorem OrderIssued.answered {z : CommandResult} {why : Option Reason} {data : Nat} (h : OrderIssued s a x y m n t) :
    OrderIssued s a x y m n (t.answer p z why data) := by
  obtain ⟨door, track⟩ := answer_door t p z why data
  obtain ⟨-, cycle, ends⟩ := answer_rest t p z why data
  exact ⟨by rw [door]; exact h.door, by rw [door]; exact h.sides, by rw [track]; exact h.record, by rw [track]; exact h.unproved,
    raisedAt_answer h.raised, fun behind => raisedAt_answer (h.complete behind),
    fun close both addressed closes => raisedAt_answer (h.closed close both addressed closes),
    by rw [cycle]; exact h.calls, fun free => inSlot_of_lineEnd (ends _) (h.stands free)⟩

/-! ## Set Standstill -/

/-- A door of the train may be open (R100). -/
def State.mayBeOpen (s : State) : Prop :=
  s.door.trainDoorsOpen = true ∨ s.sideState .side1 ≠ .withdrawn ∨ s.sideState .side2 ≠ .withdrawn

theorem automaticClose_open (h : s.mayBeOpen) : s.automaticClose a = s.issue a .close .both 1 32 :=
  if_pos (by simpa [State.mayBeOpen, or_assoc] using h)

theorem automaticClose_shut (h : ¬s.mayBeOpen) : s.automaticClose a = s := if_neg (by simpa [State.mayBeOpen, or_assoc] using h)

/-- The head with its Standstill flag stored (R98). -/
def State.standing (s : State) (v : Bool) : State := s.modDoor fun d => { d with headStandstill := v }

theorem mayBeOpen_standing (s : State) (v : Bool) : (s.standing v).mayBeOpen ↔ s.mayBeOpen := .rfl

/-- Standstill cleared at the head of a train that may be open (R100). -/
theorem setStandstill_closes {v : Bool} (ha : s.active = some a) (head : s.heading = true)
    (clears : v = false ∧ s.door.headStandstill = true ∧ s.mayBeOpen) :
    s.setStandstill v = ((s.standing v).issue a .close .both 1 32).requestCall := by
  obtain ⟨down, was, mayBeOpen⟩ := clears
  have active : (s.standing v).active = some a := ha
  have cleared : (s.door.headStandstill && !v && (s.standing v).heading) = true := by
    rw [was, down]
    exact head
  have stores : s.setStandstill v = State.requestCall (match (s.standing v).active with
      | some a => if s.door.headStandstill && !v && (s.standing v).heading then (s.standing v).automaticClose a
        else s.standing v
      | none => s.standing v) := rfl
  rw [stores, active]
  simp only [cleared, if_true]
  rw [automaticClose_open ((mayBeOpen_standing s v).2 mayBeOpen)]

/-- In every other case Standstill is stored and no more (R98, R100). -/
theorem setStandstill_stores {v : Bool}
    (stays : s.heading = false ∨ s.active = none ∨ ¬(v = false ∧ s.door.headStandstill = true ∧ s.mayBeOpen)) :
    s.setStandstill v = (s.standing v).requestCall := by
  unfold State.setStandstill
  simp only
  split
  · next a ha =>
    split
    · next cleared =>
      rw [Bool.and_eq_true, Bool.and_eq_true, Bool.not_eq_true'] at cleared
      obtain ⟨⟨was, down⟩, head⟩ := cleared
      have shut : ¬(s.standing v).mayBeOpen := fun mayBeOpen => by
        rcases stays with away | none | stays
        · exact absurd (head.symm.trans away) (by decide)
        · exact absurd (ha.symm.trans none) (by simp)
        · exact stays ⟨down, was, mayBeOpen⟩
      exact congrArg State.requestCall (automaticClose_shut shut)
    · rfl
  · rfl

theorem raisedAt_requestCall {c : Cause} (h : RaisedAt c s) : RaisedAt c s.requestCall := by
  unfold State.requestCall
  split
  · exact fun q => by cases q <;> [exact h .portA; exact h .portB]
  · exact h

theorem OrderIssued.requestCall (h : OrderIssued s a x y m n t) : OrderIssued s a x y m n t.requestCall := by
  have door := requestCall_door t
  have track := requestCall_track t
  exact ⟨by rw [door]; exact h.door, by rw [door]; exact h.sides, by rw [track]; exact h.record, by rw [track]; exact h.unproved,
    raisedAt_requestCall h.raised, fun behind => raisedAt_requestCall (h.complete behind),
    fun close both addressed closes => raisedAt_requestCall (h.closed close both addressed closes),
    by rw [requestCall_cycle, h.calls]; rfl, fun free => inSlot_of_lineEnd (requestCall_lineEnd _ _) (h.stands free)⟩

theorem standing_wrote (s : State) (p : PortId) (k : Nat) (v : Bool) : (s.wrote p k).standing v = (s.standing v).wrote p k := by
  cases p <;> rfl

theorem mayBeOpen_wrote (s : State) (p : PortId) (k : Nat) : (s.wrote p k).mayBeOpen ↔ s.mayBeOpen := by
  unfold State.mayBeOpen State.sideState
  rw [wrote_door]

/-- SET_STANDSTILL at a port (R98). -/
def State.standstillSet (s : State) (p : PortId) (v : Bool) : State :=
  ((s.wrote p opcodeAddress).setStandstill v).answer p .done none 0

theorem exec_setStandstill (h : Admitted s p (some .door)) :
    exec (.setStandstill p) s = .next (s.standstillSet p (hasBit (s.operand p 1) 0)) := by
  have runs := command_done s p (some .door) (fun _ => none) (fun s => s.setStandstill (hasBit (s.operand p 1) 0)) (fun _ => 0)
    h rfl
  rw [wrote_operand] at runs
  exact congrArg Host.Outcome.next runs

/-- The automatic CLOSE of a head that clears Standstill (R100). -/
theorem standstillSet_closes {v : Bool} (ha : s.active = some a) (head : s.heading = true)
    (clears : v = false ∧ s.door.headStandstill = true ∧ s.mayBeOpen) :
    OrderIssued (s.standing v) a .close .both 1 32 (s.standstillSet p v) := by
  have inaug := wrote_inaug s p opcodeAddress
  have clearsW : v = false ∧ (s.wrote p opcodeAddress).door.headStandstill = true ∧ (s.wrote p opcodeAddress).mayBeOpen := by
    rw [wrote_door, mayBeOpen_wrote]
    exact clears
  have headW : (s.wrote p opcodeAddress).heading = true := (heading_of_inaug inaug).trans head
  obtain ⟨issued, -⟩ := orderIssued ((s.wrote p opcodeAddress).standing v) a .close .both (m := 1) (n := 32) (by decide) (by decide)
    headW
  unfold State.standstillSet
  rw [setStandstill_closes ((active_of_inaug inaug).trans ha) headW clearsW]
  rw [standing_wrote] at issued ⊢
  exact issued.requestCall.ofWrote.answered

/-- Standstill is stored, and a CALL asked for at a head (R98). -/
theorem standstillSet_stores {v : Bool}
    (stays : s.heading = false ∨ s.active = none ∨ ¬(v = false ∧ s.door.headStandstill = true ∧ s.mayBeOpen)) :
    (s.standstillSet p v).door = { s.door with headStandstill := v } ∧ (s.standstillSet p v).track = s.track
      ∧ (s.heading = true → (s.standstillSet p v).cycle.callRequested = true) := by
  have inaug := wrote_inaug s p opcodeAddress
  have staysW : (s.wrote p opcodeAddress).heading = false ∨ (s.wrote p opcodeAddress).active = none
      ∨ ¬(v = false ∧ (s.wrote p opcodeAddress).door.headStandstill = true ∧ (s.wrote p opcodeAddress).mayBeOpen) := by
    rw [heading_of_inaug inaug, active_of_inaug inaug, wrote_door, mayBeOpen_wrote]
    exact stays
  obtain ⟨door, track⟩ := answer_door ((s.wrote p opcodeAddress).setStandstill v) p .done none 0
  obtain ⟨-, cycle, -⟩ := answer_rest ((s.wrote p opcodeAddress).setStandstill v) p .done none 0
  unfold State.standstillSet
  rw [door, track, cycle, setStandstill_stores staysW, requestCall_door, requestCall_track, requestCall_cycle]
  refine ⟨?_, ?_, fun head => ?_⟩
  · rw [State.standing, modDoor_door, wrote_door]
  · exact wrote_track s p opcodeAddress
  · have headW : ((s.wrote p opcodeAddress).standing v).heading = true := (heading_of_inaug inaug).trans head
    rw [headW]
    exact Bool.or_true _

/-- Settles O46: the flag stored, and the CLOSE of a train that may be open. -/
theorem setStandstillMayCloseTheTrain : Obligations.SetStandstillMayCloseTheTrain := by
  intro s p h
  simp only
  generalize hv : hasBit (s.operand p 1) 0 = v
  have runs : exec (.setStandstill p) s = .next (s.standstillSet p v) := by rw [← hv]; exact exec_setStandstill h
  have done {bs : List Block} (changes : ((s.wrote p opcodeAddress).setStandstill v).forget (.portOf .portA :: .portOf .portB :: bs)
      = (s.wrote p opcodeAddress).forget (.portOf .portA :: .portOf .portB :: bs)) : DoneAt p bs s (s.standstillSet p v) := by
    have answered := engineDoneAt (check := fun _ => none) (act := fun s => s.setStandstill v) bs h rfl
      (skel_setStandstill _ _) changes
    rwa [State.plainCommand, command_done s p (some .door) (fun _ => none) (fun s => s.setStandstill v) (fun _ => 0) h rfl]
      at answered
  obtain ⟨answered, -, -, changes⟩ := done (bs := [.moments, .cycle, .door, .tracking, .endOf .end1, .endOf .end2]) (by simp)
  have cases : (∃ a, s.active = some a ∧ s.heading = true ∧ v = false ∧ s.door.headStandstill = true ∧ s.mayBeOpen)
      ∨ (s.heading = false ∨ s.active = none ∨ ¬(v = false ∧ s.door.headStandstill = true ∧ s.mayBeOpen)) := by
    cases head : s.heading with
    | false => exact .inr (.inl rfl)
    | true =>
      cases ha : s.active with
      | none => exact .inr (.inr (.inl rfl))
      | some a =>
        by_cases clears : v = false ∧ s.door.headStandstill = true ∧ s.mayBeOpen
        · exact .inl ⟨a, rfl, rfl, clears⟩
        · exact .inr (.inr (.inr clears))
  refine ⟨_, runs, answered, ?_, fun away => ?_, fun head => ?_, ?_, fun a head ha => ⟨fun clears first => ?_, fun stays => ?_⟩⟩
  · rcases cases with ⟨a, ha, head, clears⟩ | stays
    · rw [(standstillSet_closes ha head clears).door]
      rfl
    · rw [(standstillSet_stores stays).1]
  · have alone : ((s.wrote p opcodeAddress).setStandstill v).forget [.door] = (s.wrote p opcodeAddress).forget [.door] := by
      have awayW : (s.wrote p opcodeAddress).heading = false := (heading_of_inaug (wrote_inaug s p opcodeAddress)).trans away
      rw [setStandstill_stores (.inl awayW), State.requestCall, if_neg]
      · simp [State.standing]
      · rw [show ((s.wrote p opcodeAddress).standing v).heading = false from awayW]
        decide
    refine ⟨(standstillSet_stores (.inl away)).1, fun q => ?_, done (forget_mono alone (by simp))⟩
    have port : ((s.wrote p opcodeAddress).setStandstill v).port q = (s.wrote p opcodeAddress).port q :=
      sameBlock_of_forget alone (.portOf q) (by simp)
    rw [State.standstillSet, answer_flags, port, wrote_flags]
  · rcases cases with ⟨a, ha, head, clears⟩ | stays
    · exact (standstillSet_closes ha head clears).calls
    · exact (standstillSet_stores stays).2.2 head
  · rw [onlyChanges_iff_forget] at changes ⊢
    exact forget_mono changes (by simp)
  · have issued := standstillSet_closes (p := p) ha head clears
    obtain ⟨rfl, -, -⟩ := clears
    have addressed : ((s.standing false).newOrder .close .both 1 32).addresses a.position = true := by
      rw [first]
      rfl
    have both (i : SideId) : i ∈ mapSides a.orientation .both := by cases a.orientation <;> cases i <;> decide
    have side (i : SideId) : (s.standstillSet p false).door.side i = s.sideShut i := by
      rw [issued.sides, if_pos ⟨addressed, both i⟩]
      rfl
    obtain ⟨f, record, -⟩ := issued.record
    refine ⟨?_, ?_, ?_, ⟨fun i closes => ?_, fun i stays => ?_, issued.closed rfl rfl addressed⟩, issued.raised, fun free => ?_, ?_⟩
    · rw [issued.door]
      rfl
    · rw [issued.door]
    · rw [issued.door]
      exact orderOutcome_ends (s := s.standing false) addressed nofun
    · rw [side, sideShut_closes closes]
      exact freshSide_closing s
    · rw [side, sideShut_stays stays]
    · rw [issued.door]
      exact issued.stands free
    · rw [record, issued.door]
      rfl
  · obtain ⟨door, track, -⟩ := standstillSet_stores (p := p) (.inr (.inr stays))
    exact ⟨door, track⟩

end Sys2Proof.Machine

/-! PROOF. Issue Order, and the echoes that a RETURN brings back (R101 to R104, R110 to R114): O47. -/

namespace Sys2Proof.Machine

variable {s t : State} {a : ActiveConsist} {i : SideId} {p : PortId} {x : DoorAction} {y : TrainSide} {m n : Nat}
  {r : OutstandingOrder} {records : List CycleRecord}

/-! ## The operands -/

theorem actionOf_code (x : DoorAction) : DoorAction.ofCode x.code = some x := by cases x <;> rfl

theorem sideOf_code (y : TrainSide) : TrainSide.ofCode y.code = some y := by cases y <;> rfl

theorem code_of_actionOf {b : Byte} (h : DoorAction.ofCode b = some x) : x.code = b := by
  unfold DoorAction.ofCode at h
  split at h
  · next one => cases h; exact one.symm
  · split at h
    · next two => cases h; exact two.symm
    · split at h
      · next three => cases h; exact three.symm
      · cases h

theorem code_of_sideOf {b : Byte} (h : TrainSide.ofCode b = some y) : y.code = b := by
  unfold TrainSide.ofCode at h
  split at h
  · next one => cases h; exact one.symm
  · split at h
    · next two => cases h; exact two.symm
    · split at h
      · next three => cases h; exact three.symm
      · cases h

theorem actionCode_range (x : DoorAction) : 1 ≤ x.code.toNat ∧ x.code.toNat ≤ 3 := by cases x <;> decide

theorem sideCode_range (y : TrainSide) : 1 ≤ y.code.toNat ∧ y.code.toNat ≤ 3 := by cases y <;> decide

/-- The operands of Issue Order are in their ranges (R101). -/
def OrderFits (s : State) (p : PortId) : Prop :=
  1 ≤ s.operandNum p 1 ∧ s.operandNum p 1 ≤ 3 ∧ 1 ≤ s.operandNum p 2 ∧ s.operandNum p 2 ≤ 3
    ∧ ¬(s.operandNum p 1 = 1 ∧ s.operandNum p 2 = 3)
    ∧ 1 ≤ s.operandNum p 3 ∧ s.operandNum p 3 ≤ s.operandNum p 4 ∧ s.operandNum p 4 ≤ 32

theorem orderOperands_codes (hx : x.code = s.operand p 1) (hy : y.code = s.operand p 2) (fits : OrderFits s p) :
    orderOperands s p = some (x, y) := by
  obtain ⟨-, -, -, -, pair, window⟩ := fits
  unfold orderOperands
  rw [← hx, ← hy, actionOf_code, sideOf_code]
  refine if_pos ⟨fun ⟨both, release⟩ => pair ?_, window⟩
  unfold State.operandNum
  rw [← hx, ← hy, both, release]
  exact ⟨rfl, rfl⟩

theorem orderOperands_none (fits : ¬OrderFits s p) : orderOperands s p = none := by
  unfold orderOperands
  split
  · next x y hx hy =>
    refine if_neg fun ⟨pair, window⟩ => fits ?_
    have codeX := code_of_actionOf hx
    have codeY := code_of_sideOf hy
    have rangeX := actionCode_range x
    have rangeY := sideCode_range y
    unfold OrderFits State.operandNum
    rw [← codeX, ← codeY]
    refine ⟨rangeX.1, rangeX.2, rangeY.1, rangeY.2, fun ⟨one, three⟩ => pair ?_, window⟩
    revert one three
    cases x <;> cases y <;> decide
  · rfl

theorem orderOperands_wrote (s : State) (p : PortId) (k : Nat) : orderOperands (s.wrote p k) p = orderOperands s p := by
  cases p <;> rfl

/-! ## The checks -/

theorem issueCheck_range (head : s.heading = true) (h : orderOperands s p = none) : issueCheck p s = some .range := by
  unfold issueCheck
  rw [head, h]
  rfl

/-- With its operands in range Issue Order asks for Standstill where it releases (R101). -/
theorem issueCheck_fits (head : s.heading = true) (h : orderOperands s p = some (x, y)) :
    issueCheck p s = if x = .release ∧ s.door.headStandstill = false then some .state else none := by
  unfold issueCheck
  rw [head, h]
  rfl

theorem issueFromOperands_eq (h : orderOperands s p = some (x, y)) (ha : s.active = some a) :
    s.issueFromOperands p = s.issue a x y (s.operandNum p 3) (s.operandNum p 4) := by
  unfold State.issueFromOperands
  rw [h, ha]

theorem issueOrder_refused {why : Reason} (h : Admitted s p (some .door))
    (check : issueCheck p (s.wrote p opcodeAddress) = some why) :
    ∃ t, exec (.issueOrder p) s = .next t ∧ RefusedAt p why s t :=
  ⟨_, rfl, command_refused s p _ _ _ _ h why check⟩

/-- ISSUE_ORDER with operands in range, at a head in Standstill where it releases (R101, R103). -/
theorem issueOrder_issues (h : Admitted s p (some .door)) (head : s.heading = true) (ha : s.active = some a)
    (operands : orderOperands s p = some (x, y)) (first : 1 ≤ s.operandNum p 3) (window : s.operandNum p 3 ≤ s.operandNum p 4)
    (stands : x = .release → s.door.headStandstill = true) : ∃ t, exec (.issueOrder p) s = .next t
      ∧ Answered (s.port p) (t.port p) .done none 0 ∧ OrderIssued s a x y (s.operandNum p 3) (s.operandNum p 4) t
      ∧ OnlyChanges (issueBlocks a) s t := by
  have inaug := wrote_inaug s p opcodeAddress
  have headW : (s.wrote p opcodeAddress).heading = true := (heading_of_inaug inaug).trans head
  have operandsW : orderOperands (s.wrote p opcodeAddress) p = some (x, y) := (orderOperands_wrote s p _).trans operands
  have passes : issueCheck p (s.wrote p opcodeAddress) = none := by
    rw [issueCheck_fits headW operandsW, wrote_door, if_neg]
    rintro ⟨release, moves⟩
    rw [stands release] at moves
    cases moves
  have issues : (s.wrote p opcodeAddress).issueFromOperands p
      = (s.wrote p opcodeAddress).issue a x y (s.operandNum p 3) (s.operandNum p 4) := by
    rw [issueFromOperands_eq operandsW ((active_of_inaug inaug).trans ha), wrote_operandNum, wrote_operandNum]
  obtain ⟨issued, rest⟩ := orderIssued (s.wrote p opcodeAddress) a x y first window headW
  rw [← issues] at issued rest
  obtain ⟨answered, -, -, changes⟩ := engineDoneAt (check := issueCheck p) (act := fun s => s.issueFromOperands p)
    [.moments, .cycle, .door, .tracking, .endOf a.tailward] h passes (skel_issueFromOperands _ _)
    (forget_mono rest (by simp [issueBlocks]))
  have runs := command_done s p (some .door) (issueCheck p) (fun s => s.issueFromOperands p) (fun _ => 0) h passes
  refine ⟨_, rfl, answered, ?_, ?_⟩
  · rw [State.plainCommand, runs]
    exact issued.ofWrote.answered
  · rw [onlyChanges_iff_forget] at changes ⊢
    exact forget_mono changes (by simp [issueBlocks])

/-! ## What an issued order makes of the head's own sides -/

theorem releaseOutcome_standing (s : State) (i : SideId) : s.releaseOutcome true i =
    if s.ready = false then .refusedNotReady
    else if s.door.attended = false then .refusedUnattended
    else if s.door.status.lockedOut i = true then .refusedLockedOut
    else .applied := by
  unfold State.releaseOutcome
  rfl

theorem mapSides_single {z : Orientation} (single : y ≠ .both) : ∃ j, mapSides z y = [j] := by
  cases y with
  | left => cases z <;> exact ⟨_, rfl⟩
  | right => cases z <;> exact ⟨_, rfl⟩
  | both => exact absurd rfl single

theorem OrderIssued.lastOutcome (h : OrderIssued s a x y m n t) : t.door.lastOutcome = s.orderOutcome a (s.newOrder x y m n) := by
  rw [h.door]

/-- A RELEASE of one side, at a head in Standstill (R92). -/
theorem OrderIssued.lastOutcome_release (h : OrderIssued s a .release y m n t)
    (named : (s.newOrder .release y m n).addresses a.position = true) (stands : s.door.headStandstill = true)
    (one : mapSides a.orientation y = [i]) :
    t.door.lastOutcome = s.releaseOutcome true i := by
  rw [h.lastOutcome, orderOutcome_release named rfl one]
  exact congrArg (s.releaseOutcome · i) stands

/-- An order issued moves the sides that it names alone (R91). -/
theorem OrderIssued.sideState_other (h : OrderIssued s a x y m n t)
    (other : ¬((s.newOrder x y m n).addresses a.position = true ∧ i ∈ mapSides a.orientation y)) : t.sideState i = s.sideState i := by
  rw [State.sideState, h.sides, if_neg other]
  rfl

theorem OrderIssued.sideState_named (h : OrderIssued s a x y m n t)
    (named : (s.newOrder x y m n).addresses a.position = true ∧ i ∈ mapSides a.orientation y) :
    t.sideState i = (s.sideActed (s.newOrder x y m n) i).state := by
  rw [State.sideState, h.sides, if_pos named]

theorem OrderIssued.sideState_release (h : OrderIssued s a .release y m n t) (single : y ≠ .both)
    (stands : s.door.headStandstill = true)
    (named : (s.newOrder .release y m n).addresses a.position = true ∧ i ∈ mapSides a.orientation y) :
    t.sideState i = if t.door.lastOutcome = .applied then .released else s.sideState i := by
  obtain ⟨j, one⟩ := mapSides_single (z := a.orientation) single
  have here : i = j := (mem_of_mapSides one i).1 named.2
  subst here
  have standstill : (s.newOrder .release y m n).standstill = true := stands
  rw [h.sideState_named named, sideActed_release rfl, standstill, h.lastOutcome_release named.1 stands one,
    apply_ite DoorSide.state, state_sideTaken]
  rfl

theorem OrderIssued.sideState_close (h : OrderIssued s a .close y m n t)
    (named : (s.newOrder .close y m n).addresses a.position = true ∧ i ∈ mapSides a.orientation y) : t.sideState i =
      if s.sideState i = .released ∨ s.sideState i = .withdrawn ∧ s.door.status.closedLocked i = false then .closing
      else s.sideState i :=
  (h.sideState_named named).trans (state_sideShut s i)

theorem OrderIssued.sideState_withdraw (h : OrderIssued s a .withdraw y m n t)
    (named : (s.newOrder .withdraw y m n).addresses a.position = true ∧ i ∈ mapSides a.orientation y) :
    t.sideState i = if s.sideState i = .released then .withdrawn else s.sideState i :=
  (h.sideState_named named).trans (state_sideWithdrawn s i)

/-! ## The echoes of a RETURN -/

/-- The head keeps a record of its order (R110, R112). -/
def State.keepOrder (s : State) (r : OutstandingOrder) : State := s.modTrack fun t => { t with outstanding := some r }

theorem counts_iff (r : OutstandingOrder) (call : Option Moment) : r.counts call = true
    ↔ ∃ m, r.firstSent = some m ∧ ∃ c, call = some c ∧ m.order < c.order := by
  unfold OutstandingOrder.counts
  rw [Bool.and_eq_true, leftAfter_iff]
  constructor
  · rintro ⟨sent, after⟩
    obtain ⟨m, first⟩ := Option.isSome_iff_exists.1 sent
    exact ⟨m, first, after m first⟩
  · rintro ⟨m, first, after⟩
    rw [first]
    refine ⟨rfl, fun k same => ?_⟩
    cases same
    exact after

theorem noPending_iff (l : List Outcome) : l.all (· ≠ .pending) = true ↔ .pending ∉ l := by
  rw [List.all_eq_true]
  constructor
  · exact fun none here => of_decide_eq_true (none _ here) rfl
  · exact fun none o here => decide_eq_true fun pending => none (pending ▸ here)

theorem loseOutcomes_noPending (l : List Outcome) : .pending ∉ loseOutcomes l := by
  intro here
  obtain ⟨o, -, lost⟩ := List.mem_map.1 here
  split at lost
  · cases lost
  · next other => exact other lost

theorem checkComplete_completes (h : s.track.outstanding = some r) (stands : r.complete = false) (none : .pending ∉ r.outcomes) :
    s.checkComplete = (s.keepOrder { r with complete := true }).raise .orderComplete := by
  unfold State.checkComplete
  rw [h]
  exact if_pos ⟨stands, (noPending_iff _).2 none⟩

theorem checkComplete_stays (h : s.track.outstanding = some r) (waits : .pending ∈ r.outcomes) : s.checkComplete = s := by
  unfold State.checkComplete
  rw [h]
  exact if_neg fun ⟨_, all⟩ => (noPending_iff _).1 all waits

/-- A RETURN before the order left, or after it was complete, is not read (R111). -/
theorem readEchoes_skips (h : s.track.outstanding = some r)
    (skips : r.complete = true ∨ ¬r.counts s.cycle.lastCallLeft = true) : s.readEchoes a records = s := by
  unfold State.readEchoes
  rw [h]
  refine if_neg fun ⟨stands, counts⟩ => ?_
  rcases skips with complete | early
  · rw [stands] at complete
    cases complete
  · exact early counts

/-- The record with the echoes of a RETURN (R112). -/
def OutstandingOrder.filled (r : OutstandingOrder) (records : List CycleRecord) : OutstandingOrder :=
  { r with outcomes := fillOutcomes r.id records r.outcomes }

theorem readEchoes_reads (h : s.track.outstanding = some r) (stands : r.complete = false)
    (counts : r.counts s.cycle.lastCallLeft = true) : s.readEchoes a records
      = ((s.keepOrder (r.filled records)).repeatOrLose a (r.filled records)).checkComplete := by
  unfold State.readEchoes
  rw [h]
  exact if_pos ⟨stands, counts⟩

/-- An order whose echoes have all come is complete (R114). -/
theorem readEchoes_completes (h : s.track.outstanding = some r) (stands : r.complete = false)
    (counts : r.counts s.cycle.lastCallLeft = true) (none : .pending ∉ (r.filled records).outcomes) :
    s.readEchoes a records = ((s.keepOrder (r.filled records)).keepOrder { r.filled records with complete := true }).raise
      .orderComplete := by
  rw [readEchoes_reads h stands counts, State.repeatOrLose, if_pos ((noPending_iff _).2 none)]
  exact checkComplete_completes rfl stands none

/-- An order that has been repeated three times loses the echoes that have not come (R113). -/
theorem readEchoes_loses (h : s.track.outstanding = some r) (stands : r.complete = false)
    (counts : r.counts s.cycle.lastCallLeft = true) (waits : .pending ∈ (r.filled records).outcomes) (last : r.repeatsLeft = 0) :
    ∃ u : State, u.door = s.door ∧ s.readEchoes a records
      = (u.keepOrder { r.filled records with outcomes := loseOutcomes (r.filled records).outcomes, complete := true }).raise
          .orderComplete := by
  rw [readEchoes_reads h stands counts, State.repeatOrLose, if_neg fun all => (noPending_iff _).1 all waits,
    if_pos (show (r.filled records).repeatsLeft = 0 from last)]
  exact ⟨_, rfl, checkComplete_completes (r := { r.filled records with outcomes := loseOutcomes (r.filled records).outcomes }) rfl
    stands (loseOutcomes_noPending _)⟩

/-- The record of an order that is placed once more (R113). -/
def OutstandingOrder.again (r : OutstandingOrder) (records : List CycleRecord) : OutstandingOrder :=
  { r.filled records with repeatsLeft := r.repeatsLeft - 1 }

/-- An order that may be repeated is placed once more (R113). -/
theorem readEchoes_repeats (h : s.track.outstanding = some r) (stands : r.complete = false)
    (counts : r.counts s.cycle.lastCallLeft = true) (waits : .pending ∈ (r.filled records).outcomes) (more : r.repeatsLeft ≠ 0) :
    (s.readEchoes a records).track.outstanding = some (r.again records)
      ∧ (SlotFree s a.tailward .door → InSlot (s.readEchoes a records) a.tailward .door
          (s.buildOrder a r.id r.action r.side r.first r.last)) := by
  obtain ⟨m, sent, -⟩ := (counts_iff _ _).1 counts
  have places : s.readEchoes a records = (((s.keepOrder (r.filled records)).keepOrder (r.again records)).placeOrder a
      (s.buildOrder a r.id r.action r.side r.first r.last)).checkComplete := by
    rw [readEchoes_reads h stands counts, State.repeatOrLose, if_neg fun all => (noPending_iff _).1 all waits,
      if_neg (show ¬(r.filled records).repeatsLeft = 0 from more)]
    rfl
  generalize hv : (s.keepOrder (r.filled records)).keepOrder (r.again records) = v at places
  have record : v.track.outstanding = some (r.again records) := by rw [← hv]; rfl
  have ends : v.lineEnd a.tailward = s.lineEnd a.tailward := by rw [← hv]; simp [State.keepOrder]
  obtain ⟨-, outstanding, stand, -⟩ := placeOrder_items v a (s.buildOrder a r.id r.action r.side r.first r.last)
  have kept : (v.placeOrder a (s.buildOrder a r.id r.action r.side r.first r.last)).track.outstanding
      = some (r.again records) := by
    rw [outstanding, record]
    refine congrArg some (if_neg fun ⟨_, _, _, unsent⟩ => ?_)
    rw [show (r.again records).firstSent = some m from sent] at unsent
    cases unsent
  rw [places, checkComplete_stays kept waits]
  exact ⟨kept, fun free => stand (slotFree_of_lineEnd ends free)⟩

theorem evaluateProof_outstanding (s : State) (k : Nat) (records : List CycleRecord) :
    (s.evaluateProof k records).track.outstanding = s.track.outstanding := by
  by_cases h : s.provesClosed records = true
  · rw [evaluateProof_proves h, setProof_track]
    rfl
  · rw [evaluateProof_fails h, track_unprove]

theorem evaluateProof_lineEnd (s : State) (k : Nat) (records : List CycleRecord) (e : EndId) :
    (s.evaluateProof k records).lineEnd e = s.lineEnd e :=
  sameBlock_of_forget (L := [.tracking, .portOf .portA, .portOf .portB]) (by simp) (.endOf e) (by simp)

/-- What the Proof, evaluated last, leaves of a RETURN that was read for its echoes (R111, R116). -/
theorem doorReturn_echoes (s : State) (a : ActiveConsist) (records : List CycleRecord) :
    let u := (s.modDoor fun d => { d with trainDoorsOpen := records.any (·.doorOpen) }).readEchoes a records
    (s.doorReturn a records).track.outstanding = u.track.outstanding
      ∧ (∀ e, (s.doorReturn a records).lineEnd e = u.lineEnd e) ∧ Gentle u (s.doorReturn a records) :=
  ⟨evaluateProof_outstanding _ _ _, evaluateProof_lineEnd _ _ _, (Gentle.refl _).evaluateProof⟩

theorem flagBit_zero (b : Bool) : flagBit b 0 = if b then 1 else 0 := by cases b <;> rfl

/-- A successful RETURN at a head with an order of its own (R111 to R114). -/
theorem doorReturn_items (a : ActiveConsist) (records : List CycleRecord) (h : s.track.outstanding = some r) :
    let t := s.doorReturn a records
    let counts := r.counts s.cycle.lastCallLeft = true
    let outcomes := (r.filled records).outcomes
    (r.complete = true ∨ ¬counts → t.track.outstanding = some r)
      ∧ (r.complete = false → counts → .pending ∉ outcomes →
        t.track.outstanding = some { r.filled records with complete := true } ∧ RaisedAt .orderComplete t)
      ∧ (r.complete = false → counts → .pending ∈ outcomes → r.repeatsLeft = 0 →
        t.track.outstanding = some { r.filled records with outcomes := loseOutcomes outcomes, complete := true }
          ∧ RaisedAt .orderComplete t)
      ∧ (r.complete = false → counts → .pending ∈ outcomes → r.repeatsLeft ≠ 0 →
        t.track.outstanding = some (r.again records)
          ∧ (SlotFree s a.tailward .door → InSlot t a.tailward .door (s.buildOrder a r.id r.action r.side r.first r.last))) := by
  simp only
  obtain ⟨outstanding, ends, gentle⟩ := doorReturn_echoes s a records
  generalize hx : (s.modDoor fun d => { d with trainDoorsOpen := records.any (·.doorOpen) }) = x at outstanding ends gentle
  have record : x.track.outstanding = some r := by rw [← hx]; exact h
  have call : x.cycle.lastCallLeft = s.cycle.lastCallLeft := by rw [← hx]; rfl
  have frame : x.buildOrder a r.id r.action r.side r.first r.last = s.buildOrder a r.id r.action r.side r.first r.last := by
    rw [← hx]; rfl
  have traffic : x.lineEnd a.tailward = s.lineEnd a.tailward := by rw [← hx]; simp
  rw [← call, outstanding]
  refine ⟨fun skips => ?_, fun stands counts all => ?_, fun stands counts waits last => ?_, fun stands counts waits more => ?_⟩
  · rw [readEchoes_skips record skips, record]
  · have completes := readEchoes_completes (a := a) record stands counts all
    rw [completes] at gentle ⊢
    exact ⟨by rw [raise_track]; rfl, Gentle.raised gentle⟩
  · obtain ⟨u, -, loses⟩ := readEchoes_loses (a := a) record stands counts waits last
    rw [loses] at gentle ⊢
    exact ⟨by rw [raise_track]; rfl, Gentle.raised gentle⟩
  · obtain ⟨kept, placed⟩ := readEchoes_repeats (a := a) record stands counts waits more
    rw [frame] at placed
    exact ⟨kept, fun free => inSlot_of_lineEnd (ends _) (placed (slotFree_of_lineEnd traffic free))⟩

/-- Settles O47: the command, refused or issued, and the RETURN that brings the echoes. -/
theorem issueOrderAppliesAndPlacesTheOrder : Obligations.IssueOrderAppliesAndPlacesTheOrder := by
  refine ⟨fun s p h => ?_, fun s a records r hr => ?_⟩
  · have headW := heading_of_inaug (wrote_inaug s p opcodeAddress)
    have operandsW := orderOperands_wrote s p opcodeAddress
    refine ⟨fun away => ?_, fun head fits => ?_, fun x y head fits hx hy => ⟨fun release moves => ?_, fun a ha stands => ?_⟩⟩
    · exact issueOrder_refused h (if_pos (headW.trans away))
    · exact issueOrder_refused h (issueCheck_range (headW.trans head) (operandsW.trans (orderOperands_none fits)))
    · refine issueOrder_refused h ?_
      rw [issueCheck_fits (headW.trans head) (operandsW.trans (orderOperands_codes hx hy fits)), wrote_door]
      exact if_pos ⟨release, moves⟩
    · have operands := orderOperands_codes hx hy fits
      obtain ⟨-, -, -, -, pair, first, window, -⟩ := fits
      obtain ⟨t, runs, answered, issued, changes⟩ := issueOrder_issues h head ha operands first window stands
      obtain ⟨f, record, sent⟩ := issued.record
      have single (release : x = .release) : y ≠ .both := fun both => pair (by
        unfold State.operandNum
        rw [← hx, ← hy, release, both]
        exact ⟨rfl, rfl⟩)
      refine ⟨t, runs, answered, ?_, ?_, issued.lastOutcome, fun outside => ?_, fun named ends => ?_,
        fun named release i one => ?_, fun i => ?_, issued.raised, issued.calls, issued.unproved, ?_, ⟨fun fit => ?_, ?_, ?_,
        issued.complete⟩, fun free => ?_, changes⟩
      · rw [issued.door]
      · rw [issued.door]
      · exact issued.lastOutcome.trans (orderOutcome_outside outside)
      · exact issued.lastOutcome.trans (orderOutcome_ends named ends)
      · subst release
        rw [issued.lastOutcome_release named (stands rfl) one, releaseOutcome_standing]
      · by_cases named : (s.newOrder x y (s.operandNum p 3) (s.operandNum p 4)).addresses a.position = true
            ∧ i ∈ mapSides a.orientation y
        · refine Eq.trans ?_ (if_pos named).symm
          cases x with
          | release => exact issued.sideState_release (single rfl) (stands rfl) named
          | close => exact issued.sideState_close named
          | withdraw => exact issued.sideState_withdraw named
        · exact (issued.sideState_other named).trans (if_neg named).symm
      · rw [record]
        rfl
      · rw [record, Option.map_some, sent fit]
        rfl
      · rw [issued.door]
        rfl
      · rw [record]
        rfl
      · have placed := issued.stands free
        rw [State.newFrame, hx, hy, flagBit_zero] at placed
        exact placed
  · obtain ⟨m, door⟩ := doorReturn_door s a records
    obtain ⟨skips, completes, loses, repeats⟩ := doorReturn_items a records hr
    have frame : s.buildOrder a r.id r.action r.side r.first r.last = OrderFrame.frame
        { identity := a.identity, id := r.id, action := r.action.code, side := r.side.code, first := r.first, last := r.last
          flags := if s.door.headStandstill then 1 else 0 } := by
      rw [State.buildOrder, flagBit_zero]
    rw [counts_iff] at skips completes loses repeats
    rw [frame] at repeats
    refine ⟨by rw [door], by rw [door], by rw [door], by rw [door], by rw [door], skips, completes, loses, repeats, ?_⟩
    rw [onlyChanges_iff_forget]
    exact forget_doorReturn_tail s a records

end Sys2Proof.Machine

/-! SUPPORT. The Grant Engine's computations: levels, sums over the table, the orders of preference, and what shedding and
raising make of one place (R124, R127, R129). -/

namespace Sys2Proof.Machine

variable {entries : List RosterEntry} {budget : Nat} {table after : List GrantEntry} {i j : Nat} {g : GrantEntry}

/-! ## Levels -/

/-- A running maximum is the greatest of its start and the values it runs over. -/
theorem isGreatest_foldl_max (b : Nat) (l : List Nat) : IsGreatest {n | n ∈ b :: l} (l.foldl max b) := by
  induction l generalizing b with
  | nil => exact ⟨List.mem_singleton_self b, fun n hn => (List.mem_singleton.1 hn).le⟩
  | cons x l ih =>
    obtain ⟨attained, bound⟩ := ih (max b x)
    rw [List.foldl_cons]
    refine ⟨?_, fun n hn => ?_⟩
    · rcases List.mem_cons.1 attained with top | later
      · rw [top]
        rcases max_choice b x with c | c <;> simp [c]
      · exact List.mem_cons_of_mem _ (List.mem_cons_of_mem _ later)
    · have above : max b x ≤ l.foldl max (max b x) := bound List.mem_cons_self
      rcases List.mem_cons.1 hn with rfl | hn
      · exact (le_max_left _ _).trans above
      · rcases List.mem_cons.1 hn with rfl | later
        · exact (le_max_right _ _).trans above
        · exact bound (List.mem_cons_of_mem _ later)

theorem levelWithin_le (levels : List Nat) (limit : Nat) : levelWithin levels limit ≤ limit := by
  rcases List.mem_cons.1 (isGreatest_foldl_max 0 (levels.filter (· ≤ limit))).1 with zero | level
  · exact zero.le.trans (Nat.zero_le limit)
  · exact of_decide_eq_true (List.mem_filter.1 level).2

theorem levelWithin_eq_or_mem (levels : List Nat) (limit : Nat) :
    levelWithin levels limit = 0 ∨ levelWithin levels limit ∈ levels :=
  (List.mem_cons.1 (isGreatest_foldl_max 0 (levels.filter (· ≤ limit))).1).imp id fun level => (List.mem_filter.1 level).1

theorem le_levelWithin {levels : List Nat} {limit l : Nat} (level : l ∈ levels) (below : l ≤ limit) :
    l ≤ levelWithin levels limit :=
  (isGreatest_foldl_max 0 (levels.filter (· ≤ limit))).2
    (List.mem_cons_of_mem _ (List.mem_filter.2 ⟨level, decide_eq_true below⟩))

theorem zero_mem_levels (r : RosterEntry) : 0 ∈ r.levels := by
  refine List.mem_filter.2 ⟨List.mem_map.2 ⟨0, by simp, rfl⟩, rfl⟩

theorem levelWithin_mem_levels (r : RosterEntry) (limit : Nat) : levelWithin r.levels limit ∈ r.levels :=
  (levelWithin_eq_or_mem r.levels limit).elim (fun zero => zero ▸ zero_mem_levels r) id

theorem levelsAt_of_entry {z : RosterEntry} (h : entries[i]? = some z) : levelsAt entries i = z.levels := by
  unfold levelsAt
  rw [h]

/-! ## The table, its grants set aside -/

/-- An entry with another grant. -/
def GrantEntry.regrant (g : GrantEntry) (n : Nat) : GrantEntry := { g with grant := n }

/-- Two tables with the same entries but for their grants. -/
def SameButGrants (table after : List GrantEntry) : Prop := after.map (·.regrant 0) = table.map (·.regrant 0)

theorem sameButGrants_set (h : table[i]? = some g) (n : Nat) : SameButGrants table (table.set i (g.regrant n)) := by
  unfold SameButGrants
  rw [List.map_set]
  refine List.ext_getElem? fun j => ?_
  by_cases hij : i = j
  · subst hij
    rw [List.getElem?_set_self (by simpa using (List.getElem?_eq_some_iff.1 h).1), List.getElem?_map, h]
    rfl
  · rw [List.getElem?_set_ne hij]

theorem set_regrant_self (h : table[i]? = some g) : table.set i (g.regrant g.grant) = table := by
  obtain ⟨inside, rfl⟩ := List.getElem?_eq_some_iff.1 h
  exact List.set_getElem_self inside

theorem SameButGrants.trans {last : List GrantEntry} (h : SameButGrants table after) (k : SameButGrants after last) :
    SameButGrants table last := Eq.trans k h

theorem SameButGrants.length (h : SameButGrants table after) : after.length = table.length := by
  simpa using congrArg List.length h

/-- What does not read the grant is the same all along the table. -/
theorem SameButGrants.map_eq {α : Type} (h : SameButGrants table after) (f : GrantEntry → α)
    (blind : ∀ g : GrantEntry, f (g.regrant 0) = f g) : after.map f = table.map f := by
  have read (l : List GrantEntry) : l.map f = (l.map (·.regrant 0)).map f := by
    rw [List.map_map]
    exact List.map_congr_left fun g _ => (blind g).symm
  rw [read after, h, ← read]

theorem SameButGrants.classes (h : SameButGrants table after) (classes : ∀ g ∈ table, g.effectiveClass ≤ 3) :
    ∀ g ∈ after, g.effectiveClass ≤ 3 := by
  have same := h.map_eq (·.effectiveClass) fun _ => rfl
  intro g hg
  have held : g.effectiveClass ∈ after.map (·.effectiveClass) := List.mem_map_of_mem hg
  rw [same] at held
  obtain ⟨x, hx, eq⟩ := List.mem_map.1 held
  exact eq ▸ classes x hx

/-! ## Sums over the table -/

/-- A sum over a list, one of its elements changed. -/
theorem sum_map_set {α : Type} (f : α → Nat) {l : List α} {i : Nat} {x : α} (h : l[i]? = some x) (y : α) :
    ((l.set i y).map f).sum + f x = (l.map f).sum + f y := by
  induction l generalizing i with
  | nil => cases h
  | cons z l ih =>
    cases i with
    | zero =>
      cases h
      simp only [List.set_cons_zero, List.map_cons, List.sum_cons]
      omega
    | succ i =>
      have rest := ih (i := i) h
      simp only [List.set_cons_succ, List.map_cons, List.sum_cons]
      omega

/-- A sum along a list, with one place set apart. -/
theorem sum_mapIdx_at {α : Type} (f : Nat → α → Nat) {l : List α} {i : Nat} {x : α} (h : l[i]? = some x) (m n : Nat) :
    (l.mapIdx fun j y => if j = i then m else f j y).sum + n = (l.mapIdx fun j y => if j = i then n else f j y).sum + m := by
  induction l generalizing i f with
  | nil => cases h
  | cons z l ih =>
    simp only [List.mapIdx_cons, List.sum_cons]
    cases i with
    | zero =>
      simp only [if_true, Nat.add_eq_zero_iff, Nat.one_ne_zero, and_false, if_false]
      omega
    | succ i =>
      have rest := ih (i := i) (fun j => f (j + 1)) h
      simp only [Nat.add_right_cancel_iff, (Nat.succ_ne_zero i).symm, if_false]
      omega

theorem grantSum_set (h : table[i]? = some g) (n : Nat) : grantSum (table.set i (g.regrant n)) + g.grant = grantSum table + n :=
  sum_map_set (·.grant) h (g.regrant n)

theorem grant_le_grantSum (h : table[i]? = some g) : g.grant ≤ grantSum table :=
  List.single_le_sum (fun _ _ => Nat.zero_le _) _ (List.mem_map_of_mem (List.mem_of_getElem? h))

/-- What is granted is never more than what is granted or still drawn (R129). -/
theorem grantSum_le_drawn (table : List GrantEntry) : grantSum table ≤ (table.map (·.drawn)).sum :=
  List.sum_le_sum fun _ _ => le_max_left _ _

/-! ## Orders of preference -/

/-- The Effective Class of a place; 0 beyond the table. -/
def classAt (table : List GrantEntry) (i : Nat) : Nat := (table[i]?.map (·.effectiveClass)).getD 0

/-- A place is shed before another: of a lower class, or in the same class at a higher position (R127). -/
abbrev ShedsBefore (table : List GrantEntry) (j i : Nat) : Prop :=
  classAt table j < classAt table i ∨ classAt table j = classAt table i ∧ i < j

theorem classAt_of_entry (h : table[i]? = some g) : classAt table i = g.effectiveClass := by
  unfold classAt
  rw [h]
  rfl

theorem mem_placesOfClass {c : Nat} : i ∈ placesOfClass table c ↔ ∃ g, table[i]? = some g ∧ g.effectiveClass = c := by
  unfold placesOfClass
  rw [List.mem_filter, List.mem_range]
  constructor
  · rintro ⟨inside, named⟩
    rw [List.getElem?_eq_getElem inside] at named ⊢
    exact ⟨_, rfl, by simpa using named⟩
  · rintro ⟨g, h, rfl⟩
    refine ⟨(List.getElem?_eq_some_iff.1 h).1, ?_⟩
    rw [h]
    exact beq_self_eq_true _

theorem placesOfClass_increasing (table : List GrantEntry) (c : Nat) : (placesOfClass table c).Pairwise (· < ·) :=
  List.Pairwise.filter _ List.pairwise_lt_range

theorem class_of_mem_places {c : Nat} (h : i ∈ placesOfClass table c) : classAt table i = c := by
  obtain ⟨g, hg, rfl⟩ := mem_placesOfClass.1 h
  exact classAt_of_entry hg

theorem mem_classList {c : Nat} : c ∈ [0, 1, 2, 3] ↔ c ≤ 3 := by
  simp only [List.mem_cons, List.not_mem_nil, or_false]
  omega

/-- Every place of a table with classes 0 to 3 is reached in shedding. -/
theorem mem_shedOrder (h : table[i]? = some g) (class_le : g.effectiveClass ≤ 3) : i ∈ shedOrder table :=
  List.mem_flatMap.2 ⟨g.effectiveClass, mem_classList.2 class_le, List.mem_reverse.2 (mem_placesOfClass.2 ⟨g, h, rfl⟩)⟩

theorem mem_raiseOrder (h : table[i]? = some g) (class_le : g.effectiveClass ≤ 3) : i ∈ raiseOrder table := by
  refine List.mem_flatMap.2 ⟨g.effectiveClass, ?_, mem_placesOfClass.2 ⟨g, h, rfl⟩⟩
  exact List.mem_reverse.1 (mem_classList.2 class_le)

/-- The shedding order takes the lowest class first, and in a class the highest position (R127). -/
theorem shedOrder_sorted (table : List GrantEntry) : (shedOrder table).Pairwise (ShedsBefore table) := by
  refine List.pairwise_flatMap.2 ⟨fun c _ => ?_, ?_⟩
  · rw [List.pairwise_reverse]
    refine (placesOfClass_increasing table c).imp_of_mem fun {a b} ha hb less => Or.inr ⟨?_, less⟩
    rw [class_of_mem_places ha, class_of_mem_places hb]
  · have rising : [0, 1, 2, 3].Pairwise (· < ·) := by decide
    refine rising.imp fun less x hx y hy => Or.inl ?_
    rw [class_of_mem_places (List.mem_reverse.1 hx), class_of_mem_places (List.mem_reverse.1 hy)]
    exact less

/-- The raising order takes each place once. -/
theorem raiseOrder_nodup (table : List GrantEntry) : (raiseOrder table).Nodup := by
  refine List.pairwise_flatMap.2 ⟨fun c _ => (placesOfClass_increasing table c).imp fun less => less.ne, ?_⟩
  have falling : [3, 2, 1, 0].Pairwise (· ≠ ·) := by decide
  refine falling.imp fun differ x hx y hy same => differ ?_
  rw [← class_of_mem_places hx, same, class_of_mem_places hy]

theorem ShedsBefore.asymm (h : ShedsBefore table j i) : ¬ShedsBefore table i j := by
  unfold ShedsBefore at h ⊢
  omega

/-! ## Places taken in turn -/

/-- A fold that changes one place at a time leaves a place that it does not take. -/
theorem foldl_elsewhere {σ : Type} {f : σ → Nat → σ} {read : σ → Nat → Option GrantEntry}
    (elsewhere : ∀ x i j, j ≠ i → read (f x i) j = read x j) {l : List Nat} (h : j ∉ l) (x : σ) :
    read (l.foldl f x) j = read x j := by
  induction l generalizing x with
  | nil => rfl
  | cons i l ih =>
    rw [List.mem_cons, not_or] at h
    rw [List.foldl_cons, ih h.2, elsewhere _ _ _ h.1]

/-! ## Shedding -/

/-- The grant that shedding leaves at a place, from the whole sum that it finds there (R127). -/
def shedStep (levels : List Nat) (budget sum grant : Nat) : Nat :=
  if sum ≤ budget then grant else shedGrant levels grant (sum - grant) budget

theorem shedAt_eq (h : table[i]? = some g) :
    shedAt entries budget table i
      = table.set i (g.regrant (shedStep (levelsAt entries i) budget (grantSum table) g.grant)) := by
  unfold shedAt shedStep
  split
  · exact (set_regrant_self h).symm
  · rw [h]
    rfl

theorem shedAt_within (within : grantSum table ≤ budget) (i : Nat) : shedAt entries budget table i = table := if_pos within

theorem shedAt_elsewhere (entries : List RosterEntry) (budget : Nat) (table : List GrantEntry) (i j : Nat) (other : j ≠ i) :
    (shedAt entries budget table i)[j]? = table[j]? := by
  unfold shedAt
  split
  · rfl
  · split
    · exact List.getElem?_set_ne other.symm
    · rfl

theorem shedAt_same (entries : List RosterEntry) (budget : Nat) (table : List GrantEntry) (i : Nat) :
    SameButGrants table (shedAt entries budget table i) := by
  cases h : table[i]? with
  | some g =>
    rw [shedAt_eq h]
    exact sameButGrants_set h _
  | none =>
    unfold shedAt
    rw [h]
    split <;> rfl

theorem foldl_shedAt_elsewhere {l : List Nat} (h : j ∉ l) (table : List GrantEntry) :
    (l.foldl (shedAt entries budget) table)[j]? = table[j]? :=
  foldl_elsewhere (read := fun (u : List GrantEntry) j => u[j]?) (shedAt_elsewhere entries budget) h table

/-- Shedding lowers grants alone (R127). -/
theorem foldl_shedAt_same (l : List Nat) (table : List GrantEntry) :
    SameButGrants table (l.foldl (shedAt entries budget) table) :=
  List.foldlRecOn (motive := SameButGrants table) l _ rfl fun u h i _ => h.trans (shedAt_same entries budget u i)

theorem shedTable_same (entries : List RosterEntry) (budget : Nat) (table : List GrantEntry) :
    SameButGrants table (shedTable entries budget table) :=
  foldl_shedAt_same _ _

theorem foldl_shedAt_within (within : grantSum table ≤ budget) (l : List Nat) :
    l.foldl (shedAt entries budget) table = table :=
  List.foldlRecOn (motive := (· = table)) l _ rfl fun u h i _ => by rw [h, shedAt_within within]

theorem shedTable_within (within : grantSum table ≤ budget) : shedTable entries budget table = table :=
  foldl_shedAt_within within _

/-- What is left at a place by shedding it: no more than it had, and a level that fits, or nothing (R127). -/
theorem shedGrant_fits (levels : List Nat) (grant others budget : Nat) :
    shedGrant levels grant others budget ≤ grant
      ∧ (shedGrant levels grant others budget = 0
        ∨ shedGrant levels grant others budget ∈ levels ∧ others + shedGrant levels grant others budget ≤ budget) := by
  refine ⟨levelWithin_le _ _, (levelWithin_eq_or_mem _ _).imp id fun level => ?_⟩
  obtain ⟨mem, fits⟩ := List.mem_filter.1 level
  exact ⟨mem, of_decide_eq_true fits⟩

/-- Shedding takes no more than it must: a higher level up to the grant does not fit (R127). -/
theorem shedGrant_highest {levels : List Nat} {grant others l : Nat} (level : l ∈ levels)
    (above : shedGrant levels grant others budget < l) (held : l ≤ grant) : budget < others + l := by
  by_contra fits
  refine absurd (le_levelWithin (List.mem_filter.2 ⟨level, ?_⟩) held) (not_le.2 above)
  simpa using fits

/-- After a place is shed the sum is within the budget, or nothing is granted there (R127). -/
theorem shedAt_fits (h : table[i]? = some g) :
    grantSum (shedAt entries budget table i) ≤ budget
      ∨ ∀ x, (shedAt entries budget table i)[i]? = some x → x.grant = 0 := by
  by_cases within : grantSum table ≤ budget
  · exact Or.inl (by rwa [shedAt_within within])
  · have sum := grantSum_set h (shedStep (levelsAt entries i) budget (grantSum table) g.grant)
    have held := grant_le_grantSum h
    rw [← shedAt_eq h, shedStep, if_neg within] at sum
    rcases (shedGrant_fits (levelsAt entries i) g.grant (grantSum table - g.grant) budget).2 with zero | ⟨-, fits⟩
    · refine Or.inr fun x hx => ?_
      rw [shedAt_eq h, List.getElem?_set_self (List.getElem?_eq_some_iff.1 h).1, shedStep, if_neg within] at hx
      cases hx
      exact zero
    · exact Or.inl (by omega)

/-- Places shed in turn bring the sum within the budget, or nothing is granted at any of them (R127). -/
theorem foldl_shedAt_fits (l : List Nat) (table : List GrantEntry) :
    grantSum (l.foldl (shedAt entries budget) table) ≤ budget
      ∨ ∀ i ∈ l, ∀ x, (l.foldl (shedAt entries budget) table)[i]? = some x → x.grant = 0 := by
  induction l generalizing table with
  | nil => exact Or.inr nofun
  | cons i l ih =>
    rw [List.foldl_cons]
    refine (ih (shedAt entries budget table i)).elim Or.inl fun later => ?_
    by_cases again : i ∈ l
    · refine Or.inr fun j hj => ?_
      rcases List.mem_cons.1 hj with rfl | hj
      · exact later j again
      · exact later j hj
    · have kept := foldl_shedAt_elsewhere (entries := entries) (budget := budget) again (shedAt entries budget table i)
      cases h : table[i]? with
      | none =>
        refine Or.inr fun j hj x hx => ?_
        rcases List.mem_cons.1 hj with rfl | hj
        · rw [kept] at hx
          have beyond : (shedAt entries budget table j)[j]? = none := by
            rw [List.getElem?_eq_none_iff] at h ⊢
            rwa [(shedAt_same entries budget table j).length]
          rw [beyond] at hx
          cases hx
        · exact later j hj x hx
      | some g =>
        rcases shedAt_fits (entries := entries) (budget := budget) h with within | zero
        · exact Or.inl (by rwa [foldl_shedAt_within within])
        · refine Or.inr fun j hj x hx => ?_
          rcases List.mem_cons.1 hj with rfl | hj
          · exact zero x (kept ▸ hx)
          · exact later j hj x hx

/-- Shedding ends with the sum of the grants within the budget (R127). -/
theorem grantSum_shedTable (classes : ∀ g ∈ table, g.effectiveClass ≤ 3) :
    grantSum (shedTable entries budget table) ≤ budget := by
  refine (foldl_shedAt_fits (shedOrder table) table).elim id fun empty => ?_
  have zero : ∀ n ∈ (shedTable entries budget table).map (·.grant), n = 0 := by
    intro n hn
    obtain ⟨y, hy, rfl⟩ := List.mem_map.1 hn
    obtain ⟨i, at_i⟩ := List.mem_iff_getElem?.1 hy
    obtain ⟨inside, -⟩ := List.getElem?_eq_some_iff.1 at_i
    rw [(shedTable_same entries budget table).length] at inside
    have entry := List.getElem?_eq_getElem inside
    exact empty i (mem_shedOrder entry (classes _ (List.getElem_mem inside))) y at_i
  exact (List.sum_eq_zero_iff.2 zero).le.trans (Nat.zero_le budget)

/-! ## What shedding makes of a place -/

/-- The grant at a place; 0 beyond the table. -/
def grantAt (table : List GrantEntry) (i : Nat) : Nat := (table[i]?.map (·.grant)).getD 0

/-- The sum of the grants that shedding finds at a place, with some grant there: the places before it in the order are
shed, the places after it are not (R127). -/
def sumShed (table after : List GrantEntry) (i mine : Nat) : Nat :=
  (table.mapIdx fun j g => if j = i then mine else if ShedsBefore table j i then grantAt after j else g.grant).sum

theorem sumShed_add (h : table[i]? = some g) (m n : Nat) : sumShed table after i m + n = sumShed table after i n + m :=
  sum_mapIdx_at _ h m n

/-- A table on the way through the shedding order, places before one shed and the others as they were, has the sum that
shedding finds at that place. -/
theorem grantSum_eq_sumShed {u : List GrantEntry} (same : SameButGrants table u) (h : table[i]? = some g)
    (here : u[i]? = some g)
    (shed : ∀ j, j < table.length → ShedsBefore table j i → u[j]? = after[j]?)
    (waits : ∀ j, j < table.length → j ≠ i → ¬ShedsBefore table j i → u[j]? = table[j]?) :
    grantSum u = sumShed table after i g.grant := by
  refine congrArg List.sum (List.ext_getElem (by simp [same.length]) fun j inU inTable => ?_)
  have inside : j < table.length := by simpa using inTable
  have insideU : j < u.length := by rwa [same.length]
  have read : u[j]? = some u[j] := List.getElem?_eq_getElem _
  rw [List.getElem_map, List.getElem_mapIdx]
  by_cases hij : j = i
  · subst hij
    rw [if_pos rfl]
    rw [here] at read
    cases read
    rfl
  rw [if_neg hij]
  by_cases earlier : ShedsBefore table j i
  · rw [if_pos earlier, grantAt, ← shed j inside earlier, read]
    rfl
  · rw [if_neg earlier]
    rw [waits j inside hij earlier, List.getElem?_eq_getElem inside] at read
    exact congrArg GrantEntry.grant (Option.some.inj read).symm

/-- Shedding at a place finds the places before it shed and those after it as they were (R127). -/
theorem shedTable_place (classes : ∀ g ∈ table, g.effectiveClass ≤ 3) (h : table[i]? = some g) :
    (shedTable entries budget table)[i]? = some (g.regrant (shedStep (levelsAt entries i) budget
      (sumShed table (shedTable entries budget table) i g.grant) g.grant)) := by
  have reached (j : Nat) (inside : j < table.length) : j ∈ shedOrder table :=
    mem_shedOrder (List.getElem?_eq_getElem inside) (classes _ (List.getElem_mem inside))
  have inside := (List.getElem?_eq_some_iff.1 h).1
  obtain ⟨pre, post, order⟩ := List.append_of_mem (reached i inside)
  have sorted := shedOrder_sorted table
  rw [order, List.pairwise_append, List.pairwise_cons] at sorted
  obtain ⟨-, ⟨later, -⟩, earlier⟩ := sorted
  have before (j : Nat) (hj : j ∈ pre) : ShedsBefore table j i := earlier j hj i List.mem_cons_self
  have notLater {j : Nat} (hj : ShedsBefore table j i) : j ∉ i :: post := fun m => by
    rcases List.mem_cons.1 m with rfl | m
    · exact hj.asymm hj
    · exact hj.asymm (later j m)
  generalize hu : pre.foldl (shedAt entries budget) table = u
  have after : shedTable entries budget table = post.foldl (shedAt entries budget) (shedAt entries budget u i) := by
    rw [← hu, ← List.foldl_cons, ← List.foldl_append, ← order]
    rfl
  have here : u[i]? = some g := by
    rw [← hu, foldl_shedAt_elsewhere fun hi => notLater (before i hi) List.mem_cons_self]
    exact h
  have sum : grantSum u = sumShed table (shedTable entries budget table) i g.grant := by
    refine grantSum_eq_sumShed ?_ h here (fun j inside early => ?_) fun j inside other late => ?_
    · rw [← hu]
      exact foldl_shedAt_same _ _
    · rw [after, ← List.foldl_cons, foldl_shedAt_elsewhere (notLater early)]
    · rw [← hu, foldl_shedAt_elsewhere fun hj => late (before j hj)]
  have notPost : i ∉ post := fun hi => (later i hi).asymm (later i hi)
  rw [← sum, after, foldl_shedAt_elsewhere notPost, shedAt_eq here]
  exact List.getElem?_set_self (List.getElem?_eq_some_iff.1 here).1

/-! ## Raising -/

/-- The level chosen in raising: no lower than the grant, and a level up to the demand level that the Room pays (R129). -/
theorem raiseLevel_pays (levels : List Nat) (demand : Nat) (room : Int) (g : GrantEntry) :
    g.grant ≤ raiseLevel levels demand room g
      ∧ (raiseLevel levels demand room g = g.grant ∨ raiseLevel levels demand room g ∈ levels
        ∧ raiseLevel levels demand room g ≤ demand ∧ (g.cost (raiseLevel levels demand room g) : Int) ≤ room) := by
  obtain ⟨attained, bound⟩ := isGreatest_foldl_max g.grant
    (levels.filter fun l => decide (g.grant < l ∧ l ≤ demand ∧ ((g.cost l : Nat) : Int) ≤ room))
  refine ⟨bound List.mem_cons_self, (List.mem_cons.1 attained).imp id fun level => ?_⟩
  obtain ⟨mem, fits⟩ := List.mem_filter.1 level
  obtain ⟨-, wanted, paid⟩ := of_decide_eq_true fits
  exact ⟨mem, wanted, paid⟩

/-- Raising goes as high as the Room pays: a higher level up to the demand level costs more (R129). -/
theorem raiseLevel_highest {levels : List Nat} {demand l : Nat} {room : Int} (level : l ∈ levels)
    (above : raiseLevel levels demand room g < l) (wanted : l ≤ demand) : room < g.cost l := by
  have raises := (raiseLevel_pays levels demand room g).1
  by_contra paid
  have kept : l ∈ levels.filter fun l => decide (g.grant < l ∧ l ≤ demand ∧ ((g.cost l : Nat) : Int) ≤ room) :=
    List.mem_filter.2 ⟨level, decide_eq_true ⟨by omega, wanted, not_lt.1 paid⟩⟩
  exact absurd ((isGreatest_foldl_max g.grant _).2 (List.mem_cons_of_mem _ kept)) (not_le.2 above)

/-- The level a place is raised to from a Room (R129). -/
def raiseTo (entries : List RosterEntry) (i : Nat) (room : Int) (g : GrantEntry) : Nat :=
  raiseLevel (levelsAt entries i) (demandLevel entries i g) room g

theorem raiseTo_pays (entries : List RosterEntry) (i : Nat) (room : Int) (g : GrantEntry) :
    g.grant ≤ raiseTo entries i room g
      ∧ (raiseTo entries i room g = g.grant ∨ raiseTo entries i room g ∈ levelsAt entries i
        ∧ raiseTo entries i room g ≤ demandLevel entries i g ∧ (g.cost (raiseTo entries i room g) : Int) ≤ room) :=
  raiseLevel_pays _ _ _ _

/-- The cost of no raise is 0. -/
theorem cost_grant (g : GrantEntry) : g.cost g.grant = 0 := Nat.sub_self _

theorem raiseAt_eq {x : List GrantEntry × Int} (h : x.1[i]? = some g) :
    raiseAt entries x i
      = (x.1.set i (g.regrant (raiseTo entries i x.2 g)), x.2 - (g.cost (raiseTo entries i x.2 g) : Nat)) := by
  have raises := (raiseTo_pays entries i x.2 g).1
  have step : raiseAt entries x i = if g.grant < raiseTo entries i x.2 g
      then (x.1.set i (g.regrant (raiseTo entries i x.2 g)), x.2 - (g.cost (raiseTo entries i x.2 g) : Nat)) else x := by
    unfold raiseAt
    rw [h]
    rfl
  rw [step]
  split
  · rfl
  · next stays =>
    have same : raiseTo entries i x.2 g = g.grant := by omega
    rw [same, cost_grant, set_regrant_self h]
    simp

theorem raiseAt_none {x : List GrantEntry × Int} (h : x.1[i]? = none) : raiseAt entries x i = x := by
  unfold raiseAt
  rw [h]

theorem foldl_raiseAt_elsewhere {l : List Nat} (h : j ∉ l) (x : List GrantEntry × Int) :
    (l.foldl (raiseAt entries) x).1[j]? = x.1[j]? := by
  refine foldl_elsewhere (read := fun (y : List GrantEntry × Int) j => y.1[j]?) (fun y i j other => ?_) h x
  cases here : y.1[i]? with
  | none => rw [raiseAt_none here]
  | some g =>
    rw [raiseAt_eq here]
    exact List.getElem?_set_ne other.symm

/-- What places raised in turn keep: the Room is what the budget leaves, it falls, and it is not spent below 0 (R129). -/
structure RaisedWithin (budget : Nat) (x y : List GrantEntry × Int) : Prop where
  same : SameButGrants x.1 y.1
  room : x.2 = roomOf budget x.1 → y.2 = roomOf budget y.1
  falls : y.2 ≤ x.2
  solvent : 0 ≤ x.2 → 0 ≤ y.2
  short : x.2 < 0 → y = x

theorem RaisedWithin.refl (budget : Nat) (x : List GrantEntry × Int) : RaisedWithin budget x x :=
  ⟨rfl, id, le_rfl, id, fun _ => rfl⟩

theorem RaisedWithin.trans {x y z : List GrantEntry × Int} (h : RaisedWithin budget x y) (k : RaisedWithin budget y z) :
    RaisedWithin budget x z :=
  ⟨h.same.trans k.same, k.room ∘ h.room, k.falls.trans h.falls, k.solvent ∘ h.solvent,
    fun short => (k.short (by rwa [h.short short])).trans (h.short short)⟩

/-- The larger of grant and applied power of an entry raised to a level (R129). -/
theorem drawn_regrant {n : Nat} (raises : g.grant ≤ n) : (g.regrant n).drawn = g.drawn + g.cost n := by
  unfold GrantEntry.drawn GrantEntry.cost GrantEntry.regrant GrantEntry.drawn
  simp only
  omega

/-- A raise adds its cost to what is granted or still drawn (R129). -/
theorem drawnSum_set {n : Nat} (h : table[i]? = some g) (raises : g.grant ≤ n) :
    ((table.set i (g.regrant n)).map (·.drawn)).sum = (table.map (·.drawn)).sum + g.cost n := by
  have sum : _ + g.drawn = _ + (g.regrant n).drawn := sum_map_set (·.drawn) h (g.regrant n)
  rw [drawn_regrant raises] at sum
  omega

theorem raisedWithin_raiseAt (entries : List RosterEntry) (budget : Nat) (x : List GrantEntry × Int) (i : Nat) :
    RaisedWithin budget x (raiseAt entries x i) := by
  cases h : x.1[i]? with
  | none =>
    rw [raiseAt_none h]
    exact .refl budget x
  | some g =>
    obtain ⟨raises, pays⟩ := raiseTo_pays entries i x.2 g
    have afford : raiseTo entries i x.2 g = g.grant ∨ (g.cost (raiseTo entries i x.2 g) : Int) ≤ x.2 :=
      pays.imp id fun ⟨_, _, paid⟩ => paid
    rw [raiseAt_eq h]
    refine ⟨sameButGrants_set h _, fun room => ?_, ?_, fun solvent => ?_, fun short => ?_⟩
    · simp only [roomOf, drawnSum_set h raises] at room ⊢
      omega
    · simp only
      omega
    · rcases afford with same | paid
      · simp only [same, cost_grant]
        omega
      · simp only
        omega
    · rcases afford with same | paid
      · rw [same, cost_grant, set_regrant_self h]
        simp
      · omega

theorem raisedWithin_foldl (entries : List RosterEntry) (budget : Nat) (l : List Nat) (x : List GrantEntry × Int) :
    RaisedWithin budget x (l.foldl (raiseAt entries) x) :=
  List.foldlRecOn (motive := RaisedWithin budget x) l _ (.refl budget x) fun y h i _ =>
    h.trans (raisedWithin_raiseAt entries budget y i)

theorem raisedWithin_raiseTable (entries : List RosterEntry) (budget : Nat) (table : List GrantEntry) :
    RaisedWithin budget (table, roomOf budget table) (raiseTable entries budget table) :=
  raisedWithin_foldl entries budget _ _

/-- Raising leaves a Room of what the budget leaves over what is granted or still drawn (R129). -/
theorem raiseTable_room (entries : List RosterEntry) (budget : Nat) (table : List GrantEntry) :
    (raiseTable entries budget table).2 = roomOf budget (raiseTable entries budget table).1 :=
  (raisedWithin_raiseTable entries budget table).room rfl

/-- While the power still drawn exceeds the budget nothing is raised (R129). -/
theorem raiseTable_short (entries : List RosterEntry) (short : roomOf budget table < 0) :
    raiseTable entries budget table = (table, roomOf budget table) :=
  (raisedWithin_raiseTable entries budget table).short short

/-- Raising keeps the sum of the grants within the budget (R127, R129). -/
theorem grantSum_raiseTable (entries : List RosterEntry) (within : grantSum table ≤ budget) :
    grantSum (raiseTable entries budget table).1 ≤ budget := by
  by_cases short : roomOf budget table < 0
  · rw [raiseTable_short entries short]
    exact within
  · have solvent := (raisedWithin_raiseTable entries budget table).solvent (not_lt.1 short)
    rw [raiseTable_room] at solvent
    have granted := grantSum_le_drawn (raiseTable entries budget table).1
    unfold roomOf at solvent
    omega

/-- Raising at a place finds a Room, and what it leaves of that is not less than the Room at the end (R129). -/
theorem raiseTable_place (entries : List RosterEntry) (budget : Nat) (h : table[i]? = some g)
    (class_le : g.effectiveClass ≤ 3) :
    ∃ room : Int, (raiseTable entries budget table).1[i]? = some (g.regrant (raiseTo entries i room g))
      ∧ (raiseTable entries budget table).2 ≤ room - (g.cost (raiseTo entries i room g) : Nat) := by
  obtain ⟨pre, post, order⟩ := List.append_of_mem (mem_raiseOrder h class_le)
  have once := raiseOrder_nodup table
  rw [order, List.nodup_append, List.nodup_cons] at once
  obtain ⟨-, ⟨notPost, -⟩, apart⟩ := once
  have notPre : i ∉ pre := fun hi => apart i hi i List.mem_cons_self rfl
  generalize hx : pre.foldl (raiseAt entries) (table, roomOf budget table) = x
  have after : raiseTable entries budget table = post.foldl (raiseAt entries) (raiseAt entries x i) := by
    rw [← hx, ← List.foldl_cons, ← List.foldl_append, ← order]
    rfl
  have here : x.1[i]? = some g := by
    rw [← hx, foldl_raiseAt_elsewhere notPre]
    exact h
  refine ⟨x.2, ?_, ?_⟩
  · rw [after, foldl_raiseAt_elsewhere notPost, raiseAt_eq here]
    exact List.getElem?_set_self (List.getElem?_eq_some_iff.1 here).1
  · have falls := (raisedWithin_foldl entries budget post (raiseAt entries x i)).falls
    rw [← after, raiseAt_eq here] at falls
    exact falls

/-! ## Each RETURN -/

/-- An entry as a RETURN updates, seeds and lowers it (R126, R129). -/
def loweredEntry (entries : List RosterEntry) (records : List CycleRecord) (first : Bool) (i : Nat) (g : GrantEntry) :
    GrantEntry :=
  let u := updateEntry entries records i g
  lowerEntry entries i (if first then seedEntry entries i u else u)

/-- The table that a RETURN raises: lowered, and shed where the RETURN seeds it (R126, R129). -/
def tableToRaise (entries : List RosterEntry) (records : List CycleRecord) (budget : Nat) (table : List GrantEntry) :
    List GrantEntry :=
  let lowered := mapTable (loweredEntry entries records (unseeded table)) table
  if unseeded table then shedTable entries budget lowered else lowered

/-- The node with its Grant Table updated, seeded and lowered by a RETURN. -/
def State.lowered (s : State) (a : ActiveConsist) (records : List CycleRecord) : State :=
  s.modGrants fun g => { g with table := mapTable (loweredEntry a.entries records (unseeded s.grants.table)) s.grants.table }

/-- A RETURN lowers the table, sheds it where it seeds, and raises (R126, R129). -/
theorem grantReturn_eq (s : State) (a : ActiveConsist) (records : List CycleRecord) :
    s.grantReturn a records
      = (if unseeded s.grants.table then (s.lowered a records).shed a else s.lowered a records).raiseGrants a := by
  have lowers : mapTable (lowerEntry a.entries)
        (mapTable (fun i g => if unseeded s.grants.table then seedEntry a.entries i g else g) (mapTable (fun i g => updateEntry a.entries records i g) s.grants.table))
      = mapTable (loweredEntry a.entries records (unseeded s.grants.table)) s.grants.table := by
    simp only [mapTable, List.mapIdx_mapIdx]
    rfl
  have node : _ = s.lowered a records := congrArg (fun t => s.modGrants fun g => { g with table := t }) lowers
  exact congrArg (fun u : State => (if unseeded s.grants.table then u.shed a else u).raiseGrants a) node

/-- The Grant Engine after a RETURN (R126, R129, R130). -/
theorem grantReturn_grants (s : State) (a : ActiveConsist) (records : List CycleRecord) :
    (s.grantReturn a records).grants =
      { s.grants with
        table := mapTable (withholdEntry a.entries)
          (raiseTable a.entries s.grants.budget (tableToRaise a.entries records s.grants.budget s.grants.table)).1
        room := (raiseTable a.entries s.grants.budget (tableToRaise a.entries records s.grants.budget s.grants.table)).2 } := by
  have node : (if unseeded s.grants.table then (s.lowered a records).shed a else s.lowered a records).grants
      = { s.grants with table := tableToRaise a.entries records s.grants.budget s.grants.table } := by
    unfold State.lowered tableToRaise
    cases unseeded s.grants.table with
    | true => exact grants_shed _ a
    | false => rfl
  rw [grantReturn_eq]
  unfold State.raiseGrants
  rw [modGrants_grants, node]

theorem grantReturn_budget (s : State) (a : ActiveConsist) (records : List CycleRecord) :
    (s.grantReturn a records).grants.budget = s.grants.budget := by rw [grantReturn_grants]

theorem mapTable_entry (f : Nat → GrantEntry → GrantEntry) (h : table[i]? = some g) :
    (mapTable f table)[i]? = some (f i g) := by
  rw [mapTable, List.getElem?_mapIdx, h]
  rfl

/-- A change of each entry that raises no grant raises no sum. -/
theorem grantSum_mapTable_le {f : Nat → GrantEntry → GrantEntry} (lowers : ∀ i g, (f i g).grant ≤ g.grant)
    (table : List GrantEntry) : grantSum (mapTable f table) ≤ grantSum table := by
  unfold grantSum mapTable
  induction table generalizing f with
  | nil => exact le_rfl
  | cons g table ih =>
    rw [List.mapIdx_cons, List.map_cons, List.map_cons, List.sum_cons, List.sum_cons]
    exact Nat.add_le_add (lowers 0 g) (ih fun i g => lowers (i + 1) g)

/-- A RETURN that seeds nothing raises no grant in lowering (R129). -/
theorem loweredEntry_le (entries : List RosterEntry) (records : List CycleRecord) (i : Nat) (g : GrantEntry) :
    (loweredEntry entries records false i g).grant ≤ g.grant := by
  have kept : (updateEntry entries records i g).grant = g.grant := by
    unfold updateEntry
    split <;> rfl
  exact (min_le_left _ _).trans kept.le

theorem loweredEntry_class (entries : List RosterEntry) (records : List CycleRecord) (first : Bool) (i : Nat) (g : GrantEntry) :
    (loweredEntry entries records first i g).effectiveClass = (updateEntry entries records i g).effectiveClass := by
  unfold loweredEntry
  cases first <;> rfl

theorem priorityAt_le (consist : ∀ r ∈ entries, r.priority ≤ 3) (i : Nat) : priorityAt entries i ≤ 3 := by
  unfold priorityAt
  split
  · next r h => exact consist r (List.mem_of_getElem? h)
  · exact Nat.zero_le 3

/-- A RETURN leaves each entry one of the four classes (R125). -/
theorem loweredTable_classes (consist : ∀ r ∈ entries, r.priority ≤ 3) (classes : ∀ g ∈ table, g.effectiveClass ≤ 3)
    (records : List CycleRecord) (first : Bool) :
    ∀ g ∈ mapTable (loweredEntry entries records first) table, g.effectiveClass ≤ 3 := by
  intro g hg
  obtain ⟨i, inside, rfl⟩ := List.mem_mapIdx.1 hg
  rw [loweredEntry_class]
  unfold updateEntry
  split
  · simp only
    split
    · exact le_rfl
    · exact priorityAt_le consist i
  · exact classes _ (List.getElem_mem inside)

theorem tableToRaise_classes (consist : ∀ r ∈ entries, r.priority ≤ 3) (classes : ∀ g ∈ table, g.effectiveClass ≤ 3)
    (records : List CycleRecord) : ∀ g ∈ tableToRaise entries records budget table, g.effectiveClass ≤ 3 := by
  have lowered := loweredTable_classes consist classes records (unseeded table)
  unfold tableToRaise
  simp only
  split
  · exact (shedTable_same _ _ _).classes lowered
  · exact lowered

/-- The grants that a RETURN raises are within the budget: by shedding where it seeds, and else as they were (R127). -/
theorem grantSum_tableToRaise (consist : ∀ r ∈ entries, r.priority ≤ 3) (classes : ∀ g ∈ table, g.effectiveClass ≤ 3)
    (records : List CycleRecord) (within : unseeded table = true ∨ grantSum table ≤ budget) :
    grantSum (tableToRaise entries records budget table) ≤ budget := by
  unfold tableToRaise
  cases first : unseeded table with
  | true => exact grantSum_shedTable (loweredTable_classes consist classes records true)
  | false =>
    have held : grantSum table ≤ budget := within.resolve_left (by simp [first])
    exact (grantSum_mapTable_le (loweredEntry_le entries records) table).trans held

/-- The Withheld flags are all that the end of a RETURN sets (R130). -/
theorem map_withhold {α : Type} (entries : List RosterEntry) (table : List GrantEntry) (f : GrantEntry → α)
    (blind : ∀ i g, f (withholdEntry entries i g) = f g) : (mapTable (withholdEntry entries) table).map f = table.map f := by
  refine List.ext_getElem? fun i => ?_
  rw [List.getElem?_map, mapTable, List.getElem?_mapIdx, Option.map_map, List.getElem?_map]
  exact congrArg (Option.map · _) (funext (blind i))

theorem grantSum_withhold (entries : List RosterEntry) (table : List GrantEntry) :
    grantSum (mapTable (withholdEntry entries) table) = grantSum table :=
  congrArg List.sum (map_withhold entries table (·.grant) fun _ _ => rfl)

theorem withhold_classes (entries : List RosterEntry) (classes : ∀ g ∈ table, g.effectiveClass ≤ 3) :
    ∀ g ∈ mapTable (withholdEntry entries) table, g.effectiveClass ≤ 3 := by
  intro g hg
  obtain ⟨i, inside, rfl⟩ := List.mem_mapIdx.1 hg
  exact classes table[i] (List.getElem_mem inside)

/-- A RETURN that seeds, or that finds the grants within the budget, leaves them within it (R127). -/
theorem grantSum_grantReturn {s : State} {a : ActiveConsist} (consist : ∀ r ∈ a.entries, r.priority ≤ 3)
    (classes : ∀ g ∈ s.grants.table, g.effectiveClass ≤ 3) (records : List CycleRecord)
    (within : unseeded s.grants.table = true ∨ grantSum s.grants.table ≤ s.grants.budget) :
    grantSum (s.grantReturn a records).grants.table ≤ s.grants.budget := by
  rw [grantReturn_grants, grantSum_withhold]
  exact grantSum_raiseTable _ (grantSum_tableToRaise consist classes records within)

theorem grantReturn_classes {s : State} {a : ActiveConsist} (consist : ∀ r ∈ a.entries, r.priority ≤ 3)
    (classes : ∀ g ∈ s.grants.table, g.effectiveClass ≤ 3) (records : List CycleRecord) :
    ∀ g ∈ (s.grantReturn a records).grants.table, g.effectiveClass ≤ 3 := by
  rw [grantReturn_grants]
  exact withhold_classes _ ((raisedWithin_raiseTable _ _ _).same.classes (tableToRaise_classes consist classes records))

/-! ## A budget taken -/

/-- The node with another Supply Budget. -/
def State.budgeted (s : State) (v : Nat) : State := s.modGrants fun g => { g with budget := v }

/-- A budget sheds nothing at a node without a consist, out of use, or where the grants are within it (R121). -/
theorem setBudget_keeps {s : State} {v : Nat} (h : s.active = none ∨ s.grants.inUse = false ∨ grantSum s.grants.table ≤ v) :
    s.setBudget v = (s.budgeted v).requestCall := by
  have active : (s.budgeted v).active = s.active := rfl
  refine congrArg State.requestCall ?_
  change (match (s.budgeted v).active with | some a => _ | none => _) = _
  rw [active]
  cases ha : s.active with
  | none => rfl
  | some a =>
    refine if_neg fun sheds => ?_
    obtain ⟨used, exceeds⟩ := Bool.and_eq_true_iff.1 sheds
    rcases h with alone | idle | fits
    · rw [ha] at alone
      cases alone
    · have same : s.grants.inUse = true := used
      rw [idle] at same
      cases same
    · exact absurd (of_decide_eq_true exceeds) (not_lt.2 fits)

/-- In use, a budget below the sum of the grants sheds the table at once (R121, R128). -/
theorem setBudget_sheds {s : State} {a : ActiveConsist} {v : Nat} (ha : s.active = some a) (used : s.grants.inUse = true)
    (exceeds : v < grantSum s.grants.table) : s.setBudget v = ((s.budgeted v).shed a).requestCall := by
  have active : (s.budgeted v).active = some a := ha
  refine congrArg State.requestCall ?_
  change (match (s.budgeted v).active with | some a => _ | none => _) = _
  rw [active]
  exact if_pos (Bool.and_eq_true_iff.2 ⟨used, decide_eq_true exceeds⟩)

theorem requestCall_grants (s : State) : s.requestCall.grants = s.grants :=
  sameBlock_of_forget (L := [.cycle]) (by simp) .grants (by simp)

end Sys2Proof.Machine

/-! SUPPORT. The invariant of the grants: what it reads, what a role change and the Grant Engine make of it, and the operations
of the Inauguration Engine and the Cycle Engine under it (R122, R123, R125, R127). -/

namespace Sys2Proof.Machine

variable {s t : State} {r : CountRecord} {a : ActiveConsist} {e : EndId}

/-! ## What the invariant reads -/

/-- Every Priority Class of a consist is one of the four (R122). -/
def ActiveConsist.PrioritiesOk (a : ActiveConsist) : Prop := ∀ r ∈ a.entries, r.priority ≤ 3

/-- The blocks that hold nothing of the grants, of the consist and of the own Priority Class. -/
def grantless : List Block :=
  [.clock, .moments, .freeValues, .endOf .end1, .endOf .end2, .cycle, .door, .tracking, .stages, .messages, .portOf .portA
  , .portOf .portB]

/-- The own Priority Class is one of the four (R188). -/
theorem GrantsOk.own (h : GrantsOk s) : s.power.record.priority ≤ 3 := by
  obtain ⟨-, -, own, -⟩ := h
  exact own

theorem GrantsOk.priorities (h : GrantsOk s) (ha : s.active = some a) : a.PrioritiesOk := by
  obtain ⟨-, -, -, consist⟩ := h
  exact consist a ha

/-- An operation that reaches neither the grants, nor the roles, nor the power state. -/
theorem GrantsOk.elsewhere (h : GrantsOk s) (f : t.forget grantless = s.forget grantless) : GrantsOk t := by
  have grants : t.grants = s.grants := sameBlock_of_forget f .grants (by simp [grantless])
  have power : t.power = s.power := sameBlock_of_forget f .power (by simp [grantless])
  have active : t.active = s.active := active_of_inaug (sameBlock_of_forget f .inauguration (by simp [grantless]))
  unfold GrantsOk
  rw [grants, power, active]
  exact h

/-- A change of the Inauguration Engine that makes no member, or one of a consist whose classes are in order. -/
theorem GrantsOk.becomes {g : Inauguration → Inauguration} (h : GrantsOk s)
    (consist : ∀ a, (g s.inaug).role = .member a → a.PrioritiesOk) : GrantsOk (s.modInaug g) := by
  obtain ⟨within, classes, own, -⟩ := h
  exact ⟨within, classes, own, fun a ha => consist a (role_of_active ha)⟩

/-- A change of the Inauguration Engine beside the node role. -/
theorem GrantsOk.modInaug {g : Inauguration → Inauguration} (h : GrantsOk s)
    (hg : ∀ i, (g i).role = i.role := by exact fun _ => rfl) : GrantsOk (s.modInaug g) :=
  h.becomes fun a ha => h.priorities (by unfold State.active; rw [← hg, ha])

/-- A change of the Inauguration Engine that makes no member. -/
theorem GrantsOk.leaveRole {g : Inauguration → Inauguration} (h : GrantsOk s)
    (leaves : ∀ i a, (g i).role ≠ .member a := by intro _ _ h; cases h) : GrantsOk (s.modInaug g) :=
  h.becomes fun a ha => absurd ha (leaves _ a)

/-- A change of the Grant Engine that leaves the grants, or puts it out of use. -/
theorem GrantsOk.modGrants {g : GrantEngine → GrantEngine} (h : GrantsOk s)
    (hg : ∀ x, (g x).table = x.table ∧ (g x).budget = x.budget ∧ ((g x).inUse = true → x.inUse = true) := by
      exact fun _ => ⟨rfl, rfl, id⟩) : GrantsOk (s.modGrants g) := by
  obtain ⟨within, classes, own, consist⟩ := h
  obtain ⟨table, budget, inUse⟩ := hg s.grants
  refine ⟨fun used => ?_, ?_, own, consist⟩
  · rw [modGrants_grants] at used ⊢
    rw [table, budget]
    exact within (inUse used)
  · rw [modGrants_grants, table]
    exact classes

/-- A change of power and identity that leaves the own Priority Class one of the four. -/
theorem GrantsOk.modPower {g : Power → Power} (h : GrantsOk s) (hg : (g s.power).record.priority ≤ 3) :
    GrantsOk (s.modPower g) := by
  obtain ⟨within, classes, -, consist⟩ := h
  exact ⟨within, classes, hg, consist⟩

/-- A change of the power state beside the identity record. -/
theorem GrantsOk.repower {g : Power → Power} (h : GrantsOk s) (hg : ∀ x, (g x).record = x.record := by exact fun _ => rfl) :
    GrantsOk (s.modPower g) :=
  h.modPower (by rw [hg]; exact h.own)

theorem GrantsOk.modCycle {g : Cycle → Cycle} (h : GrantsOk s) : GrantsOk (s.modCycle g) := h.elsewhere (by simp [grantless])

theorem GrantsOk.placed {x : Source} {f : Frame} (h : GrantsOk s) : GrantsOk (s.place e x f) := h.elsewhere (by simp [grantless])

theorem GrantsOk.raise {c : Cause} (h : GrantsOk s) : GrantsOk (s.raise c) := h.elsewhere (by simp [grantless])

/-! ## The Grant Engine -/

/-- The table of a commit grants nothing (R122). -/
theorem GrantsOk.grantCommit (h : GrantsOk s) (consist : a.PrioritiesOk) : GrantsOk (s.grantCommit a) := by
  obtain ⟨-, -, own, others⟩ := h
  refine ⟨fun _ => ?_, ?_, own, others⟩
  · have zero : grantSum (a.entries.map .start) = 0 := by
      unfold grantSum
      rw [List.map_map]
      exact List.sum_eq_zero_iff.2 fun n hn => by
        obtain ⟨x, -, rfl⟩ := List.mem_map.1 hn
        rfl
    exact zero.le.trans (Nat.zero_le _)
  · intro g hg
    obtain ⟨x, hx, rfl⟩ := List.mem_map.1 (show g ∈ a.entries.map .start from hg)
    exact consist x hx

theorem GrantsOk.grantReturn {records : List CycleRecord} (h : GrantsOk s) (consist : a.PrioritiesOk) :
    GrantsOk (s.grantReturn a records) := by
  obtain ⟨within, classes, own, others⟩ := h
  have still : (s.grantReturn a records).forget [.grants, .portOf .portA, .portOf .portB]
      = s.forget [.grants, .portOf .portA, .portOf .portB] := by simp
  have power : (s.grantReturn a records).power = s.power := sameBlock_of_forget still .power (by simp)
  have active : (s.grantReturn a records).active = s.active :=
    active_of_inaug (sameBlock_of_forget still .inauguration (by simp))
  have inUse : (s.grantReturn a records).grants.inUse = s.grants.inUse := by rw [grantReturn_grants]
  refine ⟨fun used => ?_, grantReturn_classes consist classes records, by rw [power]; exact own, by rw [active]; exact others⟩
  rw [grantReturn_budget]
  exact grantSum_grantReturn consist classes records (Or.inr (within (inUse ▸ used)))

/-- A budget taken by an engine in use sheds a table whose sum exceeds it (R121, R127). -/
theorem GrantsOk.setBudget {v : Nat} (h : GrantsOk s) (member : s.grants.inUse = true → s.valid = true) :
    GrantsOk (s.setBudget v) := by
  obtain ⟨within, classes, own, consist⟩ := h
  have still : (s.setBudget v).forget [.grants, .cycle, .portOf .portA, .portOf .portB]
      = s.forget [.grants, .cycle, .portOf .portA, .portOf .portB] := by simp
  have power : (s.setBudget v).power = s.power := sameBlock_of_forget still .power (by simp)
  have active : (s.setBudget v).active = s.active := active_of_inaug (sameBlock_of_forget still .inauguration (by simp))
  suffices table : ((s.setBudget v).grants.inUse = true → grantSum (s.setBudget v).grants.table ≤ (s.setBudget v).grants.budget)
      ∧ ∀ g ∈ (s.setBudget v).grants.table, g.effectiveClass ≤ 3 from
    ⟨table.1, table.2, by rw [power]; exact own, by rw [active]; exact consist⟩
  by_cases sheds : s.grants.inUse = true ∧ v < grantSum s.grants.table
  · obtain ⟨used, exceeds⟩ := sheds
    obtain ⟨a, ha⟩ := Option.isSome_iff_exists.1 (member used)
    rw [setBudget_sheds ha used exceeds, requestCall_grants, grants_shed]
    exact ⟨fun _ => grantSum_shedTable classes, (shedTable_same _ _ _).classes classes⟩
  · have fits : s.grants.inUse = true → grantSum s.grants.table ≤ v := fun used => not_lt.1 fun exceeds => sheds ⟨used, exceeds⟩
    have stays : s.grants.inUse = false ∨ grantSum s.grants.table ≤ v := by
      cases used : s.grants.inUse with
      | true => exact Or.inr (fits used)
      | false => exact Or.inl rfl
    rw [setBudget_keeps (Or.inr stays), requestCall_grants]
    exact ⟨fits, classes⟩

theorem GrantsOk.takeGrant {n : Nat} (h : GrantsOk s) : GrantsOk (s.takeGrant n) := by
  unfold State.takeGrant
  split
  · exact h
  · split
    · exact h
    · exact h.modGrants.raise

theorem GrantsOk.useSettle {x : LastSettle} (h : GrantsOk s) : GrantsOk (s.useSettle x) :=
  (h.elsewhere (t := (s.modCycle fun c => { c with lastSettle := some x }).ceilingFromGrant x.grant)
    (by simp [grantless])).takeGrant

/-! ## Leaving -/

theorem GrantsOk.roleChanged (h : GrantsOk s) : GrantsOk s.roleChanged := h.modCycle.modGrants

theorem GrantsOk.reportRecount (h : GrantsOk s) : GrantsOk s.reportRecount :=
  h.elsewhere (by simp [State.reportRecount, grantless])

theorem GrantsOk.leaveHeading {i : Identity} (h : GrantsOk s) : GrantsOk (s.leaveHeading i) := by
  have stops : GrantsOk ((((s.modCycle Cycle.stop).withdrawOwn i .end1).withdrawOwn i .end2).doorLeavesHeading) :=
    h.elsewhere (by simp [grantless])
  exact stops.modGrants fun _ => ⟨rfl, rfl, nofun⟩

/-- A node that leaves MEMBER leaves the grants as they are, and as a head puts the Grant Engine out of use (R123). -/
theorem GrantsOk.leaveMember {next : NodeRole} {c : LeaveCause} (h : GrantsOk s)
    (leaves : ∀ b, next ≠ .member b := by intro _ h; cases h) :
    GrantsOk (s.leaveMember a next c) := by
  have told : GrantsOk (((s.modInaug fun i => { i with role := next, silence := none, lastCause := some c }).roleChanged).raise
      .consistInvalidated).reportRecount :=
    (h.leaveRole fun _ => leaves).roleChanged.raise.reportRecount
  unfold State.leaveMember
  simp only
  split
  · exact told.leaveHeading
  · exact told

theorem GrantsOk.fallBack (h : GrantsOk s) : GrantsOk s.fallBack := h.elsewhere (by simp [grantless])

theorem GrantsOk.goUnassigned {c : LeaveCause} (h : GrantsOk s) : GrantsOk (s.goUnassigned c) := by
  unfold State.goUnassigned
  split
  · exact h
  · exact h.leaveRole.roleChanged.raise.fallBack
  · exact h.leaveMember.modInaug.fallBack

theorem GrantsOk.recount (h : GrantsOk s) : GrantsOk (s.recount r) := by
  unfold State.recount
  split
  · exact h.leaveMember
  · exact h.leaveRole.roleChanged.reportRecount
  · exact h.leaveRole.reportRecount

theorem GrantsOk.emptyOrder (h : GrantsOk s) : GrantsOk s.emptyOrder := h.elsewhere (by simp [grantless])

theorem GrantsOk.failClaim {c : ClaimFailure} (h : GrantsOk s) : GrantsOk (s.failClaim c) := h.modInaug.emptyOrder.raise

theorem GrantsOk.dropClaim (h : GrantsOk s) : GrantsOk s.dropClaim := h.modInaug.emptyOrder

theorem GrantsOk.placeDissolve {n : Nat} (h : GrantsOk s) : GrantsOk (s.placeDissolve e n) := h.placed

/-! ## Committing and attempts -/

theorem prioritiesOk_ofBytes (bs : List Byte) : (RosterEntry.ofBytes bs).priority ≤ 3 :=
  Nat.le_of_lt_succ (Nat.mod_lt _ (by decide))

theorem prioritiesOk_tallyEntries (p : List Byte) : ∀ r ∈ tallyEntries p, r.priority ≤ 3 := by
  intro r hr
  obtain ⟨bs, -, rfl⟩ := List.mem_map.1 hr
  exact prioritiesOk_ofBytes bs

theorem prioritiesOk_commitEntries (p : List Byte) : ∀ r ∈ commitEntries p, r.priority ≤ 3 := by
  intro r hr
  obtain ⟨bs, -, rfl⟩ := List.mem_map.1 hr
  exact prioritiesOk_ofBytes bs

/-- The own entry of a head carries the own Priority Class, or that of the Blank record (R33). -/
theorem GrantsOk.rosterEntry (h : GrantsOk s) (n : Nat) (e : EndId) : (s.rosterEntry n e).priority ≤ 3 := by
  unfold State.rosterEntry
  simp only
  split
  · exact Nat.zero_le 3
  · exact h.own

theorem GrantsOk.commit {n : Nat} {others : List RosterEntry} {b : Bool} (h : GrantsOk s)
    (rest : ∀ r ∈ others, r.priority ≤ 3) : GrantsOk (s.commit r n others b) := by
  have consist : (s.headConsist r n others).PrioritiesOk := by
    intro x hx
    rcases List.mem_cons.1 hx with rfl | hx
    · exact h.rosterEntry 1 r.headward
    · exact rest x hx
  have doorCommit {u : State} (k : GrantsOk u) : GrantsOk u.doorCommit := k.elsewhere (by simp [grantless])
  unfold State.commit
  refine (doorCommit (((h.becomes fun x hx => ?_).roleChanged).grantCommit consist)).placed.raise.raise.modCycle
  cases hx
  exact consist

theorem GrantsOk.startHop {x : TallyStage} (h : GrantsOk s) : GrantsOk (s.startHop x) := h.modInaug

theorem GrantsOk.attemptFrom {n : Nat} (h : GrantsOk s) : GrantsOk (s.attemptFrom e n) := by
  unfold State.attemptFrom
  simp only
  split
  · exact h.recount.modInaug.commit nofun
  · exact h.recount.modInaug.placed.startHop.modInaug

theorem GrantsOk.beginAttempt {n : Nat} (h : GrantsOk s) : GrantsOk (s.beginAttempt n) := by
  have numbered : GrantsOk (s.modInaug fun i => { i with attempt := n }) := h.modInaug
  unfold State.beginAttempt
  simp only
  split
  · exact numbered.attemptFrom
  · exact numbered.goUnassigned.failClaim

theorem GrantsOk.reinaugurate (h : GrantsOk s) : GrantsOk s.reinaugurate := by
  unfold State.reinaugurate
  split
  · exact h.beginAttempt
  · exact h

theorem GrantsOk.claimCab (h : GrantsOk s) : GrantsOk s.claimCab := by
  unfold State.claimCab
  split
  · exact h.attemptFrom
  · exact h.failClaim

theorem GrantsOk.releaseCab (h : GrantsOk s) : GrantsOk s.releaseCab := by
  have dissolves {d : EndId} {n : Nat} : GrantsOk (((s.placeDissolve d n).goUnassigned .dissolve).dropClaim) :=
    h.placeDissolve.goUnassigned.dropClaim
  unfold State.releaseCab
  split
  · split
    · exact dissolves
    · exact h.dropClaim
  · split
    · exact dissolves
    · exact h.dropClaim
  · exact h.dropClaim

/-! ## COUNT, TALLY and COMMIT -/

theorem GrantsOk.setRecord (h : GrantsOk s) : GrantsOk (s.setRecord r) := h.leaveRole

theorem GrantsOk.tailTally {f : TallyFlag} (h : GrantsOk s) : GrantsOk (s.tailTally r f) := h.placed.modInaug.setRecord

theorem GrantsOk.answerCount (h : GrantsOk s) : GrantsOk (s.answerCount r) := by
  unfold State.answerCount
  split
  · exact h.placed
  · split
    · exact h.tailTally
    · exact h.placed.startHop

theorem GrantsOk.receiveCount {p : List Byte} (h : GrantsOk s) : GrantsOk (s.receiveCount e p) := by
  have takes {c : CountFrame} : GrantsOk (s.takeCount e c) := h.recount.modInaug.answerCount
  have contests {x : CountRecord} {c : CountFrame} : GrantsOk (s.contest x e c) := h.placed.placed.goUnassigned
  unfold State.receiveCount
  simp only
  split
  · exact h
  · split
    · exact h.placed.placed.goUnassigned.failClaim
    · split
      · split
        · exact contests
        · exact takes
      · exact takes

theorem GrantsOk.tallyAtNode {f : Frame} (h : GrantsOk s) : GrantsOk (s.tallyAtNode r f) := by
  unfold State.tallyAtNode
  split
  · exact h.placed.modInaug.setRecord
  · exact h.placed.goUnassigned
  · split
    · exact h.placed.setRecord
    · exact h
  · split
    · exact h.placed.setRecord
    · exact h

theorem GrantsOk.tallyAtHead {f : Frame} (h : GrantsOk s) : GrantsOk (s.tallyAtHead r f) := by
  have commits (n : Nat) (b : Bool) : GrantsOk (s.commit r n (tallyEntries f.payload) b) :=
    h.commit (prioritiesOk_tallyEntries f.payload)
  unfold State.tallyAtHead
  simp only
  split
  · exact h.goUnassigned.failClaim
  · exact h.placeDissolve.goUnassigned.failClaim
  · split
    · exact commits _ _
    · exact h
  · split
    · exact commits _ _
    · exact h

theorem GrantsOk.receiveTally {f : Frame} (h : GrantsOk s) : GrantsOk (s.receiveTally e f) := by
  unfold State.receiveTally
  split
  · exact h
  · simp only
    split
    · exact h
    · split
      · split
        · exact h.tallyAtHead
        · exact h
      · split
        · exact h.tallyAtNode
        · exact h

/-- An accepted COMMIT brings the classes of its entries (R43, R122). -/
theorem GrantsOk.acceptCommit {f : Frame} (h : GrantsOk s) : GrantsOk (s.acceptCommit r f) := by
  have newConsist {u : State} (k : GrantsOk u) : GrantsOk u.doorNewConsist := k.elsewhere (by simp [grantless])
  unfold State.acceptCommit
  refine (newConsist (h.becomes fun x hx => ?_).roleChanged).raise.placed
  cases hx
  exact prioritiesOk_commitEntries f.payload

theorem GrantsOk.topologyAlert (h : GrantsOk s) : GrantsOk (s.topologyAlert e) := h.elsewhere (by simp [grantless])

theorem GrantsOk.leaveWithAlert {c : LeaveCause} (h : GrantsOk s) : GrantsOk (s.leaveWithAlert e c) :=
  h.goUnassigned.topologyAlert

theorem GrantsOk.rejectCommit {f : Frame} (h : GrantsOk s) : GrantsOk (s.rejectCommit e f) := by
  unfold State.rejectCommit
  simp only
  split
  · exact h.placed
  · split
    · exact h.placed
    · exact h.placed.leaveWithAlert
    · exact h.placed.leaveWithAlert

theorem GrantsOk.receiveCommit {f : Frame} (h : GrantsOk s) : GrantsOk (s.receiveCommit e f) := by
  unfold State.receiveCommit
  simp only
  split
  · unfold State.receiveDissolve
    split
    · exact h.goUnassigned.placed
    · exact h.placed
  · split
    · split
      · exact h.acceptCommit
      · exact h.rejectCommit
    · exact h.rejectCommit

/-! ## Reports of the Ends -/

theorem GrantsOk.reportCounted {c : EndChange} (h : GrantsOk s) : GrantsOk (s.reportCounted r c) := by
  have tail : GrantsOk (s.tailChange r c) := by
    unfold State.tailChange
    split
    · split
      · exact h.modInaug.setRecord
      · split
        · exact h.tailTally
        · exact h
    · split
      · exact h.tailTally
      · exact h
    · exact h
  unfold State.reportCounted
  split
  · split
    · exact h.goUnassigned
    · exact h
  · simp only
    split
    · exact tail.topologyAlert
    · exact tail

theorem GrantsOk.reportClaiming {c : EndChange} (h : GrantsOk s) : GrantsOk (s.reportClaiming r c) := by
  unfold State.reportClaiming
  split
  · split
    · exact h.placeDissolve.goUnassigned.failClaim
    · exact h
  · split
    · split
      · exact h.modInaug.setRecord
      · split
        · exact h.commit nofun
        · exact h
    · split
      · exact h.beginAttempt
      · exact h

theorem GrantsOk.reportHeading {c : EndChange} (h : GrantsOk s) : GrantsOk (s.reportHeading a c) := by
  unfold State.reportHeading
  split
  · split
    · exact h.placeDissolve.goUnassigned.failClaim
    · exact h
  · split
    · exact h.reinaugurate
    · exact h

theorem GrantsOk.reportMember {c : EndChange} (h : GrantsOk s) : GrantsOk (s.reportMember a c) := by
  unfold State.reportMember
  split
  · split
    · exact h.goUnassigned
    · exact h
  · split
    · exact h.topologyAlert
    · exact h

theorem GrantsOk.reportEnd {old : LinkState} (h : GrantsOk s) : GrantsOk (s.reportEnd e old) := by
  have discards : GrantsOk (s.discardOffer e) := h.elsewhere (by simp [grantless])
  unfold State.reportEnd State.reportInauguration
  simp only
  split
  · exact h
  · split
    · exact discards
    · split
      · exact discards.reportClaiming
      · exact discards.reportCounted
    · split
      · exact discards.reportHeading
      · exact discards.reportMember

/-! ## The cycle -/

/-- A change of the Line Silence leaves the consist's entries (R61). -/
theorem GrantsOk.setLineSilence {v : Nat} (h : GrantsOk s) (consist : a.PrioritiesOk) : GrantsOk (s.setLineSilence a v) :=
  h.becomes fun b hb => by cases hb; exact consist

theorem GrantsOk.restartSilence (h : GrantsOk s) : GrantsOk (s.restartSilence a) := by
  unfold State.restartSilence
  split
  · exact h
  · exact h.modInaug

theorem GrantsOk.headFlags {b : Bool} (h : GrantsOk s) : GrantsOk (s.headFlags b) := h.elsewhere (by simp [grantless])

theorem GrantsOk.judgeOrder {f : Frame} (h : GrantsOk s) : GrantsOk (s.judgeOrder a f) := h.elsewhere (by simp [grantless])

theorem GrantsOk.settle {failed : Bool} {records : List CycleRecord} (h : GrantsOk s) : GrantsOk (s.settle a failed records) := by
  unfold State.settle
  exact h.modCycle.placed.useSettle

theorem GrantsOk.doorReturn {records : List CycleRecord} (h : GrantsOk s) : GrantsOk (s.doorReturn a records) :=
  h.elsewhere (by simp [grantless])

theorem GrantsOk.returnFails {c : CycleFailure} {records : List CycleRecord} (h : GrantsOk s) :
    GrantsOk (s.returnFails a c records) := by
  have counts : GrantsOk (s.countFailure c) := h.modCycle.raise
  have unproved : GrantsOk (s.countFailure c).unprove := counts.elsewhere (by simp [grantless])
  unfold State.returnFails
  simp only
  split
  · exact counts.reinaugurate
  · exact unproved.settle

theorem GrantsOk.evaluateReturn {short : Bool} {records : List CycleRecord} (h : GrantsOk s) (consist : a.PrioritiesOk) :
    GrantsOk (s.evaluateReturn a short records) := by
  unfold State.evaluateReturn
  split
  · exact h.returnFails
  · exact (h.modCycle.doorReturn.grantReturn consist).settle

theorem GrantsOk.receiveReturn {p : List Byte} (h : GrantsOk s) : GrantsOk (s.receiveReturn e p) := by
  unfold State.receiveReturn
  split
  · next ha =>
    split
    · exact h.modCycle.evaluateReturn (h.priorities ha)
    · exact h
  · exact h

theorem GrantsOk.callOriginate (h : GrantsOk s) : GrantsOk s.callOriginate := by
  unfold State.callOriginate
  split
  · next a ha =>
    have appends {c : Cycle → Cycle} {b : Bool} {q : CycleRecord} : GrantsOk (((s.modCycle c).headFlags b).appended q) :=
      h.elsewhere (by simp [grantless])
    have leaves {u : State} (k : GrantsOk u) : GrantsOk (u.callLeaves a) := k.elsewhere (by simp [grantless])
    unfold State.originate
    simp only
    split
    · split
      · exact (leaves appends).evaluateReturn (h.priorities ha)
      · exact appends.placed.modCycle
    · exact h
  · exact h

theorem GrantsOk.receiveCall {p : List Byte} (h : GrantsOk s) : GrantsOk (s.receiveCall e p) := by
  have unplaced : GrantsOk (s.unplacedCall e p) := h.elsewhere (by simp [grantless])
  unfold State.receiveCall
  split
  · next a ha =>
    have used : GrantsOk (s.useCall a (CallHeader.ofPayload p)) :=
      (h.setLineSilence (h.priorities ha)).restartSilence.headFlags
    split
    · unfold State.placedCall
      simp only
      split
      · exact used.elsewhere (by simp [grantless])
      · repeat' split
        all_goals exact used.elsewhere (by simp [grantless])
    · exact unplaced
  · exact unplaced

theorem GrantsOk.receiveSettle {f : Frame} (h : GrantsOk s) : GrantsOk (s.receiveSettle e f) := by
  unfold State.receiveSettle State.memberSettles
  simp only
  split
  · split
    · split
      · exact h.restartSilence.useSettle.placed
      · exact h.restartSilence.placed
    · exact h.placed
  · exact h.placed

theorem GrantsOk.receiveOrder {f : Frame} (h : GrantsOk s) : GrantsOk (s.receiveOrder e f) := by
  unfold State.receiveOrder
  split
  · split
    · exact h.restartSilence.judgeOrder
    · exact h.placed
  · exact h.placed

/-- A frame handed on (R9). -/
theorem GrantsOk.handOn {f : Frame} (h : GrantsOk s) : GrantsOk (s.handOn e f) := by
  unfold State.handOn
  split
  · exact h
  · exact h.receiveCount
  · exact h.receiveTally
  · exact h.receiveCommit
  · exact h.receiveCall
  · split
    · exact h.receiveReturn
    · exact h.elsewhere (by simp [grantless])
  · exact h.receiveSettle
  · exact h.receiveOrder
  · split
    · unfold State.headWake
      simp only
      split
      · exact h.reinaugurate
      · split
        · exact h.elsewhere (by simp [grantless])
        · exact h
    · exact h.elsewhere (by simp [grantless])
  · exact h.elsewhere (by simp [grantless])
  · exact h.elsewhere (by simp [grantless])

theorem GrantsOk.setLineTiming {v : LineTiming} (h : GrantsOk s) : GrantsOk (s.setLineTiming v) := by
  have timed : GrantsOk (s.timed v) := by
    unfold State.timed
    split
    · next a ha =>
      split
      · exact h.modCycle.setLineSilence (h.priorities ha)
      · exact h.modCycle
    · exact h.modCycle
  rw [setLineTiming_eq]
  split
  · exact timed.elsewhere (by simp [grantless])
  · exact timed

/-! ## Timers of the roles -/

theorem GrantsOk.hopExpired (h : GrantsOk s) : GrantsOk s.hopExpired := by
  have stops : GrantsOk (s.modInaug fun i => { i with hopTimer := none }) := h.modInaug
  unfold State.hopExpired
  simp only
  split
  · split
    · exact stops.commit nofun
    · exact stops.tailTally
  · exact stops

theorem GrantsOk.inaugurationExpired (h : GrantsOk s) : GrantsOk s.inaugurationExpired := by
  have stops : GrantsOk (s.modInaug fun i => { i with inaugurationTimer := none }) := h.modInaug
  unfold State.inaugurationExpired
  simp only
  split
  · split
    · exact stops.beginAttempt
    · exact stops.goUnassigned.failClaim
  · exact stops

theorem GrantsOk.silenceExpired (h : GrantsOk s) : GrantsOk s.silenceExpired := by
  have stops : GrantsOk (s.modInaug fun i => { i with silence := none }) := h.modInaug
  unfold State.silenceExpired
  simp only
  split
  · exact stops.leaveWithAlert
  · exact stops

theorem GrantsOk.cycleTimedOut (h : GrantsOk s) : GrantsOk s.cycleTimedOut := by
  have stops : GrantsOk (s.modCycle fun c => { c with cycleTimeout := none }) := h.modCycle
  have fails {u : State} (k : GrantsOk u) : GrantsOk (u.unprove.countFailure .timeout) := k.elsewhere (by simp [grantless])
  unfold State.cycleTimedOut
  simp only
  split
  · split
    · exact (fails stops).reinaugurate
    · exact (fails stops).modCycle
  · exact stops

end Sys2Proof.Machine

/-! PROOF. Every step keeps the grants of an engine in use within the Supply Budget (O8). -/

namespace Sys2Proof.Machine

variable {s t : State} {e : EndId} {p : PortId}

/-! ## The line -/

theorem GrantsOk.modEnd {g : LineEnd → LineEnd} (h : GrantsOk s) : GrantsOk (s.modEnd e g) :=
  h.elsewhere (by simp [grantless])

theorem GrantsOk.modPort {g : Port → Port} (h : GrantsOk s) : GrantsOk (s.modPort p g) :=
  h.elsewhere (forget_modPort _ _ _ _ (by simp [grantless]))

theorem GrantsOk.reach {d : Nat} (h : GrantsOk s) : GrantsOk (s.reach d) := h.elsewhere (by simp [grantless])

theorem GrantsOk.live {f : State → State} (h : GrantsOk s) (hf : GrantsOk (f s)) : GrantsOk (s.live f) := by
  unfold State.live
  split
  · exact h
  · exact hf

theorem GrantsOk.whileAwake {f : State → State} (h : GrantsOk s) (hf : GrantsOk (f s)) : GrantsOk (s.awake f) := by
  unfold State.awake
  split
  · exact h
  · exact hf

theorem GrantsOk.expire {x : Timer} {f : State → State} (h : GrantsOk s) (hf : ∀ u : State, GrantsOk u → GrantsOk (f u)) :
    GrantsOk (s.expire x f) := by
  unfold State.expire
  split
  · exact h
  · exact hf _ h.reach

/-- A wake changes the power state alone (R184). -/
theorem GrantsOk.wakeBy {c : WakeCause} (h : GrantsOk s) : GrantsOk (s.wakeBy c) := by
  unfold State.wakeBy
  split
  · exact h.repower
  · exact h

theorem GrantsOk.setReceiver {q : Pair} {x : Receiver} (h : GrantsOk s) : GrantsOk (s.setReceiver e q x) :=
  h.elsewhere (by simp [grantless])

theorem GrantsOk.badCopy {q : Pair} (h : GrantsOk s) : GrantsOk (s.badCopy e q) := h.elsewhere (by simp [grantless])

theorem GrantsOk.startDebounce (h : GrantsOk s) : GrantsOk (s.startDebounce e) := h.elsewhere (by simp [grantless])

theorem GrantsOk.rawChange {level : Sense} (h : GrantsOk s) : GrantsOk (s.rawChange e level) := by
  have raw : GrantsOk (s.modEnd e fun l => { l with rawSense := level }) := h.modEnd
  unfold State.rawChange
  split
  · exact h
  · exact raw.live raw.startDebounce.wakeBy

theorem GrantsOk.debounceExpiry (h : GrantsOk s) : GrantsOk (s.debounceExpiry e) := by
  refine h.expire fun u hu => ?_
  have senses {g : LineEnd → LineEnd} : GrantsOk ((u.modEnd e g).raise (.couplingChanged e)) := hu.modEnd.raise
  simp only
  split
  · exact senses
  · exact GrantsOk.reportEnd (senses.elsewhere (forget_linkBySense _ _ _ (by simp [grantless]) (by simp [grantless])))

theorem GrantsOk.copyStart {q : Pair} (h : GrantsOk s) : GrantsOk (s.copyStart e q) := by
  unfold State.copyStart
  split
  · exact h.setReceiver.wakeBy
  · simp only
    split
    · exact h.badCopy.setReceiver
    · exact h.setReceiver

theorem GrantsOk.copyReceived {q : Pair} {bytes : List Byte} (h : GrantsOk s) : GrantsOk (s.copyReceived e q bytes) := by
  have hears {u : State} (k : GrantsOk u) : GrantsOk (u.hearCopy e) := k.elsewhere (by simp [grantless])
  have idle : GrantsOk (s.setReceiver e q .idle) := h.setReceiver
  unfold State.copyReceived
  simp only
  split
  · exact idle
  · unfold State.judgeCopy
    split
    · exact idle.badCopy
    · split
      · exact idle.modEnd
      · unfold State.filterCopy
        simp only
        split
        · exact GrantsOk.reportEnd ((hears idle).elsewhere (by simp [grantless]))
        · exact (GrantsOk.reportEnd ((hears idle).elsewhere (by simp [grantless]))).handOn

theorem GrantsOk.linkIdleExpiry (h : GrantsOk s) : GrantsOk (s.linkIdleExpiry e) := by
  refine h.expire fun u hu => ?_
  have downs {old : LinkState} : GrantsOk ((u.enterDown e).reportEnd e old) :=
    GrantsOk.reportEnd (hu.elsewhere (by simp [grantless]))
  simp only
  split
  · exact downs
  · exact downs
  · exact downs
  · exact hu.modEnd
  · exact hu.modEnd

theorem GrantsOk.arbiterTake (h : GrantsOk s) : GrantsOk (s.arbiterTake e) := h.elsewhere (by simp [grantless])

theorem GrantsOk.endReset (h : GrantsOk s) : GrantsOk (s.endReset e) := by
  rw [endReset_restarted]
  exact GrantsOk.reportEnd (h.elsewhere (forget_mono (forget_restarted s e) (by simp [restartBlocks, grantless])))

/-! ## Resets, loading and the power state -/

/-- The Grant Engine as a reset leaves it, at a node that is no member (R135). -/
theorem grantsOk_reset (grants : s.grants = .reset) (inaug : s.inaug = .reset) (own : s.power.record.priority ≤ 3) :
    GrantsOk s := by
  unfold GrantsOk
  rw [grants, active_of_inaug (s := .reset) inaug]
  exact ⟨nofun, nofun, own, nofun⟩

theorem GrantsOk.identityToStages (h : GrantsOk s) : GrantsOk s.identityToStages := h.elsewhere (by simp [grantless])

theorem GrantsOk.nodeReset (h : GrantsOk s) : GrantsOk s.nodeReset := by
  have reset : GrantsOk s.resetBlocks.stageNodeReset :=
    (grantsOk_reset (s := s.resetBlocks) rfl rfl h.own).elsewhere (by simp [grantless])
  unfold State.nodeReset
  simp only
  split
  · exact reset.modInaug.raise
  · exact reset

/-- LOADING ends with a record of one of the four classes (R179, R188). -/
theorem GrantsOk.finishLoading {o : LoadOutcome} {x : IdentityRecord} {b : Bool} (h : GrantsOk s) (own : x.priority ≤ 3) :
    GrantsOk (s.finishLoading o x b) :=
  (h.modPower own).raise.identityToStages

theorem priority_ofBytes (bs : List Byte) : (IdentityRecord.ofBytes bs).priority ≤ 3 :=
  Nat.le_of_lt_succ (Nat.mod_lt _ (by decide))

theorem GrantsOk.loadingFails {o : LoadOutcome} (h : GrantsOk s) : GrantsOk (s.loadingFails o) :=
  h.finishLoading (Nat.zero_le 3)

theorem GrantsOk.loadComplete {read : Option (List Byte)} (h : GrantsOk s) : GrantsOk (s.loadComplete read) := by
  unfold State.loadComplete
  split
  · split
    · exact h.loadingFails
    · split
      · exact h.finishLoading (priority_ofBytes _)
      · exact h.loadingFails
  · exact h

theorem GrantsOk.resetEnd {role1 role0 idsrc : Bool} (h : GrantsOk s) : GrantsOk (s.resetEnd role1 role0 idsrc) := by
  unfold State.resetEnd
  split
  · have begins {x : Timer} : GrantsOk (s.modPower fun p =>
        { p with held := false, state := .loading, sourceFitted := idsrc, loadOutcome := none, readTimer := x }) :=
      h.repower
    simp only
    split
    · exact begins.modPort.modPort.startDebounce.startDebounce
    · exact begins.modPort.modPort.startDebounce.startDebounce.loadingFails
  · exact h

theorem GrantsOk.wakeSettled (h : GrantsOk s) : GrantsOk s.wakeSettled := by
  refine h.expire fun u hu => ?_
  have active : GrantsOk (u.modPower fun p => { p with state := .active, wakeSettle := none }) := hu.repower
  exact active.elsewhere (by simp [grantless])

theorem GrantsOk.enterStabled (h : GrantsOk s) : GrantsOk s.enterStabled := by
  have ends : GrantsOk ((((s.endStable .end1).endStable .end2).stageStable).releaseLatches) :=
    h.elsewhere (by simp [grantless])
  exact ends.repower

theorem GrantsOk.lockIdentity (h : GrantsOk s) : GrantsOk s.lockIdentity :=
  (h.repower (g := fun p => { p with locked := true })).elsewhere (by simp [State.lockIdentity, grantless])

theorem GrantsOk.wakeCommand (h : GrantsOk s) : GrantsOk (s.live fun s => s.wakeWritten p) := by
  refine h.live ?_
  unfold State.wakeWritten
  split
  · simp only
    split
    · exact (GrantsOk.wakeBy h.modPort).modPort
    · exact GrantsOk.modPort h.modPort
  · exact h

/-! ## Written bytes -/

/-- A written Priority Class is one of the four (R181, R188). -/
theorem setField_priority {x : IdentityRecord} (own : x.priority ≤ 3) (offset n : Nat) :
    (x.setField offset n).priority ≤ 3 := by
  have field : (x.setField offset n).priority
      = if offset = 4 then x.priority else if offset = 5 then n / 8 % 4 else x.priority := by
    simp only [IdentityRecord.setField, apply_ite IdentityRecord.priority, ite_self]
  rw [field]
  split
  · exact own
  · split
    · exact Nat.le_of_lt_succ (Nat.mod_lt _ (by decide))
    · exact own

theorem GrantsOk.fieldTaken {offset n : Nat} (h : GrantsOk s) : GrantsOk (s.fieldTaken offset n) := by
  have taken : GrantsOk (s.modPower fun x => { x with record := x.record.setField offset n }) :=
    h.modPower (setField_priority h.own offset n)
  unfold State.fieldTaken
  simp only
  split
  · split
    · exact taken.goUnassigned.identityToStages
    · exact taken.identityToStages
  · split
    · exact taken.goUnassigned
    · exact taken

theorem GrantsOk.judgeField {offset : Nat} {v : Byte} (h : GrantsOk s) : GrantsOk (s.judgeField p offset v) := by
  have judged {o : IdentityWrite} : GrantsOk (({ s with freeCount := s.freeCount + 32 } : State).modPower fun x =>
      { x with lastIdentityWrite := o }) :=
    GrantsOk.repower (h.elsewhere (by simp [grantless, State.forget]))
  unfold State.judgeField
  simp only
  split
  · exact judged.fieldTaken
  · exact judged

/-! ## The gates of commands -/

theorem GrantsOk.write {a : Nat} {f : State → State} (h : GrantsOk s)
    (hf : GrantsOk (s.wrote p a) → GrantsOk (f (s.wrote p a))) :
    GrantsOk (s.write p a f) := by
  refine h.live ?_
  split
  · simp only
    split
    · exact h.modPort
    · exact hf h.modPort
  · exact h

theorem GrantsOk.writeArea {code offset : Nat} {f : State → State} (h : GrantsOk s)
    (hf : ∀ u : State, GrantsOk u → GrantsOk (f u)) : GrantsOk (s.writeArea p code offset f) := by
  unfold State.writeArea
  split
  · exact h.write (hf _)
  · exact h

/-- A command acts on the node whose port its opcode reached (R171). -/
theorem GrantsOk.command {need : Need} {check : State → Option Reason} {act : State → State} {data : State → Nat}
    (h : GrantsOk s) (ha : GrantsOk (s.wrote p opcodeAddress) → GrantsOk (act (s.wrote p opcodeAddress))) :
    GrantsOk (s.command p need check act data) := by
  refine h.write fun written => ?_
  split
  · exact written.modPort
  · exact (ha written).modPort

theorem GrantsOk.registerWrite {address : Nat} {v : Byte} (h : GrantsOk s) : GrantsOk (s.registerWrite p address v) := by
  refine h.write fun written => ?_
  split
  · unfold State.writeFixed
    repeat' split
    all_goals first | exact written.modPort | exact written
  · unfold State.writeInArea State.writeIdentity
    simp only
    split
    · split
      · exact written.modEnd
      · exact written
    · split
      · exact written.elsewhere (by simp [grantless])
      · split
        · split
          · exact written.judgeField
          · split
            · exact written.modPort
            · exact written
        · exact written

/-! ## The other engines -/

theorem GrantsOk.setDemand {v : Nat} (h : GrantsOk s) : GrantsOk (s.setDemand v) := by
  unfold State.setDemand
  split
  · exact h
  · exact h.elsewhere (by simp [grantless])

theorem GrantsOk.stageTimerExpiry {n : Nat} (h : GrantsOk s) : GrantsOk (s.stageTimerExpiry n) := by
  unfold State.stageTimerExpiry
  split
  · exact h.expire fun _ hu => hu.elsewhere (by simp [grantless])
  · exact h

theorem GrantsOk.serverStep (h : GrantsOk s) : GrantsOk (if s.power.state = .active then s.serverStep else s) := by
  split
  · exact h.elsewhere (by simp [grantless])
  · exact h

theorem GrantsOk.deadlineExpiry {n : Nat} (h : GrantsOk s) : GrantsOk (s.deadlineExpiry n) := by
  unfold State.deadlineExpiry
  split
  · exact h.expire fun _ hu => hu.elsewhere (by simp [grantless])
  · exact h

/-! ## Transactions and reads -/

theorem GrantsOk.transactionStart {c : Option Byte} (h : GrantsOk s) : GrantsOk (s.transactionStart p c) := by
  unfold State.transactionStart
  split
  · exact h
  · exact h.modPort

theorem GrantsOk.areaCapture (h : GrantsOk s) : GrantsOk (s.areaCapture p) := by
  unfold State.areaCapture
  split
  · simp only
    split
    · exact GrantsOk.modPort h.modPort
    · exact h
  · exact h

theorem GrantsOk.stageRead {stage plain offset : Nat} {f : State → State} (h : GrantsOk s) (hf : GrantsOk (f s)) :
    GrantsOk (s.stageRead p stage plain offset f) := by
  refine h.live ?_
  split
  · exact hf
  · exact h

theorem GrantsOk.stageLowRead {n : Nat} (h : GrantsOk s) : GrantsOk (s.stageLowRead p n) := by
  unfold State.stageLowRead
  simp only
  split
  · exact h.modPort
  · exact GrantsOk.modPort h.modPort

theorem GrantsOk.stageHighRead {n : Nat} (h : GrantsOk s) : GrantsOk (s.stageHighRead p n) := by
  unfold State.stageHighRead
  simp only
  split
  · exact h.modPort
  · split
    · split
      · exact GrantsOk.modPort h.modPort
      · exact h.modPort
    · exact h.modPort

/-! ## Every command -/

theorem valid_wrote (s : State) (p : PortId) (a : Nat) : (s.wrote p a).valid = s.valid := by cases p <;> rfl

/-- An engine in use stands at a head, and a head is a member (R122, R123). -/
theorem RolesOk.member (h : RolesOk s) (used : s.grants.inUse = true) : s.valid = true := by
  obtain ⟨⟨headValid, -, -⟩, ⟨-, -, -, -, -, -, inUse, -, -⟩, -, -⟩ := h
  exact headValid (inUse ▸ used)

/-- The port commands, those of the table of 10.3. -/
theorem portCommand_grantsOk (roles : RolesOk s) (h : GrantsOk s) (c : Instr) (hc : (commandNeed c).isSome = true) :
    Answers GrantsOk (exec c s) := by
  cases c
  case claimCab p => exact h.command fun u => u.claimCab
  case releaseCab p => exact h.command fun u => u.releaseCab
  case setStandstill p => exact h.command fun u => u.elsewhere (by simp [grantless])
  case issueOrder p => exact h.command fun u => u.elsewhere (by simp [grantless])
  case writeDoorStatus p => exact h.command fun u => u.elsewhere (by simp [grantless])
  case localClose p => exact h.command fun u => u.elsewhere (by simp [grantless])
  case setLineTiming p => exact h.command fun u => u.setLineTiming
  case setDemand p => exact h.command fun u => u.setDemand
  case setSupplyBudget p =>
    exact h.command fun u => u.setBudget fun used => (valid_wrote s p _).trans (roles.member (by cases p <;> exact used))
  case selectPosition p => exact h.command fun u => u.modPort
  case take p => exact h.command fun u => u.elsewhere (by simp [grantless])
  case selectBuffer p => exact h.command fun u => u.modPort
  case post p => exact h.command fun u => u.elsewhere (by simp [grantless])
  case fetch p => exact h.command fun u => u.elsewhere (by simp [grantless])
  case returnBuffer p => exact h.command fun u => u.elsewhere (by simp [grantless])
  case setQuotas p => exact h.command fun u => u.elsewhere (by simp [grantless])
  case nodeReset p => exact h.command fun u => u.nodeReset
  case endReset p =>
    refine h.command fun u => ?_
    unfold State.endResetNamed
    split
    · exact u.endReset
    · exact u
  case stable p => exact h.command fun u => u.enterStabled
  case lockIdentity p => exact h.command fun u => u.lockIdentity
  all_goals cases hc

/-- Every command keeps the invariant of the grants. -/
theorem exec_grantsOk (roles : RolesOk s) (h : GrantsOk s) (c : Instr) : Answers GrantsOk (exec c s) := by
  cases c
  case powerOnReset => exact grantsOk_reset (s := s.hardReset) rfl rfl (Nat.zero_le 3)
  case resetPin => exact grantsOk_reset (s := s.hardReset) rfl rfl (Nat.zero_le 3)
  case resetEnd => exact h.resetEnd
  case loadComplete => exact h.live h.loadComplete
  case identityReadTimeout => exact h.live (h.expire fun _ hu => hu.loadingFails)
  case rawSenseChange => exact h.rawChange
  case senseDebounceExpiry => exact h.live h.debounceExpiry
  case copyStart => exact h.live h.copyStart
  case lineIdleAbort e q => exact h.live (h.elsewhere (forget_idleAbort _ _ _ _ (by simp [grantless])))
  case copyReceived => exact h.live h.copyReceived
  case twinWindowExpiry e => exact h.live (h.expire fun _ hu => hu.elsewhere (by simp [grantless]))
  case linkIdleExpiry => exact h.live h.linkIdleExpiry
  case keepaliveExpiry => exact h.whileAwake (h.expire fun _ hu => hu.modEnd)
  case arbiterTake => exact h.whileAwake h.arbiterTake
  case transmitComplete e => exact h.whileAwake (h.elsewhere (forget_transmitComplete _ _ _ (by simp [grantless])))
  case callOriginate => exact h.whileAwake h.callOriginate
  case hopTimerExpiry => exact h.live (h.expire fun _ hu => hu.hopExpired)
  case inaugurationTimerExpiry => exact h.live (h.expire fun _ hu => hu.inaugurationExpired)
  case commitWaitExpiry => exact h.live (h.expire fun _ hu => hu.modInaug.goUnassigned)
  case silenceExpiry => exact h.live (h.expire fun _ hu => hu.silenceExpired)
  case cycleTimeoutExpiry => exact h.live (h.expire fun _ hu => hu.cycleTimedOut)
  case periodTimerExpiry => exact h.live (h.expire fun _ hu => hu.modCycle)
  case refreshTimerExpiry => exact h.live (h.expire fun _ hu => hu.modCycle)
  case closeTimerExpiry => exact h.live (h.expire fun _ hu => hu.elsewhere (by simp [grantless]))
  case attendanceTimerExpiry => exact h.live (h.expire fun _ hu => hu.elsewhere (by simp [grantless]))
  case proofLifetimeExpiry => exact h.live (h.expire fun _ hu => hu.elsewhere (by simp [grantless]))
  case stageTimerExpiry stage => exact h.live h.stageTimerExpiry
  case transmitServerStep => exact h.live h.serverStep
  case storingEnd => exact h.live (h.elsewhere (by simp [grantless]))
  case deadlineExpiry => exact h.live h.deadlineExpiry
  case wakeSettleExpiry => exact h.live h.wakeSettled
  case transactionStart => exact h.live h.transactionStart
  case transactionEnd => exact h.live h.modPort
  case areaCapture => exact h.live h.areaCapture
  case stageTimerLowRead => exact h.stageRead h.stageLowRead
  case stageTimerHighRead => exact h.stageRead h.stageHighRead
  case flagClear => exact h.write fun u => u.modPort
  case enableWrite => exact h.write fun u => u.modPort
  case countClearWrite => exact h.writeArea fun _ hu => hu.modEnd
  case identityFieldWrite p offset v =>
    show GrantsOk (if identityFieldEnds.contains offset = true then _ else s)
    split
    · exact h.writeArea fun _ hu => hu.judgeField
    · exact h
  case registerWrite p address v =>
    show Answers GrantsOk (if address = opcodeAddress then writeOpcode p v.toNat s else .next (s.registerWrite p address v))
    split
    · exact writeOpcode_answers (portCommand_grantsOk roles h) p h.wakeCommand (h.write fun u => u.modPort) v.toNat
    · exact h.registerWrite
  case wakeCommand => exact h.wakeCommand
  all_goals exact portCommand_grantsOk roles h _ rfl

/-- Settles O8: the sum of the grants is 0 at a commit, a budget and a seeding RETURN shed, and raising stays within the Room. -/
theorem everyStepKeepsTheGrants : Obligations.EveryStepKeepsTheGrants := by
  intro s t roles h hs
  unfold step at hs
  split at hs
  · cases hs
    exact h
  · next c rest _ =>
    have answers := exec_grantsOk (s := { s with pending := rest }) roles h c
    rw [hs] at answers
    exact answers

end Sys2Proof.Machine

/-! SUPPORT. Shedding as the statement about the Grant Engine says it (R127). -/

namespace Sys2Proof.Machine

variable {s : State} {a : ActiveConsist} {entries : List RosterEntry} {records : List CycleRecord} {budget : Nat}
  {table after : List GrantEntry} {i : Nat} {g x y : GrantEntry} {z : RosterEntry} {r : CycleRecord}

/-! ## Shedding -/

/-- The rule of shedding at a position: a grant stays where the sum with it is within the budget, and else becomes the highest
of the position's levels, up to it, with which the sum is, or nothing (R127). -/
def ShedAsRuled (z : RosterEntry) (budget : Nat) (sumWith : Nat → Nat) (grant left : Nat) : Prop :=
  (sumWith grant ≤ budget → left = grant)
    ∧ (budget < sumWith grant → (left = 0 ∨ left ∈ z.levels ∧ sumWith left ≤ budget)
      ∧ ∀ l ∈ z.levels, left < l → l ≤ grant → budget < sumWith l)

/-- Shedding leaves a level where it found one, for 0 is a level. -/
theorem ShedAsRuled.mem_levels {sumWith : Nat → Nat} {grant left : Nat} (h : ShedAsRuled z budget sumWith grant left)
    (level : grant ∈ z.levels) : left ∈ z.levels := by
  obtain ⟨stays, sheds⟩ := h
  by_cases within : sumWith grant ≤ budget
  · exact stays within ▸ level
  · exact (sheds (not_le.1 within)).1.elim (fun zero => zero ▸ zero_mem_levels z) And.left

/-- Shedding lowers a grant, and as its rule says (R127). -/
theorem shedTable_asRuled (classes : ∀ g ∈ table, g.effectiveClass ≤ 3) (hx : table[i]? = some x) :
    ∃ n, (shedTable entries budget table)[i]? = some (x.regrant n) ∧ n ≤ x.grant ∧ ∀ z, entries[i]? = some z →
      ShedAsRuled z budget (sumShed table (shedTable entries budget table) i) x.grant n := by
  have swap := sumShed_add (after := shedTable entries budget table) hx x.grant
  have place := shedTable_place (entries := entries) (budget := budget) classes hx
  generalize sumShed table (shedTable entries budget table) i = sumWith at place swap
  generalize left : shedStep (levelsAt entries i) budget (sumWith x.grant) x.grant = n at place
  refine ⟨n, place, ?_⟩
  unfold shedStep at left
  by_cases within : sumWith x.grant ≤ budget
  · rw [if_pos within] at left
    exact ⟨left.ge, fun z _ => ⟨fun _ => left.symm, fun exceeds => absurd within (not_le.2 exceeds)⟩⟩
  · rw [if_neg within] at left
    obtain ⟨lower, fits⟩ := shedGrant_fits (levelsAt entries i) x.grant (sumWith x.grant - x.grant) budget
    rw [left] at lower fits
    have mine := swap 0
    have leaves := swap n
    refine ⟨lower, fun z hz => ⟨fun holds => absurd holds within, fun _ => ⟨?_, fun l level above held => ?_⟩⟩⟩
    · rw [levelsAt_of_entry hz] at fits
      exact fits.imp id fun ⟨level, sum⟩ => ⟨level, by omega⟩
    · rw [← levelsAt_of_entry hz] at level
      have exceeds := shedGrant_highest (budget := budget) level (left ▸ above) held
      have with_l := swap l
      omega

/-- The sum that shedding finds, with the order of classes and positions written out (R127). -/
theorem sumShed_eq (hx : table[i]? = some x) (after : List GrantEntry) (mine : Nat) :
    sumShed table after i mine = (table.mapIdx fun j g => if j = i then mine
      else if g.effectiveClass < x.effectiveClass ∨ g.effectiveClass = x.effectiveClass ∧ i < j then
        (after[j]?.map (·.grant)).getD 0
      else g.grant).sum := by
  refine congrArg List.sum (List.mapIdx_eq_mapIdx_iff.2 fun j inside => ?_)
  unfold ShedsBefore
  rw [classAt_of_entry hx, classAt_of_entry (List.getElem?_eq_getElem inside)]
  rfl

/-- A shed that lowers the sum is told (R127). -/
theorem shed_raises (exceeds : s.grants.budget < grantSum s.grants.table)
    (classes : ∀ g ∈ s.grants.table, g.effectiveClass ≤ 3) :
    s.shed a
      = (s.modGrants fun g => { g with table := shedTable a.entries s.grants.budget s.grants.table }).raise .shedPerformed := by
  refine if_neg fun same => ?_
  have sum : grantSum (shedTable a.entries s.grants.budget s.grants.table) = grantSum s.grants.table := congrArg List.sum same
  have within := grantSum_shedTable (entries := a.entries) (budget := s.grants.budget) classes
  omega

/-- A table within the budget is not shed, and nothing is told (R127). -/
theorem shed_within (within : grantSum s.grants.table ≤ s.grants.budget) : s.shed a = s := by
  have same : shedTable a.entries s.grants.budget s.grants.table = s.grants.table := shedTable_within within
  have keeps : s.shed a = s.modGrants fun g => { g with table := shedTable a.entries s.grants.budget s.grants.table } :=
    if_pos (congrArg (List.map GrantEntry.grant) same)
  rw [keeps, same]
  rfl

end Sys2Proof.Machine

/-! PROOF. Set Supply Budget at a port that admits it (R121, R127, R128). -/

namespace Sys2Proof.Machine

variable {s t : State} {p : PortId} {a : ActiveConsist} {v : Nat}

/-! ## A budget taken -/

/-- A budget is taken, and the table shed or not, before a CALL is asked for (R121). -/
theorem setBudget_cases (s : State) (v : Nat) :
    s.setBudget v = (s.budgeted v).requestCall ∨ ∃ a, s.setBudget v = ((s.budgeted v).shed a).requestCall := by
  by_cases keeps : s.active = none ∨ s.grants.inUse = false ∨ grantSum s.grants.table ≤ v
  · exact Or.inl (setBudget_keeps keeps)
  · rw [not_or, not_or, Bool.not_eq_false, not_le] at keeps
    obtain ⟨member, used, exceeds⟩ := keeps
    obtain ⟨a, ha⟩ := Option.ne_none_iff_exists'.1 member
    exact Or.inr ⟨a, setBudget_sheds ha used exceeds⟩

theorem setBudget_budget (s : State) (v : Nat) : (s.setBudget v).grants.budget = v := by
  rcases setBudget_cases s v with keeps | ⟨a, sheds⟩
  · rw [keeps, requestCall_grants]
    rfl
  · rw [sheds, requestCall_grants, grants_shed]
    rfl

/-- A head asks for a CALL (R81, R121). -/
theorem setBudget_cycle (s : State) (v : Nat) :
    (s.setBudget v).cycle = { s.cycle with callRequested := s.cycle.callRequested || s.heading } := by
  have asks {u : State} (still : u.forget [.grants, .portOf .portA, .portOf .portB]
      = s.forget [.grants, .portOf .portA, .portOf .portB]) :
      u.requestCall.cycle = { s.cycle with callRequested := s.cycle.callRequested || s.heading } := by
    rw [requestCall_cycle, sameBlock_of_forget still .cycle (by simp),
      heading_of_inaug (sameBlock_of_forget still .inauguration (by simp))]
  rcases setBudget_cases s v with keeps | ⟨a, sheds⟩
  · rw [keeps]
    exact asks (by simp [State.budgeted])
  · rw [sheds]
    exact asks (by simp [State.budgeted])

theorem requestCall_port (s : State) (q : PortId) : s.requestCall.port q = s.port q :=
  sameBlock_of_forget (L := [.cycle]) (by simp) (.portOf q) (by simp)

/-- A budget that sheds nothing raises no event. -/
theorem setBudget_keeps_events (keeps : s.active = none ∨ s.grants.inUse = false ∨ grantSum s.grants.table ≤ v) :
    NoEvent s (s.setBudget v) := by
  intro q
  rw [setBudget_keeps keeps, requestCall_port]
  exact congrArg Port.flags (port_modGrants _ _ q)

/-- A budget below the sum of the grants sheds the table and tells it (R127, R128). -/
theorem setBudget_shed_items (ha : s.active = some a) (used : s.grants.inUse = true) (exceeds : v < grantSum s.grants.table)
    (classes : ∀ g ∈ s.grants.table, g.effectiveClass ≤ 3) :
    (s.setBudget v).grants.table = shedTable a.entries v s.grants.table ∧ RaisedAt .shedPerformed (s.setBudget v) := by
  rw [setBudget_sheds ha used exceeds]
  refine ⟨by rw [requestCall_grants, grants_shed]; rfl, ?_⟩
  rw [shed_raises (s := s.budgeted v) exceeds classes]
  exact (Gentle.refl _).requestCall.raised

/-! ## The command -/

theorem answer_grants (s : State) (p : PortId) (x : CommandResult) (y : Option Reason) (n : Nat) :
    (s.answer p x y n).grants = s.grants := sameBlock_of_forget (L := [.portOf p]) (by simp) .grants (by simp)

theorem wrote_grants (s : State) (p : PortId) (n : Nat) : (s.wrote p n).grants = s.grants := by cases p <;> rfl

theorem budgetOperand_wrote (s : State) (p : PortId) (n : Nat) : budgetOperand (s.wrote p n) p = budgetOperand s p := by
  cases p <;> rfl

/-- Set Supply Budget takes 0 to 16,000 (R121). -/
theorem budgetCheck_eq (s : State) (p : PortId) :
    firstReason [(decide (budgetOperand (s.wrote p opcodeAddress) p > 16000), .range)]
      = if 16000 < budgetOperand s p then some .range else none := by
  rw [firstReason_cons, budgetOperand_wrote]
  rfl

theorem setSupplyBudget_refused (h : Admitted s p (some .comfort)) (beyond : 16000 < budgetOperand s p) :
    ∃ t, exec (.setSupplyBudget p) s = .next t ∧ RefusedAt p .range s t :=
  ⟨_, rfl, command_refused s p _ _ _ _ h .range ((budgetCheck_eq s p).trans (if_pos beyond))⟩

/-- The node after a Set Supply Budget that is taken. -/
def State.budgetTaken (s : State) (p : PortId) : State :=
  ((s.wrote p opcodeAddress).setBudget (budgetOperand s p)).answer p .done none 0

/-- What Set Supply Budget does at a port (R121, R171). -/
theorem setSupplyBudget_command (h : Admitted s p (some .comfort)) (fits : budgetOperand s p ≤ 16000) :
    exec (.setSupplyBudget p) s = .next (s.budgetTaken p) ∧ DoneAt p [.grants, .cycle] s (s.budgetTaken p) := by
  have check := (budgetCheck_eq s p).trans (if_neg (not_lt.2 fits))
  have done := command_done s p (some .comfort) (fun s => firstReason [(decide (budgetOperand s p > 16000), .range)])
    (fun s => s.setBudget (budgetOperand s p)) (fun _ => 0) h check
  rw [budgetOperand_wrote] at done
  refine ⟨congrArg Host.Outcome.next done, ?_⟩
  unfold State.budgetTaken
  rw [← done]
  exact engineDoneAt (act := fun s => s.setBudget (budgetOperand s p)) _ h check (skel_setBudget _ _) (by simp)

/-- A node with a budget taken: its grants, its cycle and its events are those of the Grant Engine's part (R121). -/
theorem budgetTaken_items (s : State) (p : PortId) :
    (s.budgetTaken p).grants = ((s.wrote p opcodeAddress).setBudget (budgetOperand s p)).grants
      ∧ (s.budgetTaken p).cycle = { s.cycle with callRequested := s.cycle.callRequested || s.heading } := by
  obtain ⟨-, cycleW, inaugW, -, -⟩ := wrote_rest s p opcodeAddress
  obtain ⟨-, cycleT, -⟩ := answer_rest ((s.wrote p opcodeAddress).setBudget (budgetOperand s p)) p .done none 0
  refine ⟨answer_grants _ _ _ _ _, cycleT.trans ?_⟩
  rw [setBudget_cycle, cycleW, heading_of_inaug inaugW]

/-- A budget that sheds nothing changes the budget alone (R121). -/
theorem budgetTaken_keeps (keeps : s.grants.inUse = false ∨ grantSum s.grants.table ≤ budgetOperand s p) :
    (s.budgetTaken p).grants = { s.grants with budget := budgetOperand s p } ∧ NoEvent s (s.budgetTaken p) := by
  have keepsW : (s.wrote p opcodeAddress).active = none ∨ (s.wrote p opcodeAddress).grants.inUse = false
      ∨ grantSum (s.wrote p opcodeAddress).grants.table ≤ budgetOperand s p := Or.inr (by rwa [wrote_grants])
  refine ⟨?_, fun q => ?_⟩
  · rw [(budgetTaken_items s p).1, setBudget_keeps keepsW, requestCall_grants, State.budgeted, modGrants_grants, wrote_grants]
  · exact (answer_flags _ p q _ _ _).trans ((setBudget_keeps_events keepsW q).trans (wrote_flags s p q opcodeAddress))

/-- A budget below the sum of the grants of an engine in use sheds its table (R121, R127, R128). -/
theorem budgetTaken_sheds (ha : s.active = some a) (used : s.grants.inUse = true)
    (exceeds : budgetOperand s p < grantSum s.grants.table) (classes : ∀ g ∈ s.grants.table, g.effectiveClass ≤ 3) :
    (s.budgetTaken p).grants.table = shedTable a.entries (budgetOperand s p) s.grants.table
      ∧ RaisedAt .shedPerformed (s.budgetTaken p) := by
  have grantsW := wrote_grants s p opcodeAddress
  have activeW : (s.wrote p opcodeAddress).active = some a := (active_of_inaug (wrote_rest s p opcodeAddress).2.2.1).trans ha
  obtain ⟨table, raised⟩ := setBudget_shed_items activeW (by rwa [grantsW]) (by rwa [grantsW]) (by rwa [grantsW])
  rw [grantsW] at table
  exact ⟨(congrArg GrantEngine.table (budgetTaken_items s p).1).trans table, raisedAt_answer raised⟩

end Sys2Proof.Machine

/-! SUPPORT. What a RETURN makes of an entry of the Grant Table (R124 to R130). -/

namespace Sys2Proof.Machine

variable {s : State} {a : ActiveConsist} {entries : List RosterEntry} {records : List CycleRecord} {budget : Nat}
  {table : List GrantEntry} {first : Bool} {i : Nat} {g x y e : GrantEntry} {z : RosterEntry} {r : CycleRecord}

/-! ## An entry of the table -/

/-- An entry as a RETURN lowers it, from its record and the levels of its position (R125, R126, R129). -/
theorem loweredEntry_eq (hz : entries[i]? = some z) (hr : records[i]? = some r) :
    loweredEntry entries records first i g =
      { grant := min (if first then levelWithin z.levels (min 254 r.applied.toNat) else g.grant)
          (levelWithin z.levels (min 254 r.demand.toNat))
        lastDemand := min 254 r.demand.toNat
        lastApplied := min 254 r.applied.toNat
        effectiveClass := if r.doorOpen then 3 else z.priority
        seeded := first || g.seeded
        withheld := g.withheld } := by
  have update : updateEntry entries records i g =
      { g with
        lastDemand := min 254 r.demand.toNat, lastApplied := min 254 r.applied.toNat
        effectiveClass := if r.doorOpen then 3 else z.priority } := by
    unfold updateEntry priorityAt
    rw [hr, hz]
  unfold loweredEntry
  rw [update]
  cases first <;> simp [lowerEntry, seedEntry, demandLevel, levelsAt_of_entry hz]

/-- The lesser of two levels is a level. -/
theorem min_mem_levels {m n : Nat} (hm : m ∈ z.levels) (hn : n ∈ z.levels) : min m n ∈ z.levels := by
  rcases min_choice m n with h | h <;> rw [h] <;> assumption

/-- A RETURN that seeds nothing raises the table as it was lowered, and one that seeds sheds it (R126, R129). -/
theorem tableToRaise_of_seeded (seeded : unseeded table = false) :
    tableToRaise entries records budget table = mapTable (loweredEntry entries records false) table := by
  unfold tableToRaise
  simp [seeded]

theorem tableToRaise_of_unseeded (fresh : unseeded table = true) :
    tableToRaise entries records budget table
      = shedTable entries budget (mapTable (loweredEntry entries records true) table) := by
  unfold tableToRaise
  simp [fresh]

/-- An entry before it is raised: lowered, and shed where the RETURN seeds (R126, R129). -/
theorem tableToRaise_entry (consist : ∀ r ∈ entries, r.priority ≤ 3) (classes : ∀ g ∈ table, g.effectiveClass ≤ 3)
    (hg : table[i]? = some g) (hz : entries[i]? = some z) :
    ∃ n, (tableToRaise entries records budget table)[i]?
        = some ((loweredEntry entries records (unseeded table) i g).regrant n)
      ∧ n ≤ (loweredEntry entries records (unseeded table) i g).grant
      ∧ ((loweredEntry entries records (unseeded table) i g).grant ∈ z.levels → n ∈ z.levels)
      ∧ (unseeded table = false → n = (loweredEntry entries records (unseeded table) i g).grant) := by
  cases first : unseeded table with
  | false =>
    rw [tableToRaise_of_seeded first]
    exact ⟨_, mapTable_entry _ hg, le_rfl, id, fun _ => rfl⟩
  | true =>
    rw [tableToRaise_of_unseeded first]
    have lowered := mapTable_entry (loweredEntry entries records true) hg
    obtain ⟨n, place, lower, ruled⟩ := shedTable_asRuled (entries := entries) (budget := budget)
      (loweredTable_classes consist classes records true) lowered
    exact ⟨n, place, lower, (ruled z hz).mem_levels, nofun⟩

/-- An entry as a RETURN raises it from a Room, with its Withheld flag (R129, R130). -/
def raisedEntry (entries : List RosterEntry) (i : Nat) (room : Int) (e : GrantEntry) : GrantEntry :=
  withholdEntry entries i (e.regrant (raiseTo entries i room e))

/-- An entry after a RETURN is raised from a Room that has covered the raise and what was raised after it (R129). -/
theorem grantReturn_entry (consist : ∀ r ∈ a.entries, r.priority ≤ 3) (classes : ∀ g ∈ s.grants.table, g.effectiveClass ≤ 3)
    (he : (tableToRaise a.entries records s.grants.budget s.grants.table)[i]? = some e)
    (hy : (s.grantReturn a records).grants.table[i]? = some y) :
    ∃ room : Int, y = raisedEntry a.entries i room e
      ∧ (s.grantReturn a records).grants.room ≤ room - (e.cost y.grant : Nat) := by
  have class_le := tableToRaise_classes consist classes records e (List.mem_of_getElem? he)
  obtain ⟨room, raised, falls⟩ := raiseTable_place a.entries s.grants.budget he class_le
  rw [grantReturn_grants] at hy ⊢
  rw [mapTable_entry _ raised] at hy
  cases hy
  exact ⟨room, rfl, falls⟩

theorem raisedEntry_withheld (hz : entries[i]? = some z) (room : Int) (e : GrantEntry) :
    (raisedEntry entries i room e).withheld
      = decide ((raisedEntry entries i room e).grant < levelWithin z.levels e.lastDemand) := by
  rw [← levelsAt_of_entry hz]
  rfl

/-- Raising goes up to the demand level, from level to level (R129). -/
theorem raisedEntry_grant (hz : entries[i]? = some z) (room : Int) (e : GrantEntry) :
    e.grant ≤ (raisedEntry entries i room e).grant
      ∧ (e.grant ≤ levelWithin z.levels e.lastDemand → (raisedEntry entries i room e).grant ≤ levelWithin z.levels e.lastDemand)
      ∧ (e.grant ∈ z.levels → (raisedEntry entries i room e).grant ∈ z.levels) := by
  obtain ⟨raises, pays⟩ := raiseTo_pays entries i room e
  rw [demandLevel, levelsAt_of_entry hz] at pays
  refine ⟨raises, fun low => ?_, fun level => ?_⟩
  · exact pays.elim (fun same => same.le.trans low) fun ⟨_, wanted, _⟩ => wanted
  · exact pays.elim (fun same => (show raiseTo entries i room e ∈ z.levels from same ▸ level)) And.left

/-- A Room that is left pays no higher level (R129). -/
theorem raisedEntry_highest (hz : entries[i]? = some z) {room left : Int}
    (falls : left ≤ room - (e.cost (raisedEntry entries i room e).grant : Nat)) {l : Nat} (level : l ∈ z.levels)
    (above : (raisedEntry entries i room e).grant < l) (wanted : l ≤ levelWithin z.levels e.lastDemand) :
    left < ((max l e.lastApplied - max (raisedEntry entries i room e).grant e.lastApplied : Nat) : Int) := by
  have raises := (raisedEntry_grant hz room e).1
  have dear : room < e.cost l := by
    refine raiseLevel_highest (levels := levelsAt entries i) (demand := demandLevel entries i e) ?_ above ?_
    · rwa [levelsAt_of_entry hz]
    · rwa [demandLevel, levelsAt_of_entry hz]
  generalize (raisedEntry entries i room e).grant = n at *
  unfold GrantEntry.cost GrantEntry.drawn at falls dear
  omega

/-- What the rules say of an entry after a RETURN, from its record and the levels of its position (R125, R126, R129, R130). -/
structure EntryReturned (first : Bool) (z : RosterEntry) (r : CycleRecord) (room : Int) (g y : GrantEntry) : Prop where
  demanded : y.lastDemand = min 254 r.demand.toNat
  applied : y.lastApplied = min 254 r.applied.toNat
  boosted : y.effectiveClass = if r.doorOpen = true then 3 else z.priority
  seeded : y.seeded = (first || g.seeded)
  withheld : y.withheld = decide (y.grant < levelWithin z.levels y.lastDemand)
  wanted : y.grant ≤ levelWithin z.levels y.lastDemand
  level : first = true ∨ g.grant ∈ z.levels → y.grant ∈ z.levels
  kept : first = false → min g.grant (levelWithin z.levels y.lastDemand) ≤ y.grant
  highest : ∀ l ∈ z.levels, y.grant < l → l ≤ levelWithin z.levels y.lastDemand →
    room < ((max l y.lastApplied - max y.grant y.lastApplied : Nat) : Int)

theorem grantReturn_returned (consist : ∀ r ∈ a.entries, r.priority ≤ 3) (classes : ∀ g ∈ s.grants.table, g.effectiveClass ≤ 3)
    (hg : s.grants.table[i]? = some g) (hz : a.entries[i]? = some z) (hr : records[i]? = some r)
    (hy : (s.grantReturn a records).grants.table[i]? = some y) :
    EntryReturned (unseeded s.grants.table) z r (s.grantReturn a records).grants.room g y := by
  obtain ⟨n, he, lower, level, kept⟩ := tableToRaise_entry (records := records) (budget := s.grants.budget) consist classes hg hz
  obtain ⟨room, rfl, falls⟩ := grantReturn_entry consist classes he hy
  have entry := loweredEntry_eq (first := unseeded s.grants.table) (g := g) hz hr
  generalize loweredEntry a.entries records (unseeded s.grants.table) i g = l at *
  obtain ⟨raises, wanted, levels⟩ := raisedEntry_grant hz room (l.regrant n)
  have low : l.grant ≤ levelWithin z.levels l.lastDemand := by
    rw [entry]
    exact min_le_right _ _
  have demanded : (raisedEntry a.entries i room (l.regrant n)).lastDemand = l.lastDemand := rfl
  refine ⟨?_, ?_, ?_, ?_, raisedEntry_withheld hz room _, wanted (lower.trans low), fun holds => levels (level ?_),
    fun seeded => ?_, fun k hk above below => raisedEntry_highest hz falls hk above below⟩
  · exact congrArg GrantEntry.lastDemand entry
  · exact congrArg GrantEntry.lastApplied entry
  · exact congrArg GrantEntry.effectiveClass entry
  · exact congrArg GrantEntry.seeded entry
  · rw [entry]
    refine min_mem_levels ?_ (levelWithin_mem_levels z _)
    split
    · exact levelWithin_mem_levels z _
    · next seeded => exact holds.resolve_left seeded
  · refine le_trans (le_of_eq ?_) raises
    rw [demanded, show (l.regrant n).grant = l.grant from kept seeded, entry, seeded]
    rfl

end Sys2Proof.Machine

/-! PROOF. The statement about the Grant Engine (R121, R124 to R130): O53. -/

namespace Sys2Proof.Machine

variable {s : State} {a : ActiveConsist} {entries : List RosterEntry} {records : List CycleRecord} {budget : Nat}
  {table : List GrantEntry} {i : Nat} {g x y e : GrantEntry} {z : RosterEntry} {r : CycleRecord}

/-! ## The table after a RETURN -/

theorem unseeded_iff (table : List GrantEntry) : unseeded table = true ↔ ∀ g ∈ table, g.seeded = false := by
  simp [unseeded]

theorem tableToRaise_same (entries : List RosterEntry) (records : List CycleRecord) (budget : Nat) (table : List GrantEntry) :
    SameButGrants (mapTable (loweredEntry entries records (unseeded table)) table)
      (tableToRaise entries records budget table) := by
  cases first : unseeded table with
  | false =>
    rw [tableToRaise_of_seeded first]
    exact rfl
  | true =>
    rw [tableToRaise_of_unseeded first]
    exact shedTable_same _ _ _

/-- What reads neither the grants nor the Withheld flags is after a RETURN as lowering left it. -/
theorem grantReturn_map {α : Type} (s : State) (a : ActiveConsist) (records : List CycleRecord) (f : GrantEntry → α)
    (blind : ∀ (g : GrantEntry) (n : Nat), f (g.regrant n) = f g) (withheld : ∀ i g, f (withholdEntry a.entries i g) = f g) :
    (s.grantReturn a records).grants.table.map f
      = (mapTable (loweredEntry a.entries records (unseeded s.grants.table)) s.grants.table).map f := by
  rw [grantReturn_grants, map_withhold _ _ f withheld]
  exact ((tableToRaise_same _ _ _ _).trans (raisedWithin_raiseTable _ _ _).same).map_eq f (blind · 0)

theorem grantReturn_length (s : State) (a : ActiveConsist) (records : List CycleRecord) :
    (s.grantReturn a records).grants.table.length = s.grants.table.length := by
  have same := congrArg List.length (grantReturn_map s a records (fun _ => ()) (fun _ _ => rfl) fun _ _ => rfl)
  simpa [mapTable] using same

/-- The Room after a RETURN is what the budget leaves over what is granted or still drawn (R129). -/
theorem grantReturn_room (s : State) (a : ActiveConsist) (records : List CycleRecord) :
    (s.grantReturn a records).grants.room
      = (s.grants.budget : Int) - (((s.grantReturn a records).grants.table.map (·.drawn)).sum : Nat) := by
  rw [grantReturn_grants, map_withhold _ _ (·.drawn) fun _ _ => rfl]
  exact raiseTable_room _ _ _

/-- While the power still drawn exceeds the budget a RETURN raises nothing (R129). -/
theorem grantReturn_short (short : s.grants.budget < ((s.grantReturn a records).grants.table.map (·.lastApplied)).sum) :
    (s.grantReturn a records).grants.table
      = mapTable (withholdEntry a.entries) (tableToRaise a.entries records s.grants.budget s.grants.table) := by
  have applied := grantReturn_map s a records (·.lastApplied) (fun _ _ => rfl) fun _ _ => rfl
  have before := (tableToRaise_same a.entries records s.grants.budget s.grants.table).map_eq (·.lastApplied) fun _ => rfl
  rw [applied, ← before] at short
  have drawn : ((tableToRaise a.entries records s.grants.budget s.grants.table).map (·.lastApplied)).sum
      ≤ ((tableToRaise a.entries records s.grants.budget s.grants.table).map (·.drawn)).sum :=
    List.sum_le_sum fun _ _ => le_max_right _ _
  rw [grantReturn_grants, raiseTable_short]
  unfold roomOf
  omega

/-- The grants of a seeding RETURN are, before shedding, within what the coaches draw (R126). -/
theorem seeded_le_applied (entries : List RosterEntry) (records : List CycleRecord) (table : List GrantEntry) :
    grantSum (mapTable (loweredEntry entries records true) table)
      ≤ ((mapTable (loweredEntry entries records true) table).map (·.lastApplied)).sum := by
  refine List.sum_le_sum fun g hg => ?_
  obtain ⟨i, inside, rfl⟩ := List.mem_mapIdx.1 hg
  exact (min_le_left _ _).trans (levelWithin_le _ _)

/-! ## Events -/

theorem raiseGrants_port (s : State) (a : ActiveConsist) (p : PortId) : (s.raiseGrants a).port p = s.port p :=
  port_modGrants _ _ p

theorem lowered_port (s : State) (a : ActiveConsist) (records : List CycleRecord) (p : PortId) :
    (s.lowered a records).port p = s.port p :=
  port_modGrants _ _ p

/-- A RETURN that seeds nothing raises no event (R127). -/
theorem grantReturn_quiet (seeded : unseeded s.grants.table = false) : NoEvent s (s.grantReturn a records) := by
  intro p
  rw [grantReturn_eq, if_neg (by simp [seeded]), raiseGrants_port, lowered_port]

/-- A seeding RETURN that keeps within the budget sheds nothing and raises no event (R126). -/
theorem grantReturn_fits_quiet (fresh : unseeded s.grants.table = true)
    (fits : grantSum (mapTable (loweredEntry a.entries records true) s.grants.table) ≤ s.grants.budget) :
    NoEvent s (s.grantReturn a records) := by
  have within : grantSum (s.lowered a records).grants.table ≤ (s.lowered a records).grants.budget := by
    unfold State.lowered
    rw [fresh]
    exact fits
  intro p
  rw [grantReturn_eq, if_pos fresh, raiseGrants_port, shed_within within, lowered_port]

/-- A seeding RETURN that exceeds the budget sheds, and tells it (R126, R127). -/
theorem grantReturn_sheds (consist : ∀ r ∈ a.entries, r.priority ≤ 3) (classes : ∀ g ∈ s.grants.table, g.effectiveClass ≤ 3)
    (fresh : unseeded s.grants.table = true)
    (exceeds : s.grants.budget < grantSum (mapTable (loweredEntry a.entries records true) s.grants.table)) :
    RaisedAt .shedPerformed (s.grantReturn a records) := by
  have beyond : (s.lowered a records).grants.budget < grantSum (s.lowered a records).grants.table := by
    unfold State.lowered
    rw [fresh]
    exact exceeds
  rw [grantReturn_eq, if_pos fresh, shed_raises beyond (loweredTable_classes consist classes records _)]
  exact (Gentle.refl _).raiseGrants.raised

/-! ## The RETURN that seeds -/

/-- A seeding RETURN within the budget leaves each entry at least what it was seeded and lowered to, and just that while the
power still drawn exceeds the budget (R126, R129). -/
theorem grantReturn_seeds (consist : ∀ r ∈ a.entries, r.priority ≤ 3) (classes : ∀ g ∈ s.grants.table, g.effectiveClass ≤ 3)
    (fresh : unseeded s.grants.table = true)
    (fits : grantSum (mapTable (loweredEntry a.entries records true) s.grants.table) ≤ s.grants.budget)
    (he : (mapTable (loweredEntry a.entries records true) s.grants.table)[i]? = some e)
    (hy : (s.grantReturn a records).grants.table[i]? = some y) :
    e.grant ≤ y.grant
      ∧ (s.grants.budget < ((s.grantReturn a records).grants.table.map (·.lastApplied)).sum → y.grant = e.grant) := by
  rw [← shedTable_within (entries := a.entries) fits, ← tableToRaise_of_unseeded fresh] at he
  refine ⟨?_, fun short => ?_⟩
  · obtain ⟨room, rfl, -⟩ := grantReturn_entry consist classes he hy
    exact (raiseTo_pays a.entries i room e).1
  · rw [grantReturn_short short, mapTable_entry _ he] at hy
    cases hy
    rfl

/-- The sum that shedding finds, read off a table with the same classes and the grants that shedding leaves (R127). -/
theorem sumShed_read {after last : List GrantEntry} (grants : last.map (·.grant) = after.map (·.grant))
    (classes : last.map (·.effectiveClass) = table.map (·.effectiveClass)) (hy : last[i]? = some y) (mine : Nat) :
    sumShed table after i mine = ((table.map (·.grant)).mapIdx fun j b => if j = i then mine
      else if classAt last j < y.effectiveClass ∨ classAt last j = y.effectiveClass ∧ i < j then grantAt last j else b).sum := by
  have classAt_eq (j : Nat) : classAt last j = classAt table j := by
    unfold classAt
    rw [← List.getElem?_map, classes, List.getElem?_map]
  have grantAt_eq (j : Nat) : grantAt last j = grantAt after j := by
    unfold grantAt
    rw [← List.getElem?_map, grants, List.getElem?_map]
  rw [← classAt_of_entry hy]
  simp only [classAt_eq, grantAt_eq]
  refine congrArg List.sum (List.ext_getElem? fun j => ?_)
  rw [List.getElem?_mapIdx, List.getElem?_mapIdx, List.getElem?_map, Option.map_map]
  rfl

/-- A seeding RETURN that exceeds the budget leaves each entry as the rule of shedding says, and raises none (R126, R127). -/
theorem grantReturn_shed (consist : ∀ r ∈ a.entries, r.priority ≤ 3) (classes : ∀ g ∈ s.grants.table, g.effectiveClass ≤ 3)
    (fresh : unseeded s.grants.table = true)
    (exceeds : s.grants.budget < grantSum (mapTable (loweredEntry a.entries records true) s.grants.table))
    (he : (mapTable (loweredEntry a.entries records true) s.grants.table)[i]? = some e)
    (hy : (s.grantReturn a records).grants.table[i]? = some y) (hz : a.entries[i]? = some z) :
    ShedAsRuled z s.grants.budget (fun mine =>
      (((mapTable (loweredEntry a.entries records true) s.grants.table).map (·.grant)).mapIdx fun j b => if j = i then mine
        else if classAt (s.grantReturn a records).grants.table j < y.effectiveClass
            ∨ classAt (s.grantReturn a records).grants.table j = y.effectiveClass ∧ i < j then
          grantAt (s.grantReturn a records).grants.table j
        else b).sum) e.grant y.grant := by
  have applied := grantReturn_map s a records (·.lastApplied) (fun _ _ => rfl) fun _ _ => rfl
  have classesT := grantReturn_map s a records (·.effectiveClass) (fun _ _ => rfl) fun _ _ => rfl
  rw [fresh] at applied classesT
  have short : s.grants.budget < ((s.grantReturn a records).grants.table.map (·.lastApplied)).sum := by
    rw [applied]
    exact exceeds.trans_le (seeded_le_applied _ _ _)
  have table := grantReturn_short short
  rw [tableToRaise_of_unseeded fresh] at table
  have grants : (s.grantReturn a records).grants.table.map (·.grant)
      = (shedTable a.entries s.grants.budget (mapTable (loweredEntry a.entries records true) s.grants.table)).map (·.grant) := by
    rw [table]
    exact map_withhold _ _ _ fun _ _ => rfl
  obtain ⟨n, place, -, ruled⟩ := shedTable_asRuled (entries := a.entries) (budget := s.grants.budget)
    (loweredTable_classes consist classes records true) he
  have left : y.grant = n := by
    rw [table, mapTable_entry _ place] at hy
    cases hy
    rfl
  rw [left]
  have rule := ruled z hz
  rwa [funext (sumShed_read grants classesT hy)] at rule

/-! ## The statement -/

/-- The grants that a seeding RETURN would leave without shedding, entry by entry (R126). -/
theorem seeded_grants (entries : List RosterEntry) (records : List CycleRecord) (table : List GrantEntry)
    (f : Nat → GrantEntry → Nat)
    (hf : ∀ i z r g, entries[i]? = some z → records[i]? = some r → f i g
      = min (levelWithin z.levels (min 254 r.applied.toNat)) (levelWithin z.levels (min 254 r.demand.toNat)))
    (placed : table.length ≤ entries.length) (heard : table.length ≤ records.length) :
    table.mapIdx f = (mapTable (loweredEntry entries records true) table).map (·.grant) := by
  refine List.ext_getElem (by simp [mapTable]) fun i inside _ => ?_
  rw [List.length_mapIdx] at inside
  have hz : entries[i]? = some entries[i] := List.getElem?_eq_getElem _
  have hr : records[i]? = some records[i] := List.getElem?_eq_getElem _
  simp only [mapTable, List.getElem_mapIdx, List.getElem_map]
  rw [hf i _ _ _ hz hr, loweredEntry_eq hz hr, if_pos rfl]

/-- Settles O53: the command, refused or taken, and the RETURN, entry by entry, with what it sheds when it seeds. -/
theorem setSupplyBudgetShedsAtOnce : Obligations.SetSupplyBudgetShedsAtOnce := by
  refine ⟨fun s p h => ⟨setSupplyBudget_refused h, fun fits => ?_⟩, fun s a records classes consist placed heard => ?_⟩
  · obtain ⟨runs, done⟩ := setSupplyBudget_command h fits
    obtain ⟨grants, cycle⟩ := budgetTaken_items s p
    refine ⟨_, runs, (congrArg GrantEngine.budget grants).trans (setBudget_budget _ _), done, budgetTaken_keeps,
      fun used exceeds a ha classes => ?_, cycle⟩
    obtain ⟨table, raised⟩ := budgetTaken_sheds ha used exceeds classes
    rw [table]
    refine ⟨grantSum_shedTable classes, (shedTable_same _ _ _).length, raised, fun i x y hx hy => ?_⟩
    obtain ⟨n, place, lower, ruled⟩ := shedTable_asRuled (entries := a.entries) (budget := budgetOperand s p) classes hx
    cases place.symm.trans hy
    refine ⟨lower, rfl, fun z hz => ?_⟩
    have rule := ruled z hz
    rw [funext (sumShed_eq hx _)] at rule
    exact rule
  · have fresh := unseeded_iff s.grants.table
    refine ⟨grantReturn_length s a records, grantReturn_budget s a records,
      grantReturn_room s a records, fun within => ?_, fun i y hy g hg r hr x hx => ?_, fun first fits => ?_,
      fun first exceeds => ?_, fun seeded => ?_, onlyRaises_of_skeleton (skel_grantReturn s a records), ?_⟩
    · exact grantSum_grantReturn consist classes records (within.imp fresh.2 id)
    · have entry := grantReturn_returned consist classes hg hx hr hy
      refine ⟨entry.demanded, entry.applied, entry.boosted, ?_, ?_, entry.wanted,
        fun holds => entry.level (holds.imp fresh.2 id), fun seeded => ?_, entry.highest⟩
      · rw [entry.seeded, Bool.or_eq_true, fresh]
      · rw [entry.withheld, decide_eq_true_iff]
        rfl
      · rw [if_neg seeded]
        exact entry.kept (Bool.eq_false_iff.2 fun unseeded => seeded (fresh.1 unseeded))
    · rw [seeded_grants a.entries records s.grants.table _ (fun i z r g hz hr => by simp only [hz, hr, levelWithin]) placed
        heard] at fits ⊢
      refine ⟨grantReturn_fits_quiet (fresh.2 first) fits, fun i y base hy hb => ?_⟩
      rw [List.getElem?_map] at hb
      obtain ⟨e, he, rfl⟩ := Option.map_eq_some_iff.1 hb
      exact grantReturn_seeds consist classes (fresh.2 first) fits he hy
    · rw [seeded_grants a.entries records s.grants.table _ (fun i z r g hz hr => by simp only [hz, hr, levelWithin]) placed
        heard] at exceeds ⊢
      refine ⟨grantReturn_sheds consist classes (fresh.2 first) exceeds, fun i y base hy hb z hz => ?_⟩
      rw [List.getElem?_map] at hb
      obtain ⟨e, he, rfl⟩ := Option.map_eq_some_iff.1 hb
      exact grantReturn_shed consist classes (fresh.2 first) exceeds he hy hz
    · exact grantReturn_quiet (Bool.eq_false_iff.2 fun unseeded => seeded (fresh.1 unseeded))
    · rw [onlyChanges_iff_forget]
      simp

end Sys2Proof.Machine
